-- ==== Sys2Proof/Word.lean ====
section
/-! DEFINITION. Word: the number types the manual counts in (00_scope.md, "Units and quantities"). Nothing in the part is
a machine word: powers, times, counts and readings are whole numbers, and only the bits of a Share Line frame are bits. A power
is a `Nat` in load units of 50 W, a temperature an `Int` in half-degrees Celsius (R44: 50.0 °C is 100), a relative humidity a
`Nat` in half-percents (R51: 73.5 % is 147), each bare so that arithmetic reads it as it stands. -/

namespace Sys2Proof

/-- A timer: `none` while it is stopped, `some d` while it runs, where `d` is the time in ms it was started for.
The passing of time is not state: the expiry of a running timer is a command of its own. -/
abbrev Timer := Option Nat

end Sys2Proof
end

