-- ==== Sys2Proof/Syntax.lean ====
section
/-! DEFINITION. Syntax: the commands of the block, one constructor for each row of spec/opcode_table.json. An operand is what
the event brings with it from outside the part: a level read on a line, a sensor reading, a field of a received frame. -/

namespace Sys2Proof

/-- The three keys of the panel (R174). -/
inductive Key where
  | start
  | cancel
  | power
  deriving DecidableEq, Repr

/-- The commands: the events the part takes, each whole and indivisible (95_what_each_step_holds.md). -/
inductive Instr where
  /-- POWER_ON_RESET: supply is applied, and the reset is released with these three probe readings (half-degrees) and this
  humidity reading (half-percents) for the first round and the first sample, which R44 and R51 take at the release. -/
  | powerOnReset (p0 p1 p2 : Int) (rh : Int)
  /-- RESET_PIN_ASSERT. -/
  | resetPinAssert
  /-- RESET_PIN_RELEASE, with the first probe readings and humidity reading. -/
  | resetPinRelease (p0 p1 p2 : Int) (rh : Int)
  /-- STRAP_WINDOW_END, with the values read on the strap pins (R172). -/
  | strapWindowEnd (addr : Fin 16) (cap : Fin 8) (bank : Fin 16)
  /-- KEY_LINE_CHANGE: the raw line of a key changes to pressed (true) or released (false). -/
  | keyLineChange (key : Key) (pressed : Bool)
  /-- START_PRESS, with the levels of select lines 2, 1, 0 (true is high) at that moment (R12). -/
  | startPress (sel2 sel1 sel0 : Bool)
  /-- CANCEL_PRESS. -/
  | cancelPress
  /-- POWER_PRESS. -/
  | powerPress
  /-- KEY_RELEASE: a debounced release of this key. -/
  | keyRelease (key : Key)
  /-- LONG_PRESS. -/
  | longPress
  /-- HISTORY_DISPLAY_STEP. -/
  | historyDisplayStep
  /-- DOOR_OPEN. -/
  | doorOpen
  /-- DOOR_CLOSE. -/
  | doorClose
  /-- WATER_LEVEL_CHANGE: the switch now reports the level adequate (true) or low (false). -/
  | waterLevelChange (adequate : Bool)
  /-- LOCK_SENSE_CHANGE: the sense now reports locked (true) or not locked (false). -/
  | lockSenseChange (locked : Bool)
  /-- TACH_PULSE. -/
  | tachPulse
  /-- TRIP_LINE_CHANGE: the trip line is now active (true) or released (false). -/
  | tripLineChange (active : Bool)
  /-- ZERO_CROSS: `since` is the time in µs since the last taken zero-cross (R138), `dominant` the time in µs for which the
  Share Line has been dominant without a break at this moment, 0 when it is recessive (R146). -/
  | zeroCross (since dominant : Nat)
  /-- ZERO_CROSS_WATCHDOG_EXPIRY. -/
  | zeroCrossWatchdogExpiry
  /-- RESUME_TIMER_EXPIRY. -/
  | resumeTimerExpiry
  /-- PROBE_ROUND, with the three probe readings in half-degrees. -/
  | probeRound (p0 p1 p2 : Int)
  /-- HUMIDITY_SAMPLE, with the humidity reading in half-percents. -/
  | humiditySample (rh : Int)
  /-- WARM_UP_EXPIRY. -/
  | warmUpExpiry
  /-- TRACKING_EXPIRY. -/
  | trackingExpiry
  /-- SECOND_TIMER_EXPIRY. -/
  | secondTimerExpiry
  /-- PAUSE_TIMER_EXPIRY. -/
  | pauseTimerExpiry
  /-- CANCEL_COOL_TIMER_EXPIRY. -/
  | cancelCoolTimerExpiry
  /-- SHARE_PERIOD_EXPIRY. -/
  | sharePeriodExpiry
  /-- RAISE_READY_EXPIRY. -/
  | raiseReadyExpiry
  /-- ISOLATION_LIMIT_EXPIRY. -/
  | isolationLimitExpiry
  /-- ISOLATION_DWELL_EXPIRY. -/
  | isolationDwellExpiry
  /-- TACH_WATCHDOG_EXPIRY. -/
  | tachWatchdogExpiry
  /-- LOCK_CONFIRM_EXPIRY. -/
  | lockConfirmExpiry
  /-- BUZZER_STEP. -/
  | buzzerStep
  /-- LAMP_FLASH_TOGGLE. -/
  | lampFlashToggle
  /-- IDLE_HOLD_EXPIRY. -/
  | idleHoldExpiry
  /-- RECEIVE_DEMAND: the fields of the frame as received, the power fields still six bits wide (R127, R128). -/
  | receiveDemand (addr : Fin 16) (cls : Fin 4) (boost : Fin 8) (want claim draw : Fin 64)
  /-- RECEIVE_PRESENCE. -/
  | receivePresence (addr : Fin 16)
  /-- RECEIVE_JOIN_ASK. -/
  | receiveJoinAsk (addr : Fin 16) (nonce : Fin 256)
  /-- RECEIVE_JOIN_CONFIRM. -/
  | receiveJoinConfirm (addr : Fin 16) (nonce : Fin 256) (held : Fin 64)
  /-- RECEIVE_LEAVE. -/
  | receiveLeave (addr : Fin 16)
  /-- FRAME_DISCARDED. -/
  | frameDiscarded
  /-- ARBITRATION_LOST on the bit of this index of the frame being sent, counted from 0 (R131). -/
  | arbitrationLost (bit : Nat)
  /-- NOTICE_COMPLETION. -/
  | noticeCompletion
  /-- ATTEMPT_FAILED. -/
  | attemptFailed
  /-- SHED_MARK_SEEN: `ownPulse` says that a pulse of the station's own frame formed part of the interval, `inFrame` that a
  frame was in reception when the mark came (R136). -/
  | shedMarkSeen (ownPulse inFrame : Bool)
  /-- LINE_STUCK. -/
  | lineStuck
  /-- LINE_STUCK_RELEASE. -/
  | lineStuckRelease
  /-- LINE_FREED. -/
  | lineFreed
  /-- AMPLITUDE_SENSE_READING, in sense steps 0 to 1023 (R138). -/
  | amplitudeSenseReading (steps : Fin 1024)
  deriving DecidableEq, Repr

end Sys2Proof
end

