-- ==== Sys2Proof/WellFormed.lean ====
section
/-! DEFINITION. WellFormed: the bounds on operands that their types do not already state. An operand out of these bounds
cannot come from the lines of the part. -/

namespace Sys2Proof

/-- The bits of the longest frame, a DEMAND (R127). -/
def longestFrame : Nat := 38

/-- The time in µs at which a dominant line is reported stuck and its length is no longer measured (R124, R135). -/
def stuckUs : Nat := 20000

/-- A command's operands lie within what the lines can show: a lost bit is a bit of some frame, and the length of a dominant
interval is measured up to the stuck point only. -/
def WellFormed : Instr → Bool
  | .arbitrationLost b => decide (b < longestFrame)
  | .zeroCross _ dominant => decide (dominant ≤ stuckUs)
  | _ => true

end Sys2Proof
end

