-- ==== Sys2Proof/Decode.lean ====
section
/-! DEFINITION. Decode: the commands that spec/opcode_table.json spells by bits. Its fifty rows give no bits (each row's
"fields" list is empty, and the reader counts no row with fixed bits), so no word spells a command. The bits of the Share
Line frames are the part's own data and stand in Machine/Frame.lean. -/

namespace Sys2Proof

/-- The command a word spells: none, for the table gives no row any bits. -/
def decodeTableWord (_nbits _w : Nat) : Option Instr := none

end Sys2Proof
end

