-- ==== Sys2Proof/Config.lean ====
section
/-! DEFINITION. Config: the one value the manual leaves open, as a constant without a body. -/

namespace Sys2Proof

/-- The value of the free-running nonce counter at the `n`-th moment at which the part reads it (R103, R112). The counter
advances once every 2 µs of an oscillator that is locked to nothing and differs from part to part by up to 2 %, so no value of
it follows from the commands. It is a free value: nothing constrains it, and no statement rests on it. -/
opaque Config.freeNonce : Nat → Fin 256

end Sys2Proof
end

