-- ==== Sys2Proof/Machine/Constants.lean ====
section
/-! DEFINITION. Constants: the fixed figures of the manual, each with the rule that states it. Times are in ms unless the name
says otherwise. -/

namespace Sys2Proof.Machine

/-! ## Power (00_scope.md, R88, R150, R153, R172) -/

/-- The control reserve kept back on every feeder (R83). -/
def controlReserve : Nat := 4
/-- The own ceiling of want, claim, grant, allowance and draw (R88, R128). -/
def ownCeiling : Nat := 48
/-- The rating of the air heater (R153). -/
def heaterRating : Nat := 30
/-- The rating of the steam generator (R153). -/
def steamRating : Nat := 20
/-- The steam minimum, the least power at which the generator makes usable steam (R5). -/
def steamMinimum : Nat := 8
/-- The heater level below which a DRY phase that calls for heat is starved (R21). -/
def dryMinimum : Nat := 6

/-! ## Temperatures, in half-degrees, and humidities, in half-percents -/

/-- 50.0 °C: the lock is requested at this Tmax and above (R4, R30). -/
def lockTemp : Int := 100
/-- 45.0 °C: the bound between cancel cooling and IDLE (R40, R41). -/
def coolTemp : Int := 90
/-- 70.0 °C: the over-temperature latch sets at this Tmax and above (R49). -/
def overTempSet : Int := 140
/-- 60.0 °C: the over-temperature latch may clear below this Tmax (R49). -/
def overTempClear : Int := 120
/-- 2.0 °C: the fall below the target at which the regulation latch turns on again (R23). -/
def latchBand : Int := 4
/-- −10.0 °C: the lowest probe reading within range (R45). -/
def probeLow : Int := -20
/-- 110.0 °C: the highest probe reading within range (R45), and Tr and Tmax after a reset (R50). -/
def probeHigh : Int := 220
/-- 100.0 %: the highest valid humidity reading (R51). -/
def humidityHigh : Int := 200
/-- 2.0 %: the largest fall over the last minute at which the dry-point test passes (R55). -/
def dryRate : Int := 4
/-- The samples of a full humidity ring (R51). -/
def ringLength : Nat := 61

/-! ## Timers -/

def strapWindowMs : Nat := 10            -- R172
def debounceMs : Nat := 30               -- R174
def longPressMs : Nat := 5000            -- R174
def lampFlashMs : Nat := 500             -- R175
def displayCodeMs : Nat := 1000          -- R170
def displayPartMs : Nat := 500           -- R170
def probeRoundMs : Nat := 250            -- R44
def humiditySampleMs : Nat := 1000       -- R51
def warmUpMs : Nat := 120000             -- R53
def trackingMs : Nat := 60000            -- R54
def secondMs : Nat := 1000               -- R20
def pauseMs : Nat := 1800000             -- R37
def cancelCoolMs : Nat := 600000         -- R41
def raiseReadyMs : Nat := 1000           -- R94
def isolationLimitMs : Nat := 45000      -- R96
def isolationDwellMs : Nat := 5000       -- R119
def idleHoldMs : Nat := 12               -- R129
def lineFreedMs : Nat := 100             -- R135
def watchdogMs : Nat := 40               -- R139
def resumeMs : Nat := 1000               -- R143
def tachWatchdogMs : Nat := 3000         -- R158
def lockConfirmMs : Nat := 2000          -- R161

/-! ## The Share Line, in µs (R121) -/

/-- The lengths driven: a bit 1, a bit 0, a start pulse, a shed mark. -/
def shortPulseUs : Nat := 200
def longPulseUs : Nat := 600
def startPulseUs : Nat := 2000
def markPulseUs : Nat := 10000
/-- From the start pulse's leading edge to the first bit's, and from one bit's to the next. -/
def firstBitUs : Nat := 3000
def bitSlotUs : Nat := 1000
/-- The recessive time after the last bit's slot that completes a frame. -/
def stopGapUs : Nat := 2500
/-- The least time after the last leading edge from which an edge in a bit slot is in its place (R125, R130, R132). -/
def slotOpensUs : Nat := 800

/-! ## Counts and thresholds -/

/-- Own periods for which a shed hold is set (R98). -/
def shedHoldPeriods : Nat := 3
/-- Own periods of JOIN_LISTEN, and own period expiries of JOIN_HOLD (R111, R112). -/
def joinPeriods : Nat := 2
/-- Quiet expiries from one PRESENCE to the next (R109). -/
def presencePeriods : Nat := 8
/-- The presence count at entry to MEMBER and at each load of a DEMAND (R109). -/
def presenceStart : Nat := 7
/-- The rise of want over the reference want that loads a DEMAND (R110). -/
def wantStep : Nat := 4
/-- The failure limit (R134). -/
def failureLimit : Nat := 8
/-- The half-cycles of a learning attempt (R140). -/
def learningLength : Nat := 16
/-- The least nominal peak a learning attempt may find, in sense steps (R140). -/
def nominalLow : Nat := 100
/-- The least time in µs from one taken zero-cross to the next (R138). -/
def takenUs : Nat := 5000
/-- The length in µs from which a dominant interval is a shed mark, and at which a request drives nothing (R124, R146). -/
def markUs : Nat := 8000
/-- The highest boost, and the starved seconds that raise it by one (R22). -/
def boostMax : Nat := 7
def starvedMinute : Nat := 60
/-- The records the fault history holds (R169). -/
def historyLength : Nat := 4
/-- The age at which an entry's age stays (R69). -/
def ageMax : Nat := 255
/-- The ages at which an ACTIVE, STALE, QUIET or JOINING entry changes state (R69). -/
def activeAge : Nat := 3
def staleAge : Nat := 8
def quietAge : Nat := 20
def joiningAge : Nat := 6
/-- The sag count at which a low half-cycle may originate a shed mark, and at which the count stays (R144). -/
def sagLimit : Nat := 3

end Sys2Proof.Machine
end

