-- ==== Sys2Proof/Machine/State.lean ====
section
/-! DEFINITION. State: everything the manual gives the part to hold, block by block as 00_scope.md lists the blocks, and the
queue of commands. Plain data throughout. -/

namespace Sys2Proof.Machine

/-! ## Why a step could stop -/

/-- The faults a step can end in: none. The part has no condition in which it stops taking events: its own faults (R163) are
states it goes on from, and they stand in `FaultUnit`. -/
inductive Fault where
  deriving DecidableEq, Repr

/-- The refusals a step can end in. -/
inductive Refusal where
  /-- Raised by `exec` for a row of the table that has no meaning yet; no row is left so. Safe: it stops the run. -/
  | notModelled (mnemonic : String)
  deriving DecidableEq, Repr

/-! ## Programme ROM (R1, R2) -/

/-- The kind of a phase (R1). -/
inductive PhaseKind where
  | steam
  | settle
  | dry
  | freshen
  | cool
  deriving DecidableEq, Repr

/-- A phase record: minutes, target in half-degrees, the two wants in load units, fan level, and drop in half-percents; the fields
a kind does not carry are absent, not zero (R1, R2). -/
structure Record where
  kind : PhaseKind
  minutes : Nat
  target : Option Int
  steam : Option Nat
  heater : Option Nat
  fan : Nat
  drop : Option Nat
  deriving DecidableEq, Repr

/-! ## Cycle Controller (section 2.1) -/

/-- The cycle states. -/
inductive CycleState where
  | idle
  | running
  | held
  | paused
  | halted
  | cancelCool
  | done
  | standby
  deriving DecidableEq, Repr

/-- What a paused phase resumes from (R37); `peak` is present when the phase is DRY. -/
structure PauseContext where
  index : Nat
  remaining : Nat
  boost : Nat
  peak : Option Nat
  deriving DecidableEq, Repr

/-- The Cycle Controller's items, in the order of the table of section 2.1. -/
structure Cycle where
  st : CycleState
  programme : Fin 8
  index : Nat
  record : Option Record
  remaining : Nat
  second : Timer
  starved : Bool
  starvedSecs : Nat
  boost : Nat
  latch : Bool
  context : Option PauseContext
  pause : Timer
  cancelCool : Timer
  deriving DecidableEq, Repr

/-- What the Cycle Controller has last handed to the other blocks: the two parts of want, class and boost (R24, R25, R22), and
the requested fan level (0 is off), lock and valve (R29 to R31). -/
structure Request where
  steam : Nat
  heater : Nat
  cls : Nat
  boost : Nat
  fan : Nat
  lock : Bool
  valve : Bool
  deriving DecidableEq, Repr

/-- Want, the sum of the steam part and the heater part (R24). -/
abbrev Request.want (r : Request) : Nat := r.steam + r.heater

/-! ## Climate Measurement Unit (section 3.1) -/

/-- One temperature probe: its last reading within range, if any, and its validity (R45). -/
structure Probe where
  reading : Option Int
  valid : Bool
  deriving DecidableEq, Repr

/-- The states of the dry watch (section 3.4). -/
inductive Watch where
  | off
  | warmUp
  | tracking
  | testing
  | found
  deriving DecidableEq, Repr

/-- The Climate Measurement Unit's items; the ring is oldest first. -/
structure Climate where
  p0 : Probe
  p1 : Probe
  p2 : Probe
  invalid : Nat
  tr : Int
  tmax : Int
  roundTimer : Timer
  overTemp : Bool
  ring : List Nat
  humidityValid : Bool
  sampleTimer : Timer
  watch : Watch
  drop : Option Nat
  peak : Nat
  warmUp : Timer
  tracking : Timer
  dryPoint : Bool
  deriving DecidableEq, Repr

/-! ## Peer Table (R61) -/

/-- What a DEMAND announces, and an ACTIVE, QUIET or STALE entry holds. -/
structure Announce where
  cls : Nat
  boost : Nat
  want : Nat
  claim : Nat
  draw : Nat
  deriving DecidableEq, Repr

/-- One Peer Table entry: each state carries the fields R61 gives it. -/
inductive Entry where
  | empty
  | joining (held : Nat) (age : Nat)
  | active (a : Announce) (age : Nat)
  | quiet (a : Announce) (age : Nat)
  | stale (a : Announce) (age : Nat)
  deriving DecidableEq, Repr

/-! ## Load Share Unit (section 5.1) -/

/-- A running raise-ready timer, with its target claim (R94). -/
structure RaiseReady where
  ms : Nat
  target : Nat
  deriving DecidableEq, Repr

/-- The Load Share Unit's items; `hold` is the shed hold, `limit` the isolation limit (`none` when lifted). -/
structure LoadShare where
  period : Timer
  grant : Nat
  allowance : Nat
  raiseReady : Option RaiseReady
  hold : Nat
  arm : Bool
  limit : Option Nat
  limitTimer : Timer
  deriving DecidableEq, Repr

/-! ## Membership Controller (section 6.2) -/

/-- The membership states. -/
inductive MemberState where
  | joinListen
  | joinAsk
  | joinHold
  | joinConfirm
  | member
  | isolated
  | duplicate
  | leaving
  | standby
  deriving DecidableEq, Repr

/-- The five kinds of notice (R102). -/
inductive NoticeKind where
  | leave
  | joinConfirm
  | joinAsk
  | demand
  | presence
  deriving DecidableEq, Repr

/-- A notice with its contents (R102, R105). -/
inductive Notice where
  | leave
  | joinConfirm (nonce : Fin 256) (held : Nat)
  | joinAsk (nonce : Fin 256)
  | demand (a : Announce)
  | presence
  deriving DecidableEq, Repr

/-- The Membership Controller's items, in the order of the table of section 6.2. -/
structure Membership where
  st : MemberState
  slot : Option Notice
  inFlight : Bool
  heldOver : Option NoticeKind
  periodCount : Nat
  nonceCounter : Fin 256
  joinNonce : Option (Fin 256)
  presence : Nat
  refWant : Nat
  lastClaim : Nat
  returnMark : Bool
  dwell : Timer
  lineFree : Bool
  deriving DecidableEq, Repr

/-! ## Share Line Framer (section 7.2) -/

/-- The framer states. -/
inductive FramerState where
  | silent
  | listen
  | waiting
  | receiving
  | sending
  | stuck
  deriving DecidableEq, Repr

/-- A frame in reception: the bits received so far, and the expected length once the kind is known (R125). -/
structure Reception where
  bits : List Bool
  expected : Option Nat
  deriving DecidableEq, Repr

/-- A frame being sent: the contents taken from the slot, the frame's bits with the check field, and the index of the pulse
being sent: 0 for the start pulse, k for bit k − 1, one more than the bits in the stop gap (R130). -/
structure Sending where
  notice : Notice
  bits : List Bool
  index : Nat
  deriving DecidableEq, Repr

/-- What the line driver drives (R121): a frame's start pulse, one of its bits, or a shed mark, requested when the line had been
dominant for `begun` µs (R146). -/
inductive Drive where
  | start
  | bit (b : Bool)
  | mark (begun : Nat)
  deriving DecidableEq, Repr

/-- The framer's items. `holdDone`: the idle hold has run its 12 ms and no pulse has come since (R129). `lost`: the attempt in
flight has lost arbitration and its outcome is not yet reported (R131). `drive`: the line driver (R122): the pulse it drives or is
to drive in the slot now open, until that pulse's trailing edge is seen; none is released. -/
structure Framer where
  st : FramerState
  idleHold : Timer
  holdDone : Bool
  lineFreed : Timer
  failures : Nat
  reception : Option Reception
  sending : Option Sending
  lost : Bool
  drive : Option Drive
  deriving DecidableEq, Repr

/-- What the other stations put on the Share Line, the model's own input: a pulse, which they drive for `length` µs from `since` µs
after the last timing edge; or no pulse of theirs up to `since` µs after it. The timing edge is the leading edge of the last
observed pulse that is no glitch, and for the front of the list that of the last such pulse on the line; while the own driver
drives a start pulse or a mark, it is the edge of the dominant interval it drives in (log entry 11). Pulses may overlap: the line
is the wired-OR of all of these and of the own driver (R121). -/
inductive LineObs where
  | pulse (since length : Nat)
  | quiet (since : Nat)
  deriving DecidableEq, Repr

/-! ## Feeder Supervisor (section 8.1) -/

/-- The mains learning states; `notStarted` is the time before the strap window ends, when learning has not begun (R139). -/
inductive MainsState where
  | notStarted
  | learning
  | running
  | lost
  deriving DecidableEq, Repr

/-- The Feeder Supervisor's items. `crossed`: a zero-cross has been taken since reset (R138). `halfOpen`: the last taken
zero-cross opened a half-cycle that the next one closes in the present state (R140, R142). -/
structure Feeder where
  st : MainsState
  window : Option Nat
  nominal : Option Nat
  intervals : List Nat
  peaks : List Nat
  peak : Nat
  crossed : Bool
  halfOpen : Bool
  sagRun : Nat
  watchdog : Timer
  resume : Timer
  deriving DecidableEq, Repr

/-! ## Load Output Unit (section 9.1) -/

/-- The Load Output Unit's items, with its gate outputs. `fan` 0 is off, and `fanFirst` and `fanSecond` are the two fan-speed
outputs; `lock` true commands lock and drives the solenoid; `valve` true opens the steam valve gate. -/
structure LoadOut where
  steamAssigned : Nat
  heaterAssigned : Nat
  heaterOff : Bool
  steamOff : Bool
  valveOff : Bool
  fanOff : Bool
  steamLevel : Nat
  heaterLevel : Nat
  draw : Nat
  position : Nat
  heaterCount : Nat
  steamCount : Nat
  heaterGate : Bool
  steamGate : Bool
  fan : Nat
  fanFirst : Bool
  fanSecond : Bool
  tachConfirmed : Bool
  tachWatchdog : Timer
  lock : Bool
  lockConfirm : Timer
  valve : Bool
  deriving DecidableEq, Repr

/-! ## Fault Unit (R163, section 10.2) -/

/-- The eleven fault kinds, in the order of their codes (R163). -/
inductive FaultKind where
  | overTemp
  | probeFault
  | mainsLost
  | addressConflict
  | waterEmpty
  | fanStall
  | lockFault
  | lineIsolated
  | bankOverflow
  | probeDegraded
  | humidityFault
  deriving DecidableEq, Repr

/-- The fault classes: A ranks above B, B above C. -/
inductive FaultClass where
  | a
  | b
  | c
  deriving DecidableEq, Repr

/-- A history record (R169). -/
structure FaultRecord where
  code : Nat
  programme : Fin 8
  index : Nat
  deriving DecidableEq, Repr

/-- The Fault Unit's items: `waiting` is the pending list, `code` the number on the fault-code outputs. -/
structure FaultUnit where
  active : Option FaultKind
  waiting : List FaultKind
  history : List FaultRecord
  code : Nat
  deriving DecidableEq, Repr

/-! ## Cabinet Line Interface (chapter 11) -/

/-- The direction of the eleven strap pins: inputs in the strap window, outputs from its end on (R172). -/
inductive PinDirection where
  | input
  | output
  deriving DecidableEq, Repr

/-- The straps as latched and the constants formed from them; all zero before the strap window ends (R172). -/
structure Straps where
  window : Timer
  pins : PinDirection
  latched : Bool
  address : Nat
  capClass : Nat
  bank : Nat
  capacity : Nat
  bankSize : Nat
  aIso : Nat
  periodMs : Nat
  deriving DecidableEq, Repr

/-- One key: its raw line, its debounced state (true is pressed) and its debounce timer (R174). -/
structure KeyLine where
  raw : Bool
  debounced : Bool
  debounce : Timer
  deriving DecidableEq, Repr

/-- What the five phase lamps show: at most one is lit or flashing (R175). -/
inductive PhaseLamp where
  | dark
  | lit (kind : PhaseKind)
  | flashing (kind : PhaseKind) (on : Bool)
  deriving DecidableEq, Repr

/-- The buzzer patterns (R176). -/
inductive Pattern where
  | click
  | doneTones
  | abandon
  | classA
  deriving DecidableEq, Repr

/-- The pattern now sounding, its step (even steps are tones, odd ones gaps) and the time of that step. -/
structure Sounding where
  pattern : Pattern
  step : Nat
  ms : Nat
  deriving DecidableEq, Repr

/-- The part of a record that the history display shows (R170). -/
inductive DisplayPart where
  | code
  | programme
  | index
  | separator
  deriving DecidableEq, Repr

/-- A running history display: the record shown, those still to come, the part shown and its time (R170). -/
structure Display where
  shown : FaultRecord
  rest : List FaultRecord
  part : DisplayPart
  ms : Nat
  deriving DecidableEq, Repr

/-- The Cabinet Line Interface's keys, lamps, buzzer and history display. -/
structure Panel where
  start : KeyLine
  cancel : KeyLine
  power : KeyLine
  longPress : Timer
  phaseLamp : PhaseLamp
  flash : Timer
  doneLamp : Bool
  waitLamp : Bool
  buzzer : Option Sounding
  display : Option Display
  deriving DecidableEq, Repr

/-- The levels of the cabinet lines that keep a level between events. -/
structure Lines where
  doorOpen : Bool
  waterLow : Bool
  locked : Bool
  trip : Bool
  deriving DecidableEq, Repr

/-! ## The whole part -/

/-- The state of the part. The last four fields are the model's own: whether the RESET input is asserted now, how often the
nonce counter has been read, what the other stations are still to put on the Share Line, and the commands waiting, first in first out. -/
structure State where
  cycle : Cycle
  request : Request
  climate : Climate
  table : List Entry
  share : LoadShare
  member : Membership
  framer : Framer
  feeder : Feeder
  loads : LoadOut
  faults : FaultUnit
  straps : Straps
  panel : Panel
  lines : Lines
  inReset : Bool
  nonceReads : Nat
  line : List LineObs
  pending : List Instr
  deriving DecidableEq, Repr

/-! ## Reset values, block by block -/

/-- R16. -/
def Cycle.reset : Cycle :=
  { st := .idle, programme := 0, index := 0, record := none, remaining := 0, second := none, starved := false,
    starvedSecs := 0, boost := 0, latch := false, context := none, pause := none, cancelCool := none }

/-- R16: want, class and boost 0, fan off, valve closed; the lock is requested by the Tmax of 110.0 °C (R50, R30). -/
def Request.reset : Request :=
  { steam := 0, heater := 0, cls := 0, boost := 0, fan := 0, lock := true, valve := false }

/-- R50, R60. -/
def Climate.reset : Climate :=
  { p0 := ⟨none, true⟩, p1 := ⟨none, true⟩, p2 := ⟨none, true⟩, invalid := 0, tr := probeHigh, tmax := probeHigh,
    roundTimer := some probeRoundMs, overTemp := false, ring := [], humidityValid := true,
    sampleTimer := some humiditySampleMs, watch := .off, drop := none, peak := 0, warmUp := none, tracking := none,
    dryPoint := false }

/-- R62: every entry EMPTY. -/
def emptyTable : List Entry := List.replicate 16 .empty

/-- R79. -/
def LoadShare.reset : LoadShare :=
  { period := none, grant := 0, allowance := 0, raiseReady := none, hold := 0, arm := true, limit := some 0,
    limitTimer := some isolationLimitMs }

/-- R103, after power-on reset. -/
def Membership.reset : Membership :=
  { st := .standby, slot := none, inFlight := false, heldOver := none, periodCount := 0, nonceCounter := 0,
    joinNonce := none, presence := presenceStart, refWant := 0, lastClaim := 0, returnMark := false, dwell := none,
    lineFree := false }

/-- R122, after power-on reset. -/
def Framer.reset : Framer :=
  { st := .silent, idleHold := none, holdDone := false, lineFreed := none, failures := 0, reception := none,
    sending := none, lost := false, drive := none }

/-- R139, after power-on reset. -/
def Feeder.reset : Feeder :=
  { st := .notStarted, window := none, nominal := none, intervals := [], peaks := [], peak := 0, crossed := false,
    halfOpen := false, sagRun := 0, watchdog := none, resume := none }

/-- R149, with the lock command as requested at the reset's Tmax and the lock sense not locked. -/
def LoadOut.reset : LoadOut :=
  { steamAssigned := 0, heaterAssigned := 0, heaterOff := true, steamOff := true, valveOff := true, fanOff := false,
    steamLevel := 0, heaterLevel := 0, draw := 0, position := 0, heaterCount := 0, steamCount := 0, heaterGate := false,
    steamGate := false, fan := 0, fanFirst := false, fanSecond := false, tachConfirmed := false,
    tachWatchdog := none, lock := true, lockConfirm := some lockConfirmMs, valve := false }

/-- R164, after power-on reset. -/
def FaultUnit.reset : FaultUnit := { active := none, waiting := [], history := [], code := 0 }

/-- R172: the strap window has just opened, and the strap pins are inputs. -/
def Straps.reset : Straps :=
  { window := some strapWindowMs, pins := .input, latched := false, address := 0, capClass := 0, bank := 0, capacity := 0, bankSize := 0,
    aIso := 0, periodMs := 0 }

/-- R174: a released key. -/
def KeyLine.reset : KeyLine := { raw := false, debounced := false, debounce := none }

/-- R173: no key pressed, no long-press timer, every lamp dark, the buzzer silent, no history display. -/
def Panel.reset : Panel :=
  { start := KeyLine.reset, cancel := KeyLine.reset, power := KeyLine.reset, longPress := none, phaseLamp := .dark,
    flash := none, doneLamp := false, waitLamp := false, buzzer := none, display := none }

/-- DESIGN CHOICE (log entry 2): door closed, water adequate, lock not locked, trip line released. -/
def Lines.reset : Lines := { doorOpen := false, waterLow := false, locked := false, trip := false }

/-- The part at the release of a power-on reset, before the first probe round and the first humidity reading, which
POWER_ON_RESET takes with the readings it brings (log entry 3). -/
def State.reset : State :=
  { cycle := Cycle.reset, request := Request.reset, climate := Climate.reset, table := emptyTable, share := LoadShare.reset,
    member := Membership.reset, framer := Framer.reset, feeder := Feeder.reset, loads := LoadOut.reset,
    faults := FaultUnit.reset, straps := Straps.reset, panel := Panel.reset, lines := Lines.reset, inReset := false,
    nonceReads := 0, line := [], pending := [] }

end Sys2Proof.Machine
end

