-- ==== Sys2Proof/Machine/Rom.lean ====
section
/-! DEFINITION. Rom: the Programme ROM (R11, R13) and what a phase kind gives of itself (R3, R4, R5). -/

namespace Sys2Proof.Machine

/-- A STEAM record: target °C, steam and heater wants (R2). -/
def steamRecord (minutes : Nat) (target : Int) (steam heater : Nat) (fan : Nat) : Record :=
  { kind := .steam, minutes, target := some (2 * target), steam := some steam, heater := some heater, fan, drop := none }

/-- A FRESHEN record (R2). -/
def freshenRecord (minutes : Nat) (target : Int) (steam heater : Nat) (fan : Nat) : Record :=
  { kind := .freshen, minutes, target := some (2 * target), steam := some steam, heater := some heater, fan, drop := none }

/-- A DRY record: target °C, heater want and humidity drop in whole percents (R2). -/
def dryRecord (minutes : Nat) (target : Int) (heater : Nat) (fan : Nat) (drop : Nat) : Record :=
  { kind := .dry, minutes, target := some (2 * target), steam := none, heater := some heater, fan, drop := some (2 * drop) }

/-- A SETTLE record (R2). -/
def settleRecord (minutes fan : Nat) : Record :=
  { kind := .settle, minutes, target := none, steam := none, heater := none, fan, drop := none }

/-- A COOL record (R2). -/
def coolRecord (minutes fan : Nat) : Record :=
  { kind := .cool, minutes, target := none, steam := none, heater := none, fan, drop := none }

/-- The eight programmes, each an ordered list of phase records (R13). -/
def programme : Nat → List Record
  | 0 => [freshenRecord 10 45 8 10 2, coolRecord 3 3]
  | 1 => [steamRecord 12 55 20 6 1, settleRecord 5 1, dryRecord 30 50 30 2 10, coolRecord 5 3]
  | 2 => [steamRecord 20 60 20 10 1, settleRecord 8 1, dryRecord 40 55 30 2 12, coolRecord 5 3]
  | 3 => [steamRecord 8 45 12 4 1, settleRecord 5 1, dryRecord 40 40 16 2 8, coolRecord 5 3]
  | 4 => [dryRecord 90 55 30 3 15, coolRecord 8 3]
  | 5 => [dryRecord 90 40 18 2 10, coolRecord 8 3]
  | 6 => [freshenRecord 6 40 8 6 1, settleRecord 10 1, dryRecord 60 45 20 2 8, coolRecord 6 3]
  | 7 => [steamRecord 25 65 20 14 1, settleRecord 10 1, dryRecord 45 55 30 2 14, coolRecord 8 3]
  | _ => []

/-- A read of the ROM: the record of that phase, or `none` for end of programme (R11). -/
def readRom (p : Fin 8) (index : Nat) : Option Record := (programme p.val)[index]?

/-- The class of a phase kind (R3). -/
def PhaseKind.cls : PhaseKind → Nat
  | .steam => 3
  | .dry => 2
  | .freshen => 1
  | .settle => 0
  | .cool => 0

/-- The phase kinds that require the door locked (R4). -/
def PhaseKind.needsLock : PhaseKind → Bool
  | .steam => true
  | .settle => true
  | .freshen => true
  | .dry => false
  | .cool => false

/-- The phase kinds that use steam: the valve may be opened in them and their steam want counts (R5, R24). -/
def PhaseKind.usesSteam : PhaseKind → Bool
  | .steam => true
  | .freshen => true
  | .settle => false
  | .dry => false
  | .cool => false

end Sys2Proof.Machine
end

