-- ==== Sys2Proof/Machine/Flags.lean ====
section
/-! DEFINITION. Flags: everything the part forms afresh from its inputs: the requests of the Cycle Controller, the fan command,
the forced-off flags, the levels, the starvation condition, the fault order and the lamps. -/

namespace Sys2Proof.Machine

/-! ## The Cycle Controller's requests -/

/-- The kind of the phase record held, if any. -/
def Cycle.kind (c : Cycle) : Option PhaseKind := c.record.map Record.kind

/-- The cycle is RUNNING in a STEAM or FRESHEN phase. -/
def Cycle.steaming (c : Cycle) : Bool :=
  decide (c.st = .running) && (c.record.map fun r => r.kind.usesSteam).getD false

/-- The steam part of want (R24). -/
def steamPart (c : Cycle) (waterLow : Bool) : Nat :=
  if c.steaming && !waterLow then (c.record.bind Record.steam).getD 0 else 0

/-- The heater part of want (R24). -/
def heaterPart (c : Cycle) : Nat :=
  if decide (c.st = .running) && c.latch then (c.record.bind Record.heater).getD 0 else 0

/-- The class handed on (R25). -/
def classOf (c : Cycle) : Nat :=
  if c.st = .running then (c.record.map fun r => r.kind.cls).getD 0 else 0

/-- The requested fan level, 0 for off (R29). -/
def fanRequest (c : Cycle) : Nat :=
  match c.st with
  | .running | .held => (c.record.map Record.fan).getD 0
  | .cancelCool | .halted => 3
  | .idle | .paused | .done | .standby => 0

/-- The lock request: by the phase kind, in CANCEL_COOL, or by Tmax (R30). -/
def lockRequest (c : Cycle) (tmax : Int) : Bool :=
  (match c.st with
    | .running | .held => (c.record.map fun r => r.kind.needsLock).getD false
    | .cancelCool => true
    | .idle | .paused | .halted | .done | .standby => false)
  || decide (lockTemp ≤ tmax)

/-- The Cycle Controller's requests as its inputs give them (R24, R25, R22, R29 to R31). -/
def formRequest (s : State) : Request :=
  { steam := steamPart s.cycle s.lines.waterLow, heater := heaterPart s.cycle, cls := classOf s.cycle,
    boost := s.cycle.boost, fan := fanRequest s.cycle, lock := lockRequest s.cycle s.climate.tmax,
    valve := s.cycle.steaming }

/-! ## Fault kinds and their order -/

/-- The code of a fault (R163). -/
def FaultKind.code : FaultKind → Nat
  | .overTemp => 1
  | .probeFault => 2
  | .mainsLost => 3
  | .addressConflict => 4
  | .waterEmpty => 5
  | .fanStall => 6
  | .lockFault => 7
  | .lineIsolated => 8
  | .bankOverflow => 9
  | .probeDegraded => 10
  | .humidityFault => 11

/-- The class of a fault (R163). -/
def FaultKind.cls : FaultKind → FaultClass
  | .overTemp | .probeFault | .mainsLost | .addressConflict => .a
  | .waterEmpty | .fanStall | .lockFault => .b
  | .lineIsolated | .bankOverflow | .probeDegraded | .humidityFault => .c

/-- The rank of a class, 0 the highest (R163). -/
def FaultClass.rank : FaultClass → Nat
  | .a => 0
  | .b => 1
  | .c => 2

/-- The rank of a fault's class. -/
def FaultKind.rank (k : FaultKind) : Nat := k.cls.rank

/-- A fault is held: it is the active fault or a pending one (R163). -/
def FaultUnit.holds (f : FaultUnit) (k : FaultKind) : Bool := decide (f.active = some k) || f.waiting.contains k

/-- The class of the active fault, if any (R168). -/
def FaultUnit.activeClass (f : FaultUnit) : Option FaultClass := f.active.map FaultKind.cls

/-- A class A or B fault is active. -/
def FaultUnit.blocking (f : FaultUnit) : Bool :=
  decide (f.activeClass = some .a) || decide (f.activeClass = some .b)

/-- The code of the active fault, or 0 (R164). -/
def FaultUnit.activeCode (f : FaultUnit) : Nat := (f.active.map FaultKind.code).getD 0

/-- The pending list with an arriving fault: after every pending fault of its own or a higher class (R165). -/
def joinWaiting (k : FaultKind) : List FaultKind → List FaultKind
  | [] => [k]
  | j :: rest => if j.rank ≤ k.rank then j :: joinWaiting k rest else k :: j :: rest

/-- The pending list with a preempted fault: first among the pending faults of its class (R165). -/
def preemptWaiting (k : FaultKind) : List FaultKind → List FaultKind
  | [] => [k]
  | j :: rest => if j.rank < k.rank then j :: preemptWaiting k rest else k :: j :: rest

/-- The active fault and the pending list once a raise is taken (R165). -/
def raiseInto (k : FaultKind) (f : FaultUnit) : FaultUnit :=
  if f.holds k then f
  else
    match f.active with
    | none => { f with active := some k }
    | some x =>
      if k.rank < x.rank then { f with active := some k, waiting := preemptWaiting x f.waiting }
      else { f with waiting := joinWaiting k f.waiting }

/-- The active fault and the pending list once a withdraw is taken (R166). -/
def withdrawFrom (k : FaultKind) (f : FaultUnit) : FaultUnit :=
  if f.active = some k then
    match f.waiting with
    | [] => { f with active := none }
    | j :: rest => { f with active := some j, waiting := rest }
  else { f with waiting := f.waiting.filter fun j => j ≠ k }

/-! ## The Load Output Unit's formed items -/

/-- The assigned steam level (R150). -/
def assignedSteam (a steam : Nat) : Nat :=
  if steamMinimum ≤ min a steam then min a steam else 0

/-- The assigned heater level (R150). -/
def assignedHeater (a steam heater : Nat) : Nat := min (a - assignedSteam a steam) heater

/-- The fan command (R157). -/
def fanCommand (s : State) : Nat :=
  if s.lines.doorOpen then 0
  else if s.cycle.st = .halted then (if s.faults.holds .fanStall then 1 else 3)
  else if s.request.fan = 0 then (if s.faults.holds .fanStall then 1 else 0)
  else s.request.fan

/-- The conditions that force off both the heater and the steam generator (R151). -/
def loadsForced (s : State) : Bool :=
  decide (s.loads.fan = 0) || !s.loads.tachConfirmed || s.lines.trip || s.lines.doorOpen ||
    !(decide (s.cycle.st = .running) || decide (s.cycle.st = .cancelCool)) || s.faults.blocking

/-- The firing count of a level for one window, 0 before a window length is learned (R153). -/
def firingCount (window : Option Nat) (level rating : Nat) : Nat := level * window.getD 0 / rating

/-- The half-cycle at window position `k` fires under count `n` of a window of `w` (R154). -/
def fires (n w k : Nat) : Bool := decide (k * n / w < (k + 1) * n / w)

/-- The starvation condition of the current phase (R21). -/
def starvation (s : State) : Bool :=
  decide (s.cycle.st = .running) &&
    match s.cycle.kind with
    | some .steam | some .freshen => decide (0 < s.request.steam) && decide (s.loads.steamLevel = 0)
    | some .dry => s.cycle.latch && decide (s.loads.heaterLevel < dryMinimum)
    | some .settle | some .cool | none => false

/-! ## Keys (R174) -/

/-- A key whose debounced state has followed its raw line to this level, its debounce timer stopped. -/
def KeyLine.steady (pressed : Bool) : KeyLine := { raw := pressed, debounced := pressed, debounce := none }

/-- The key's debounce timer runs on this level, so that its expiry brings the debounced state there; a raw change that returned
within the 30 ms has stopped it and is lost. -/
def KeyLine.settles (pressed : Bool) (k : KeyLine) : Bool := k.debounce.isSome && k.raw == pressed && k.debounced != pressed

/-! ## Lamps (R175) -/

/-- The phase lamp the cycle state asks for; a flashing one starts lit. -/
def phaseLampFor (c : Cycle) : PhaseLamp :=
  match c.st with
  | .running | .held => (c.kind.map PhaseLamp.lit).getD .dark
  | .paused => (c.kind.map fun k => PhaseLamp.flashing k true).getD .dark
  | .cancelCool => .flashing .cool true
  | .done | .idle | .halted | .standby => .dark

/-- The kind a lamp flashes for. -/
def PhaseLamp.flashes : PhaseLamp → Option PhaseKind
  | .flashing k _ => some k
  | .dark => none
  | .lit _ => none

/-- The lamp of this kind is lit at this moment; a flashing one is in its lit half (R175). -/
def PhaseLamp.shows (k : PhaseKind) : PhaseLamp → Bool
  | .dark => false
  | .lit j => decide (j = k)
  | .flashing j on => decide (j = k) && on

/-! ## The strap pins as outputs (R172, section 11.6) -/

/-- What the eleven strap pins carry as outputs, each group from its bit 0: on the ADDR pins the bits of the fault code, high for 1,
on the CAP and BANK pins a lamp each, lit or dark. Whether a lit lamp's pin is high or low the manual does not say, and neither
does the model (log entry 20). -/
structure PinOutputs where
  addr : List Bool
  cap : List Bool
  bank : List Bool
  deriving DecidableEq, Repr

/-- The strap pins drive nothing while they are inputs. As outputs the ADDR pins carry the fault-code output value, its least
significant bit on ADDR bit 0, the CAP pins the STEAM, SETTLE and DRY lamps, and the BANK pins FRESHEN, COOL, DONE and WAIT
(R172, R164, R175). -/
def strapOutputs (s : State) : Option PinOutputs :=
  match s.straps.pins with
  | .input => none
  | .output =>
    some
      { addr := (List.range 4).map s.faults.code.testBit
        cap := [PhaseKind.steam, .settle, .dry].map fun k => s.panel.phaseLamp.shows k
        bank := ([PhaseKind.freshen, .cool].map fun k => s.panel.phaseLamp.shows k) ++ [s.panel.doneLamp, s.panel.waitLamp] }

/-! ## History display (R170) -/

/-- The value a history display puts on the code lines. -/
def Display.value (d : Display) : Nat :=
  match d.part with
  | .code => d.shown.code
  | .programme => 8 + d.shown.programme.val
  | .index => 12 + d.shown.index
  | .separator => 0

/-- The fault-code output value: the display's while it runs, else the active code (R164, R170). -/
def codeOut (f : FaultUnit) (d : Option Display) : Nat :=
  match d with
  | some d => d.value
  | none => f.activeCode

/-! ## Buzzer (R176) -/

/-- The rank of a pattern, higher over lower. -/
def Pattern.rank : Pattern → Nat
  | .click => 0
  | .doneTones => 1
  | .abandon => 1
  | .classA => 2

/-- The steps of a pattern with their times in ms; even steps are tones, odd ones gaps. -/
def Pattern.steps : Pattern → List Nat
  | .click => [50]
  | .doneTones => [300, 200, 300, 200, 300]
  | .abandon => [1500]
  | .classA => [5000]

/-- A pattern at one of its steps, or none past the last. -/
def soundAt (p : Pattern) (step : Nat) : Option Sounding := (p.steps[step]?).map fun ms => { pattern := p, step, ms }

/-- What sounds once a pattern is requested (R176). -/
def requestSound (p : Pattern) (now : Option Sounding) : Option Sounding :=
  match now with
  | none => soundAt p 0
  | some x => if p.rank < x.pattern.rank then now else soundAt p 0

end Sys2Proof.Machine
end

