-- ==== Sys2Proof/Machine/Operands.lean ====
section
/-! DEFINITION. Operands: how the part reads what an event brings from outside: select lines, straps, probe and humidity
readings, and the power fields of a received frame. -/

namespace Sys2Proof.Machine

/-- The programme number of the three select lines, line 2 the most significant (R12). -/
def selectedProgramme (sel2 sel1 sel0 : Bool) : Fin 8 :=
  Fin.ofNat 8 (4 * sel2.toNat + 2 * sel1.toNat + sel0.toNat)

/-- The feeder capacity of a capacity class (R172). -/
def capacityOf : Nat → Nat
  | 0 => 32
  | 1 => 40
  | 2 => 48
  | 3 => 56
  | 4 => 64
  | 5 => 72
  | 6 => 88
  | _ => 112

/-- The latched straps with the constants formed from them; the strap pins become outputs at the same moment (R172). -/
def latchStraps (addr : Fin 16) (cap : Fin 8) (bank : Fin 16) : Straps :=
  { window := none, pins := .output, latched := true, address := addr.val, capClass := cap.val, bank := bank.val,
    capacity := capacityOf cap.val, bankSize := bank.val + 1,
    aIso := (capacityOf cap.val - controlReserve) / (bank.val + 1), periodMs := 1880 + 16 * addr.val }

/-- A probe reading within range (R45). -/
def probeInRange (r : Int) : Bool := decide (probeLow ≤ r) && decide (r ≤ probeHigh)

/-- A probe after a round that read `r` on it (R45). -/
def sampleProbe (p : Probe) (r : Int) : Probe :=
  if probeInRange r then { reading := some r, valid := true } else { p with valid := false }

/-- A humidity reading as a sample: `none` when it is outside 0.0 to 100.0 % (R51, R52). -/
def humiditySampleOf (r : Int) : Option Nat :=
  if 0 ≤ r ∧ r ≤ humidityHigh then some r.toNat else none

/-- A received want, claim, draw or held field: 49 to 63 is taken as 48 (R128). -/
def clampPower (v : Fin 64) : Nat := min v.val ownCeiling

/-- The contents of a received DEMAND as validated (R128). -/
def receivedAnnounce (cls : Fin 4) (boost : Fin 8) (want claim draw : Fin 64) : Announce :=
  { cls := cls.val, boost := boost.val, want := clampPower want, claim := clampPower claim, draw := clampPower draw }

end Sys2Proof.Machine
end

