-- ==== Sys2Proof/Machine/Frame.lean ====
section
/-! DEFINITION. Frame: the bits of a Share Line frame, their check field, and the classification of pulses (R121, R124 to
R128). -/

namespace Sys2Proof.Machine

/-! ## Kinds -/

/-- The rank of a kind, 1 the highest (R102). -/
def NoticeKind.rank : NoticeKind → Nat
  | .leave => 1
  | .joinConfirm => 2
  | .joinAsk => 3
  | .demand => 4
  | .presence => 5

/-- The value of the kind field (R127). -/
def NoticeKind.code : NoticeKind → Nat
  | .leave => 1
  | .demand => 2
  | .joinAsk => 3
  | .joinConfirm => 4
  | .presence => 5

/-- The kind of a notice. -/
def Notice.kind : Notice → NoticeKind
  | .leave => .leave
  | .joinConfirm _ _ => .joinConfirm
  | .joinAsk _ => .joinAsk
  | .demand _ => .demand
  | .presence => .presence

/-- The length of a frame by the value of its kind field; 0, 6 and 7 are invalid (R125, R127). -/
def frameLength : Nat → Option Nat
  | 1 => some 15
  | 2 => some 38
  | 3 => some 23
  | 4 => some 29
  | 5 => some 15
  | _ => none

/-- The time in µs from the start pulse's leading edge to the last leading edge of a frame of `n` bits (R121). -/
def lastEdgeUs (n : Nat) : Nat := firstBitUs + (n - 1) * bitSlotUs

/-- The time in µs from the last bit's leading edge to the end of the stop gap (R121, R126, R133). -/
def completeUs : Nat := bitSlotUs + stopGapUs

/-- The time in µs from the start pulse's leading edge to the completion of a frame of `n` bits, 5.5 + n ms (R121). -/
def frameDurationUs (n : Nat) : Nat := lastEdgeUs n + completeUs

/-! ## Bits and check field (R127) -/

/-- The `w` lowest bits of `v`, most significant first. -/
def bitsOf : Nat → Nat → List Bool
  | 0, _ => []
  | w + 1, v => v.testBit w :: bitsOf w v

/-- The number a list of bits stands for, most significant first. -/
def valueOf (bits : List Bool) : Nat := bits.foldl (fun acc b => 2 * acc + b.toNat) 0

/-- One bit fed into the check register: generator x^8 + x^2 + x + 1. -/
def crcStep (reg : BitVec 8) (b : Bool) : BitVec 8 :=
  if reg.msb != b then (reg <<< 1) ^^^ 7#8 else reg <<< 1

/-- The check register after these bits, from 0. -/
def crc8 (bits : List Bool) : BitVec 8 := bits.foldl crcStep 0#8

/-- The fields of a frame before its check field: kind, address and contents, each most significant bit first. -/
def frameFields (address : Nat) : Notice → List Bool
  | .leave => bitsOf 3 1 ++ bitsOf 4 address
  | .demand a =>
    bitsOf 3 2 ++ bitsOf 4 address ++ bitsOf 2 a.cls ++ bitsOf 3 a.boost ++ bitsOf 6 a.want ++ bitsOf 6 a.claim ++
      bitsOf 6 a.draw
  | .joinAsk nonce => bitsOf 3 3 ++ bitsOf 4 address ++ bitsOf 8 nonce.val
  | .joinConfirm nonce held => bitsOf 3 4 ++ bitsOf 4 address ++ bitsOf 8 nonce.val ++ bitsOf 6 held
  | .presence => bitsOf 3 5 ++ bitsOf 4 address

/-- The bits of a frame, check field included, in the order in which they are sent. -/
def frameBits (address : Nat) (n : Notice) : List Bool :=
  frameFields address n ++ bitsOf 8 (crc8 (frameFields address n)).toNat

/-- The field of `w` bits that begins at bit `at0` of a frame. -/
def fieldAt (bits : List Bool) (at0 w : Nat) : Nat := valueOf ((bits.drop at0).take w)

/-- Does the frame's check field agree with its other bits? -/
def checkAgrees (bits : List Bool) : Bool :=
  (crc8 (bits.take (bits.length - 8))).toNat == fieldAt bits (bits.length - 8) 8

/-- What a frame of complete length is: the RECEIVE command it delivers, or `none` when it is discarded, for a check that
differs or an invalid kind (R127, R128). The power fields are clamped where the command is taken. -/
def decodeFrame (bits : List Bool) : Option Instr :=
  let addr : Fin 16 := Fin.ofNat 16 (fieldAt bits 3 4)
  if frameLength (fieldAt bits 0 3) = some bits.length ∧ checkAgrees bits then
    match fieldAt bits 0 3 with
    | 1 => some (.receiveLeave addr)
    | 2 =>
      some (.receiveDemand addr (Fin.ofNat 4 (fieldAt bits 7 2)) (Fin.ofNat 8 (fieldAt bits 9 3))
        (Fin.ofNat 64 (fieldAt bits 12 6)) (Fin.ofNat 64 (fieldAt bits 18 6)) (Fin.ofNat 64 (fieldAt bits 24 6)))
    | 3 => some (.receiveJoinAsk addr (Fin.ofNat 256 (fieldAt bits 7 8)))
    | 4 => some (.receiveJoinConfirm addr (Fin.ofNat 256 (fieldAt bits 7 8)) (Fin.ofNat 64 (fieldAt bits 15 6)))
    | 5 => some (.receivePresence addr)
    | _ => none
  else none

/-! ## Pulses -/

/-- The classes of a dominant pulse (R124). -/
inductive PulseClass where
  | glitch
  | one
  | zero
  | bad
  | start
  | mark
  | stuck
  deriving DecidableEq, Repr

/-- The class of a pulse of `us` µs (R124). -/
def classify (us : Nat) : PulseClass :=
  if us < 80 then .glitch
  else if us < 400 then .one
  else if us < 900 then .zero
  else if us < 1500 then .bad
  else if us < 2500 then .start
  else if us < 8000 then .bad
  else if us < 20000 then .mark
  else .stuck

/-- The length in µs of what the framer drives: a bit short for a 1 and long for a 0, a start pulse, a shed mark; a mark's is counted
from the leading edge of the interval it joins (R121, R146). -/
def Drive.lengthUs : Drive → Nat
  | .start => startPulseUs
  | .bit b => if b then shortPulseUs else longPulseUs
  | .mark begun => begun + markPulseUs

/-- A shed mark, and no pulse of a frame. -/
def Drive.isMark : Drive → Bool
  | .mark _ => true
  | .start => false
  | .bit _ => false

/-- The station drives, or has driven a part of, the dominant interval now on the line as a shed mark (R136). -/
def Framer.marking (f : Framer) : Bool := f.drive.any Drive.isMark

/-- The pulse of its frame that a sender drives at its index, none in the stop gap (R130). -/
def Sending.drive (x : Sending) : Option Drive :=
  if x.index = 0 then some .start else (x.bits[x.index - 1]?).map Drive.bit

/-- The frame being sent is given up: its driver is released, and a shed mark goes on (R123, R136). -/
def Framer.stopFrame (f : Framer) : Framer :=
  { f with sending := none, lost := false, drive := f.drive.filter Drive.isMark }

/-- The window after the previous timing point in which the leading edge of the next bit must fall, in µs: for the first
bit after the start pulse, then for each later one (R125). -/
def bitWindow (received : Nat) : Nat × Nat := if received = 0 then (2800, 3400) else (slotOpensUs, 1400)

/-- A frame in reception with one more bit; the third one gives the expected length (R125). -/
def Reception.push (r : Reception) (b : Bool) : Reception :=
  let bits := r.bits ++ [b]
  { bits, expected := if bits.length = 3 then frameLength (valueOf bits) else r.expected }

/-- What a sender that loses on bit `i` of its frame has received: the bits before it and a 0 (R131). -/
def receptionAtLoss (bits : List Bool) (i : Nat) : Reception :=
  let got := bits.take i ++ [false]
  { bits := got, expected := if 3 ≤ got.length then frameLength (valueOf (got.take 3)) else none }

end Sys2Proof.Machine
end

