-- ==== Sys2Proof/Machine/Share.lean ====
section
/-! DEFINITION. Share: what the Peer Table hands on (R71 to R73), aging (R69), and the share computation from pool to grant
(R83 to R89). -/

namespace Sys2Proof.Machine

/-! ## Entries -/

/-- The entry at an address. -/
def entryAt (table : List Entry) (addr : Nat) : Entry := table.getD addr .empty

/-- An entry is known when it is not EMPTY (R73). -/
def Entry.known : Entry → Bool
  | .empty => false
  | .joining _ _ => true
  | .active _ _ => true
  | .quiet _ _ => true
  | .stale _ _ => true

/-- The greater of claim and draw. -/
def Announce.reserved (a : Announce) : Nat := max a.claim a.draw

/-- The reservation of an entry before a JOIN-ASK (R66). -/
def Entry.prior : Entry → Nat
  | .active a _ => a.reserved
  | .stale a _ => a.reserved
  | .empty => 0
  | .joining _ _ => 0
  | .quiet _ _ => 0

/-- One entry aged by one own period, with its transition (R69). -/
def Entry.aged : Entry → Entry
  | .empty => .empty
  | .active a age =>
    let age := min (age + 1) ageMax
    if activeAge ≤ age then .stale a age else .active a age
  | .stale a age =>
    let age := min (age + 1) ageMax
    if staleAge ≤ age then .empty else .stale a age
  | .quiet a age =>
    let age := min (age + 1) ageMax
    if quietAge ≤ age then .empty else .quiet a age
  | .joining held age =>
    let age := min (age + 1) ageMax
    if joiningAge ≤ age then .empty else .joining held age

/-- The known count (R73). -/
def knownCount (table : List Entry) : Nat := (table.filter Entry.known).length

/-- The missing count M (R73). -/
def missingCount (bankSize : Nat) (table : List Entry) : Nat := bankSize - 1 - knownCount table

/-- BANK_OVERFLOW's condition: the known count is above N − 1 (R74). -/
def overflows (bankSize : Nat) (table : List Entry) : Bool := decide (bankSize - 1 < knownCount table)

/-- What one entry takes off the pool: a JOINING or STALE entry's reservation (R71). -/
def Entry.poolReserve (aIso : Nat) : Entry → Nat
  | .joining held _ => held
  | .stale a _ => max a.reserved aIso
  | .empty => 0
  | .active _ _ => 0
  | .quiet _ _ => 0

/-- What one entry takes off the headroom: an ACTIVE entry's claim or draw (R72). -/
def Entry.headReserve : Entry → Nat
  | .active a _ => a.reserved
  | .empty => 0
  | .joining _ _ => 0
  | .quiet _ _ => 0
  | .stale _ _ => 0

/-- The joining and stale reservations of the table (R71). -/
def poolReserved (aIso : Nat) (table : List Entry) : Nat := (table.map (Entry.poolReserve aIso)).sum

/-- The headroom reservations of the table (R72). -/
def headReserved (table : List Entry) : Nat := (table.map Entry.headReserve).sum

/-! ## Stage 1: the pool (R83) -/

/-- The pool P; it is 0 where the reservations exceed C − 4. -/
def pool (k : Straps) (table : List Entry) : Nat :=
  k.capacity - controlReserve - poolReserved k.aIso table - missingCount k.bankSize table * k.aIso

/-! ## Stage 2: the weighted fill (R84 to R86) -/

/-- A participant of the fill. -/
structure Participant where
  addr : Nat
  weight : Nat
  want : Nat
  deriving DecidableEq, Repr

/-- The base weight of a class (R84). -/
def classBase : Nat → Nat
  | 0 => 1
  | 1 => 2
  | 2 => 3
  | _ => 4

/-- The participants among the entries from an address on: the ACTIVE ones that want power (R72). -/
def peersFrom : Nat → List Entry → List Participant
  | _, [] => []
  | addr, .active a _ :: rest =>
    if 0 < a.want then { addr, weight := classBase a.cls + a.boost, want := a.want } :: peersFrom (addr + 1) rest
    else peersFrom (addr + 1) rest
  | addr, .empty :: rest => peersFrom (addr + 1) rest
  | addr, .joining _ _ :: rest => peersFrom (addr + 1) rest
  | addr, .quiet _ _ :: rest => peersFrom (addr + 1) rest
  | addr, .stale _ _ :: rest => peersFrom (addr + 1) rest

/-- The participants of the own fill (R84). -/
def participants (own : Nat) (r : Request) (table : List Entry) : List Participant :=
  if 0 < r.want then { addr := own, weight := classBase r.cls + r.boost, want := r.want } :: peersFrom 0 table
  else peersFrom 0 table

/-- A member's provisional share of Q (R85). -/
def provisional (q total : Nat) (p : Participant) : Nat := q * p.weight / total

/-- A member is ahead of another in the order of leftover units: more weight, or the same and a lower address (R86). -/
def ahead (x p : Participant) : Bool := decide (p.weight < x.weight ∨ (x.weight = p.weight ∧ x.addr < p.addr))

/-- The shares of the final round: the provisional share, and one leftover unit for the first L in order (R86). -/
def finalRound (q : Nat) (u : List Participant) : List (Nat × Nat) :=
  let total := (u.map Participant.weight).sum
  let leftover := q - (u.map (provisional q total)).sum
  u.map fun p => (p.addr, provisional q total p + if (u.filter fun x => ahead x p).length < leftover then 1 else 0)

/-- The rounds of the fill; as many rounds as participants are enough (R85). -/
def fillRounds : Nat → Nat → List Participant → List (Nat × Nat)
  | 0, _, _ => []
  | fuel + 1, q, u =>
    let total := (u.map Participant.weight).sum
    let content := u.filter fun p => decide (p.want ≤ provisional q total p)
    if content = [] then finalRound q u
    else
      content.map (fun p => (p.addr, p.want)) ++
        fillRounds fuel (q - (content.map Participant.want).sum)
          (u.filter fun p => !decide (p.want ≤ provisional q total p))

/-- The shares of the fill, by address (R85, R86). -/
def fill (q : Nat) (u : List Participant) : List (Nat × Nat) := fillRounds u.length q u

/-- The share of an address, 0 when it is no participant (R86). -/
def shareOf (addr : Nat) (shares : List (Nat × Nat)) : Nat :=
  ((shares.find? fun p => p.1 == addr).map Prod.snd).getD 0

/-! ## Stages 3 and 4: headroom and grant -/

/-- The headroom H (R87). -/
def headroom (k : Straps) (table : List Entry) : Nat := pool k table - headReserved table

/-- The own share T_s of the fill. -/
def ownShare (s : State) : Nat :=
  shareOf s.straps.address (fill (pool s.straps s.table) (participants s.straps.address s.request s.table))

/-- The grant before the shed hold: the four stages in MEMBER (R88), the forms of R89 and R97 outside it. -/
def baseGrant (s : State) : Nat :=
  match s.member.st with
  | .member => min (min (min (ownShare s) (headroom s.straps s.table)) s.request.want) ownCeiling
  | .joinHold | .joinConfirm => min s.request.want s.straps.aIso
  | .isolated => min (min s.request.want s.straps.aIso) (s.share.limit.getD s.straps.aIso)
  | .joinListen | .joinAsk | .duplicate | .leaving | .standby => 0

/-- The grant G; the shed hold caps it at A_iso (R88, R89). -/
def grantOf (s : State) : Nat :=
  if 0 < s.share.hold then min (baseGrant s) s.straps.aIso else baseGrant s

end Sys2Proof.Machine
end

