-- ==== Sys2Proof/Machine/Ops.lean ====
section
/-! DEFINITION. Ops: the operations the commands share. They stand in layers, each calling only those above it: re-forming the
outputs (`settle`), the share computation (`compute`), the notice slot (`loadNotice`), handing over the requests (`handOver`),
the Fault Unit (`raiseFault`, `withdrawFault`) with what it does to the cycle, the phases, and membership. -/

namespace Sys2Proof.Machine

/-! ## Re-forming the outputs -/

/-- The fan command and the two fan-speed outputs that carry it as a count: the first alone for level 1, the second alone for
level 2, both for level 3 (R157). -/
def driveFan (f : Nat) (l : LoadOut) : LoadOut :=
  { l with fan := f, fanFirst := decide (f = 1 ∨ f = 3), fanSecond := decide (f = 2 ∨ f = 3) }

/-- The fan command follows its inputs; a turn-on starts the tach watchdog, a turn-off stops it (R157, R158). -/
def formFan (s : State) : State :=
  let l := driveFan (fanCommand s) s.loads
  if l.fan = 0 then { s with loads := { l with tachConfirmed := false, tachWatchdog := none } }
  else if s.loads.fan = 0 then { s with loads := { l with tachWatchdog := some tachWatchdogMs } }
  else { s with loads := l }

/-- The lock command follows the lock request; a change starts or stops the lock-confirm timer (R160, R161). -/
def formLock (s : State) : State :=
  if s.request.lock = s.loads.lock then s
  else
    { s with
      loads :=
        { s.loads with
          lock := s.request.lock
          lockConfirm := if s.lines.locked = s.request.lock then none else some lockConfirmMs } }

/-- Assigned levels, forced-off flags, effective levels, draw, the counts of the running window and the valve follow their
inputs (R150, R151, R155, R159). -/
def formLevels (s : State) : State :=
  let forced := loadsForced s
  let steamOff := forced || s.lines.waterLow
  let valveOff := !s.lines.locked || s.lines.doorOpen
  let steamAssigned := assignedSteam s.share.allowance s.request.steam
  let heaterAssigned := assignedHeater s.share.allowance s.request.steam s.request.heater
  let steamLevel := if steamOff then 0 else steamAssigned
  let heaterLevel := if forced then 0 else heaterAssigned
  { s with
    loads :=
      { s.loads with
        steamAssigned, heaterAssigned, heaterOff := forced, steamOff, valveOff, fanOff := s.lines.doorOpen
        steamLevel, heaterLevel, draw := steamLevel + heaterLevel
        heaterCount := min s.loads.heaterCount (firingCount s.feeder.window heaterLevel heaterRating)
        steamCount := min s.loads.steamCount (firingCount s.feeder.window steamLevel steamRating)
        valve := s.request.valve && decide (steamMinimum ≤ steamLevel) && !valveOff } }

/-- The starvation flag follows its condition, and the starved seconds return to 0 when it clears (R21, R22). -/
def formStarved (s : State) : State :=
  let flag := starvation s
  { s with cycle := { s.cycle with starved := flag, starvedSecs := if flag then s.cycle.starvedSecs else 0 } }

/-- The lamps follow the cycle state, the phase kind, the allowance and the want; a lamp that goes on flashing for the same
kind keeps its rhythm (R175, log entry 15). -/
def formLamps (s : State) : State :=
  let target := phaseLampFor s.cycle
  let keeps := decide (target.flashes ≠ none) && decide (target.flashes = s.panel.phaseLamp.flashes)
  { s with
    panel :=
      { s.panel with
        phaseLamp := if keeps then s.panel.phaseLamp else target
        flash := if keeps then s.panel.flash else if target.flashes = none then none else some lampFlashMs
        doneLamp := decide (s.cycle.st = .done)
        waitLamp := decide (s.cycle.st = .running) && decide (s.share.allowance < s.request.want) } }

/-- Every output that follows from the rest of the state is formed afresh: fan, lock, levels, starvation flag, lamps. -/
def settle (s : State) : State := formLamps (formStarved (formLevels (formLock (formFan s))))

/-! ## The share computation and the allowance -/

/-- One share computation with the allowance rules that follow it: in MEMBER A only falls to G, outside it A takes G
(R81, R90, R91). -/
def compute (s : State) : State :=
  let g := grantOf s
  settle
    { s with
      share :=
        { s.share with
          grant := g
          allowance := if s.member.st = .member then min s.share.allowance g else g } }

/-- The start of a shed hold, by origination or by a peer's mark; none in STANDBY (R98). -/
def startHold (originated : Bool) (s : State) : State :=
  if s.member.st = .standby then s
  else
    compute
      { s with
        share :=
          { s.share with
            hold := shedHoldPeriods
            arm := if originated then false else s.share.arm
            allowance := min s.share.allowance s.straps.aIso } }

/-! ## The framer's part in sending -/

/-- A pulse on the line restarts the idle hold and the line-freed timer (R124, R129, R135). -/
def touchLine (f : Framer) : Framer :=
  { f with idleHold := some idleHoldMs, holdDone := false, lineFreed := some lineFreedMs }

/-- The framer takes the slot's contents and begins to send, driving its start pulse; the notice is in flight from here (R130, R107). -/
def beginSending (s : State) : State :=
  match s.member.slot with
  | none => s
  | some n =>
    { s with
      framer :=
        touchLine
          { s.framer with
            st := .sending, sending := some { notice := n, bits := frameBits s.straps.address n, index := 0 }
            drive := some .start }
      member := { s.member with inFlight := true } }

/-- The slot hands its notice to the framer: a listening framer waits for the idle hold, or sends at once when the hold has
already run, which it cannot while the framer drives (R129). -/
def handFramer (s : State) : State :=
  if s.framer.st = .listen then
    if s.framer.holdDone ∧ s.framer.drive = none then beginSending s else { s with framer := { s.framer with st := .waiting } }
  else s

/-- The framer's state after a frame or a stuck line: WAITING if the slot holds a notice, else LISTEN (R123). -/
def restState (s : State) : FramerState := if s.member.slot.isSome then .waiting else .listen

/-- A framer whose frame has ended goes to its rest state; one that has gone SILENT or LISTEN meanwhile stays there (R123). -/
def framerRest (s : State) : State :=
  if s.framer.st = .receiving ∨ s.framer.st = .sending then
    { s with
      framer := { s.framer.stopFrame with st := restState s, reception := none } }
  else s

/-! ## The notice slot -/

/-- The contents of a notice of this kind, from the newest figures (R105). -/
def formNotice (k : NoticeKind) (s : State) : Notice :=
  match k with
  | .leave => .leave
  | .joinConfirm => .joinConfirm (s.member.joinNonce.getD 0) s.share.allowance
  | .joinAsk => .joinAsk (s.member.joinNonce.getD 0)
  | .demand =>
    .demand
      { cls := s.request.cls, boost := s.request.boost, want := s.request.want, claim := s.share.grant,
        draw := s.loads.draw }
  | .presence => .presence

/-- A notice of this kind takes the slot, or the one there is refreshed: the Load Share Unit computes and its raise-ready timer
is cancelled, the contents are formed, and the framer is handed the notice (R93, R104, R105). A DEMAND sets the reference
want (R105). -/
def fillSlot (k : NoticeKind) (s : State) : State :=
  let s := compute { s with share := { s.share with raiseReady := none } }
  handFramer
    { s with
      member :=
        { s.member with
          slot := some (formNotice k s)
          refWant := if k = .demand then s.request.want else s.member.refWant } }

/-- The kind the slot keeps when `k` falls due: the one of higher rank (R104). -/
def slotKeeps (k : NoticeKind) (slot : Option Notice) : NoticeKind :=
  match slot with
  | none => k
  | some n => if n.kind.rank < k.rank then n.kind else k

/-- The effects on the counts of a load that the slot takes: a DEMAND sets the presence count to 7 (R109), a PRESENCE that takes
the slot sets the reference want to 0 (R110). -/
def noteLoad (k kept : NoticeKind) (m : Membership) : Membership :=
  match k with
  | .demand => { m with presence := presenceStart }
  | .presence => if kept = .presence then { m with refWant := 0 } else m
  | .leave => m
  | .joinConfirm => m
  | .joinAsk => m

/-- The kind held over when `k` falls due in flight: of several, the one of highest rank (R107). -/
def holdOver (k : NoticeKind) : Option NoticeKind → Option NoticeKind
  | none => some k
  | some j => if k.rank < j.rank then some k else some j

/-- A load of a notice kind (R104); in flight it is held over and does nothing else (R107). -/
def loadNotice (k : NoticeKind) (s : State) : State :=
  if s.member.inFlight then { s with member := { s.member with heldOver := holdOver k s.member.heldOver } }
  else
    let kept := slotKeeps k s.member.slot
    fillSlot kept { s with member := noteLoad k kept s.member }

/-- A refresh of the waiting notice; an empty slot is not refreshed (R106). -/
def refreshSlot (s : State) : State :=
  match s.member.slot with
  | none => s
  | some n => fillSlot n.kind s

/-- The end of an attempt that did not complete, or of a received frame: the notice is in flight no more, and the held-over load
is applied, or the waiting notice refreshed (R106, R107). -/
def endAttempt (s : State) : State :=
  let s' := { s with member := { s.member with inFlight := false, heldOver := none } }
  match s.member.heldOver with
  | some k => loadNotice k s'
  | none => refreshSlot s'

/-- The slot is emptied and any held-over load discarded; a framer waiting or sending returns to LISTEN with its driver released
(R104, R107, R123). -/
def emptySlot (s : State) : State :=
  { s with
    member := { s.member with slot := none, inFlight := false, heldOver := none }
    framer :=
      if s.framer.st = .waiting ∨ s.framer.st = .sending then { s.framer.stopFrame with st := .listen }
      else { s.framer with lost := false } }

/-! ## Handing over the requests -/

/-- In MEMBER a rise of want from a reference of 0, or to 4 units above the reference, loads a DEMAND (R110). -/
def wantRise (before : Nat) (s : State) : State :=
  if s.member.st = .member ∧ before < s.request.want ∧
      (s.member.refWant = 0 ∨ s.member.refWant + wantStep ≤ s.request.want) then
    loadNotice .demand s
  else s

/-- The Cycle Controller's requests are formed and handed on: a change of want, class or boost runs a computation, a rise of want
may load a DEMAND, and every output is formed afresh (R24, R25, R81, R110). -/
def handOver (s : State) : State :=
  let old := s.request
  let r := formRequest s
  let s := { s with request := r }
  if r.want = old.want ∧ r.cls = old.cls ∧ r.boost = old.boost then settle s
  else wantRise old.want (compute s)

/-! ## Panel requests -/

/-- A request to the buzzer (R176). -/
def sound (p : Pattern) (s : State) : State := { s with panel := { s.panel with buzzer := requestSound p s.panel.buzzer } }

/-- The history display ends and the code lines return to the active code (R170, R171). -/
def endDisplay (s : State) : State :=
  { s with panel := { s.panel with display := none }, faults := { s.faults with code := s.faults.activeCode } }

/-! ## Cycle states -/

/-- The dry watch at OFF: timers stopped, peak 0.0 %, flag clear (R53, R56, R57). -/
def watchOff (c : Climate) : Climate :=
  { c with watch := .off, drop := none, peak := 0, warmUp := none, tracking := none, dryPoint := false }

/-- The cycle takes a state in which no phase runs: second, pause and cancel-cool timers stopped, pause context discarded,
starvation cleared, boost 0, latch off, dry watch OFF (R22, R23, R28, R34, R39, R40, R43, R57). Leaving IDLE ends a history
display (R171). -/
def leaveTo (st : CycleState) (s : State) : State :=
  let s := if s.cycle.st = .idle then endDisplay s else s
  { s with
    cycle :=
      { s.cycle with
        st, second := none, starved := false, starvedSecs := 0, boost := 0, latch := false, context := none, pause := none,
        cancelCool := none }
    climate := watchOff s.climate }

/-- RUNNING to HELD (R32). -/
def holdCycle (s : State) : State :=
  handOver { s with cycle := { s.cycle with st := .held, second := none, starved := false, starvedSecs := 0 } }

/-- To HALTED (R34). -/
def haltCycle (s : State) : State := handOver (leaveTo .halted s)

/-! ## The Fault Unit -/

/-- What an activation hands on before the class reaches the cycle: the history record of a class A fault with the programme and
phase index as they stand, the code lines, the end of a history display, and the class A tone (R168, R169, R171). -/
def activate (s : State) : State :=
  let s := endDisplay s
  match s.faults.active with
  | none => s
  | some k =>
    if k.cls = .a then
      sound .classA
        { s with
          faults :=
            { s.faults with
              history :=
                ({ code := k.code, programme := s.cycle.programme, index := s.cycle.index } :: s.faults.history).take
                  historyLength } }
    else s

/-- The cycle on a class that has become A or B: HALTED or HELD, where the cycle state calls for it (R32, R34). -/
def cycleOnClass (s : State) : State :=
  match s.faults.activeClass with
  | some .a =>
    match s.cycle.st with
    | .running | .held | .paused | .cancelCool => haltCycle s
    | .idle | .halted | .done | .standby => handOver s
  | some .b => if s.cycle.st = .running then holdCycle s else handOver s
  | some .c => handOver s
  | none => handOver s

/-- A raise, with all it brings about (R165, R168). -/
def raiseFault (k : FaultKind) (s : State) : State :=
  let f := raiseInto k s.faults
  let s' := { s with faults := f }
  if f.active = s.faults.active then settle s' else cycleOnClass (activate s')

/-- WATER_EMPTY is raised while the cycle runs a STEAM or FRESHEN phase with the level low (R26). -/
def checkWater (s : State) : State := if s.cycle.steaming && s.lines.waterLow then raiseFault .waterEmpty s else s

/-! ## Phases -/

/-- The dry watch at a phase entry: WARM_UP with the record's drop for a DRY phase, else OFF (R53). -/
def watchEntry (r : Record) (c : Climate) : Climate :=
  if r.kind = .dry then
    { c with
      watch := .warmUp, drop := r.drop, peak := 0, warmUp := some warmUpMs, tracking := none, dryPoint := false }
  else watchOff c

/-- Entering a phase with its record, in RUNNING (R19, R8). That want and class are handed on first, so that the rise of the heater
part may load a DEMAND, and a low water level raises WATER_EMPTY only then (R26), is the model's choice of order (log entry 9). -/
def enterPhase (index : Nat) (r : Record) (s : State) : State :=
  checkWater
    (handOver
      { s with
        cycle :=
          { s.cycle with
            st := .running, index, record := some r, remaining := 60 * r.minutes, second := some secondMs, starved := false,
            starvedSecs := 0, boost := 0, latch := true }
        climate := watchEntry r s.climate })

/-- The end of the programme: DONE, with its tones (R28). -/
def completeCycle (s : State) : State := sound .doneTones (handOver (leaveTo .done s))

/-- The end of a phase: the next index is read, and a record is entered or the cycle is complete (R27). -/
def endPhase (s : State) : State :=
  match readRom s.cycle.programme (s.cycle.index + 1) with
  | some r => enterPhase (s.cycle.index + 1) r s
  | none => completeCycle s

/-- The dry-point flag ends a DRY phase while the cycle is RUNNING (R27). -/
def checkDryPoint (s : State) : State :=
  if s.cycle.st = .running ∧ s.cycle.kind = some .dry ∧ s.climate.dryPoint then endPhase s else s

/-- HELD back to RUNNING: want and class return, then a dry point found in the hold ends the phase, and a low water level raises
WATER_EMPTY (R33, log entry 9). -/
def returnToRunning (s : State) : State :=
  checkWater (checkDryPoint (handOver { s with cycle := { s.cycle with st := .running, second := some secondMs } }))

/-- The cycle on a change of the active fault that a withdraw brought about: a class falling from B to C or none returns a held
cycle to RUNNING (R33). -/
def cycleOnFall (before : Option FaultClass) (s : State) : State :=
  if before = some .b ∧ s.cycle.st = .held ∧ s.faults.blocking = false then returnToRunning s else cycleOnClass s

/-- A withdraw, with all it brings about (R166, R168). -/
def withdrawCore (k : FaultKind) (s : State) : State :=
  let f := withdrawFrom k s.faults
  let s' := { s with faults := f }
  if f.active = s.faults.active then settle s' else cycleOnFall s.faults.activeClass (activate s')

/-- LOCK_FAULT is withdrawn at the first moment the sense matches the command (R161). -/
def checkLock (s : State) : State :=
  if s.lines.locked = s.loads.lock ∧ s.faults.holds .lockFault then withdrawCore .lockFault s else s

/-- A withdraw of a fault kind, and of LOCK_FAULT where it changes the lock request so that the sense matches. -/
def withdrawFault (k : FaultKind) (s : State) : State := checkLock (withdrawCore k s)

/-- A condition that holds is raised and one that does not is withdrawn, at a change only: a raise of a held kind and a withdraw
of one not held do nothing (R163). -/
def reportFault (k : FaultKind) (holds : Bool) (s : State) : State :=
  if holds = s.faults.holds k then s else if holds then checkLock (raiseFault k s) else withdrawFault k s

/-! ## Membership -/

/-- A change of membership state: leaving MEMBER cancels the raise-ready timer, and a computation runs (R81, R95). -/
def setMember (m : MemberState) (s : State) : State :=
  let rr := if s.member.st = .member ∧ m ≠ .member then none else s.share.raiseReady
  compute { s with member := { s.member with st := m }, share := { s.share with raiseReady := rr } }

/-- A completed change of the Peer Table: BANK_OVERFLOW follows the known count, and the Load Share Unit computes (R74, R75). -/
def setTable (t : List Entry) (s : State) : State :=
  compute (reportFault .bankOverflow (overflows s.straps.bankSize t) { s with table := t })

/-- The framer at the entry to JOIN_LISTEN: its failure count is 0, and a SILENT one listens with its timers started
(R111, R122, R123). -/
def framerListens (f : Framer) : Framer :=
  if f.st = .silent then touchLine { f with st := .listen, failures := 0 } else { f with failures := 0 }

/-- Entering JOIN_LISTEN (R111, R80). -/
def enterJoinListen (s : State) : State :=
  setMember .joinListen
    { s with
      member := { s.member with periodCount := 0, refWant := 0, joinNonce := none }
      share := { s.share with period := some s.straps.periodMs }
      framer := framerListens s.framer }

/-- The framer gone SILENT, its driver released (R118, R122, R123). -/
def framerSilent (f : Framer) : Framer :=
  { f with
    st := .silent, idleHold := none, holdDone := false, lineFreed := none, reception := none, sending := none, lost := false,
    drive := none }

/-- Entering STANDBY; a set return mark leads on to JOIN_LISTEN at once (R118, R62, R80, R99). -/
def enterStandby (s : State) : State :=
  let back := s.member.returnMark
  let s := emptySlot s
  let s :=
    setTable emptyTable
      (setMember .standby
        { s with
          member :=
            { s.member with
              joinNonce := none, periodCount := 0, returnMark := false, dwell := none, lineFree := false }
          share := { s.share with period := none, hold := 0, arm := true }
          framer := framerSilent s.framer })
  if back then enterJoinListen s else s

/-- Entering ISOLATED (R119). -/
def enterIsolated (s : State) : State :=
  let s := emptySlot s
  setMember .isolated
    (reportFault .lineIsolated true
      { s with member := { s.member with joinNonce := none, dwell := some isolationDwellMs, lineFree := false } })

/-- Leaving ISOLATED for JOIN_LISTEN with a cleared table (R120, R62). That line free is cleared at the exit too is the model's
choice (log entry 16). -/
def exitIsolated (s : State) : State :=
  enterJoinListen (setTable emptyTable { s with member := { s.member with dwell := none, lineFree := false } })

/-- Entering DUPLICATE with ADDRESS_CONFLICT raised (R114). -/
def enterDuplicate (s : State) : State :=
  let s := emptySlot s
  reportFault .addressConflict true (setMember .duplicate { s with member := { s.member with joinNonce := none } })

/-- Entering JOIN_ASK with a nonce taken from the nonce counter (R112). The value read is a free value (log entry 5). -/
def enterJoinAsk (s : State) : State :=
  let n := Config.freeNonce s.nonceReads
  loadNotice .joinAsk
    (setMember .joinAsk
      { s with member := { s.member with nonceCounter := n, joinNonce := some n }, nonceReads := s.nonceReads + 1 })

/-- Entering JOIN_CONFIRM (R112, R113). -/
def enterJoinConfirm (s : State) : State := loadNotice .joinConfirm (setMember .joinConfirm s)

/-- Entering MEMBER on a completed JOIN-CONFIRM that carried `held` (R92, R113). -/
def enterMember (held : Nat) (s : State) : State :=
  let s :=
    reportFault .lineIsolated false
      (setMember .member
        { s with
          member := { s.member with presence := presenceStart, refWant := 0, joinNonce := none }
          share := { s.share with allowance := min s.share.allowance held } })
  if 0 < s.request.want then loadNotice .demand s else s

/-- A POWER press at the Membership Controller (R117). -/
def memberPower (s : State) : State :=
  match s.member.st with
  | .joinListen | .isolated => enterStandby s
  | .joinAsk | .joinHold | .joinConfirm | .member => loadNotice .leave (setMember .leaving s)
  | .duplicate => s
  | .leaving => { s with member := { s.member with returnMark := !s.member.returnMark } }
  | .standby => enterJoinListen s

/-- The station is quiet: its want, A and last completed claim are all 0 (R109, R115). -/
def quiet (s : State) : Bool :=
  decide (s.request.want = 0) && decide (s.share.allowance = 0) && decide (s.member.lastClaim = 0)

/-- A member defends its address against a JOIN-ASK (R115). -/
def defendAddress (s : State) : State :=
  if quiet s then loadNotice .presence { s with member := { s.member with refWant := 0, presence := 0 } }
  else loadNotice .demand s

/-- A notice bearing the own address (R114, R115). -/
def ownAddress (k : NoticeKind) (s : State) : State :=
  match s.member.st with
  | .joinListen | .joinAsk | .joinHold | .joinConfirm => enterDuplicate s
  | .member => if k = .joinAsk then defendAddress s else enterDuplicate s
  | .isolated | .duplicate | .leaving | .standby => s

/-- The entry a notice leaves at its address (R64 to R68, R78). -/
def noticeEntry (aIso : Nat) (n : Notice) (before : Entry) : Entry :=
  match n with
  | .demand a => .active a 0
  | .presence => .quiet { cls := 0, boost := 0, want := 0, claim := 0, draw := 0 } 0
  | .joinAsk _ => .joining (max aIso before.prior) 0
  | .joinConfirm _ held => .active { cls := 0, boost := 0, want := 0, claim := held, draw := held } 0
  | .leave => .empty

/-- A dominant interval that the framer reports in ISOLATED clears line free (R120). -/
def clearLineFree (s : State) : State :=
  if s.member.st = .isolated then { s with member := { s.member with lineFree := false } } else s

/-- A framer that reads the line with no frame of its own on it can end a frame there. -/
def reading (s : State) : Bool :=
  decide (s.framer.st = .listen) || decide (s.framer.st = .waiting) || decide (s.framer.st = .receiving)

/-- The end of a received frame at the framer: a pulse was seen, and line free is cleared. -/
def frameSeen (s : State) : State :=
  clearLineFree { s with framer := touchLine { s.framer with st := .receiving } }

/-- A validated notice delivered by the framer: it is applied to the table or, with the own address, handled as such; then the
slot is refreshed (R63, R106, R114, R115, R128). -/
def deliver (addr : Nat) (n : Notice) (s : State) : State :=
  if reading s then
    let s := frameSeen s
    let s :=
      if addr = s.straps.address then ownAddress n.kind s
      else setTable (s.table.set addr (noticeEntry s.straps.aIso n (entryAt s.table addr))) s
    framerRest (endAttempt s)
  else s

/-! ## Commands and the RESET input -/

/-- While the RESET input is asserted the part takes no event (log entry 4). -/
def live (f : State → State) (s : State) : Host.Outcome State Fault Refusal := .next (if s.inReset then s else f s)

end Sys2Proof.Machine
end

