-- ==== Sys2Proof/Machine/CabinetCmds.lean ====
section
/-! DEFINITION. CabinetCmds: the cabinet's switches, the fan tachometer and the lock, with their watchdogs (chapter 9, R36, R37,
R26). -/

namespace Sys2Proof.Machine

/-! ## Door and water -/

/-- What a paused phase resumes from; the peak is kept for a DRY phase (R37, R56). -/
def pauseContext (s : State) : PauseContext :=
  { index := s.cycle.index, remaining := s.cycle.remaining, boost := s.cycle.boost,
    peak := if s.cycle.kind = some .dry then some s.climate.peak else none }

/-- RUNNING or HELD to PAUSED (R37, R56). -/
def pauseCycle (s : State) : State :=
  handOver
    { s with
      cycle :=
        { s.cycle with
          st := .paused, second := none, starved := false, starvedSecs := 0, boost := 0, latch := false,
          context := some (pauseContext s), pause := some pauseMs }
      climate := watchOff s.climate }

/-- The cycle on the door opening (R36). -/
def doorOpened (s : State) : State :=
  match s.cycle.st with
  | .running | .held => checkLock (pauseCycle s)
  | .done => checkLock (handOver (leaveTo .idle s))
  | .idle | .paused | .halted | .cancelCool | .standby => settle s

/-- DOOR_OPEN (R36, R37, R151). -/
def execDoorOpen (s : State) : Host.Outcome State Fault Refusal :=
  live doorOpened { s with lines := { s.lines with doorOpen := true } }

/-- DOOR_CLOSE: the cycle state is unchanged; fan, forced-off flags and valve are formed afresh (R36, R151, R157). -/
def execDoorClose (s : State) : Host.Outcome State Fault Refusal :=
  live settle { s with lines := { s.lines with doorOpen := false } }

/-- The water level reported: want follows, and WATER_EMPTY is raised or withdrawn (R24, R26). -/
def waterReported (s : State) : State :=
  if s.lines.waterLow then checkLock (checkWater (handOver s)) else reportFault .waterEmpty false (handOver s)

/-- WATER_LEVEL_CHANGE (R24, R26, R151). -/
def execWaterLevelChange (adequate : Bool) (s : State) : Host.Outcome State Fault Refusal :=
  live waterReported { s with lines := { s.lines with waterLow := !adequate } }

/-! ## Lock -/

/-- The lock-confirm timer once the sense reads `now` where it read `was`: stopped when the sense matches the command, started
when it departs from it (R161). -/
def lockTimer (l : LoadOut) (was now : Bool) : Timer :=
  if now = l.lock then none else if was = l.lock then some lockConfirmMs else l.lockConfirm

/-- The lock sense has changed from `was` (R161, R151, R159). -/
def lockReported (was : Bool) (s : State) : State :=
  checkLock (settle { s with loads := { s.loads with lockConfirm := lockTimer s.loads was s.lines.locked } })

/-- LOCK_SENSE_CHANGE (R161, R151, R159). -/
def execLockSenseChange (locked : Bool) (s : State) : Host.Outcome State Fault Refusal :=
  live (lockReported s.lines.locked) { s with lines := { s.lines with locked := locked } }

/-- The lock-confirm timer's expiry: LOCK_FAULT is raised (R161). -/
def lockConfirmExpiry (s : State) : State :=
  if s.loads.lockConfirm.isSome then
    reportFault .lockFault true { s with loads := { s.loads with lockConfirm := none } }
  else s

/-- LOCK_CONFIRM_EXPIRY (R161). -/
def execLockConfirmExpiry (s : State) : Host.Outcome State Fault Refusal := live lockConfirmExpiry s

/-! ## Fan -/

/-- A tach pulse while the fan is commanded on (R158). -/
def tachPulse (s : State) : State :=
  if s.loads.fan = 0 then s
  else
    reportFault .fanStall false
      (settle { s with loads := { s.loads with tachConfirmed := true, tachWatchdog := some tachWatchdogMs } })

/-- TACH_PULSE (R158). -/
def execTachPulse (s : State) : Host.Outcome State Fault Refusal := live tachPulse s

/-- The tach watchdog's expiry: the loads are forced off and FAN_STALL is raised (R158, R151). -/
def tachExpiry (s : State) : State :=
  if s.loads.tachWatchdog.isSome then
    reportFault .fanStall true (settle { s with loads := { s.loads with tachConfirmed := false, tachWatchdog := none } })
  else s

/-- TACH_WATCHDOG_EXPIRY (R158). -/
def execTachWatchdogExpiry (s : State) : Host.Outcome State Fault Refusal := live tachExpiry s

end Sys2Proof.Machine
end

