-- ==== Sys2Proof/Machine/Climate.lean ====
section
/-! DEFINITION. Climate: the commands of the Climate Measurement Unit (chapter 3). -/

namespace Sys2Proof.Machine

/-! ## The temperature side -/

/-- The readings of the valid probes (R46). -/
def validReadings (c : Climate) : List Int :=
  [c.p0, c.p1, c.p2].filterMap fun p => if p.valid then p.reading else none

/-- The number of probes marked invalid (R45). -/
def invalidCount (c : Climate) : Nat := ([c.p0, c.p1, c.p2].filter fun p => !p.valid).length

/-- Tr of these readings: the mean in half-degrees, rounded down (R46). -/
def meanReading (l : List Int) : Int := l.sum / (l.length : Int)

/-- Tmax of these readings, from a first one (R47). -/
def maxReading (first : Int) (rest : List Int) : Int := rest.foldl max first

/-- Validity, Tr and Tmax after a round; with no valid probe Tr and Tmax keep their values (R45 to R47). -/
def sampleProbes (r0 r1 r2 : Int) (c : Climate) : Climate :=
  let c := { c with p0 := sampleProbe c.p0 r0, p1 := sampleProbe c.p1 r1, p2 := sampleProbe c.p2 r2 }
  let c := { c with invalid := invalidCount c, roundTimer := some probeRoundMs }
  match validReadings c with
  | [] => c
  | x :: rest => { c with tr := meanReading (x :: rest), tmax := maxReading x rest }

/-- The over-temperature latch on this Tmax and trip line (R49). -/
def overTempNext (latch trip : Bool) (tmax : Int) : Bool :=
  if latch then !(decide (tmax < overTempClear) && !trip) else decide (overTempSet ≤ tmax) || trip

/-- The over-temperature latch is evaluated, and OVER_TEMP raised or withdrawn with it (R49). -/
def evalOverTemp (s : State) : State :=
  let latch := overTempNext s.climate.overTemp s.lines.trip s.climate.tmax
  reportFault .overTemp latch { s with climate := { s.climate with overTemp := latch } }

/-- The regulation latch at an update of Tr (R23). -/
def latchNext (c : Cycle) (tr : Int) : Bool :=
  if c.st = .running ∨ c.st = .held then
    match c.record.bind Record.target with
    | none => c.latch
    | some t => if t ≤ tr then false else if tr ≤ t - latchBand then true else c.latch
  else c.latch

/-- The Cycle Controller at an update of Tr and Tmax: regulation latch, the end of cancel cooling, want and lock request
(R23, R41, R30). -/
def climateUpdate (s : State) : State :=
  let s := { s with cycle := { s.cycle with latch := latchNext s.cycle s.climate.tr } }
  checkLock (handOver (if s.cycle.st = .cancelCool ∧ s.climate.tmax < coolTemp then leaveTo .idle s else s))

/-- A whole probe round, in the order of R44. The new Tr and Tmax stand from the second step on: where a condition raised or withdrawn
in the third or fourth step changes the cycle state, the lock request formed there reads the round's new Tmax, although R44 hands
both to the Cycle Controller only after the fourth. That is the model's choice (log entry 9). -/
def probeRound (r0 r1 r2 : Int) (s : State) : State :=
  let s := { s with climate := sampleProbes r0 r1 r2 s.climate }
  let n := s.climate.invalid
  climateUpdate (evalOverTemp (reportFault .probeFault (decide (2 ≤ n)) (reportFault .probeDegraded (decide (1 ≤ n)) s)))

/-- PROBE_ROUND (R44 to R49). -/
def execProbeRound (r0 r1 r2 : Int) (s : State) : Host.Outcome State Fault Refusal := live (probeRound r0 r1 r2) s

/-- TRIP_LINE_CHANGE: the forcing follows the line, and the latch is evaluated (R49, R151). -/
def execTripLineChange (active : Bool) (s : State) : Host.Outcome State Fault Refusal :=
  live (fun s => evalOverTemp (settle s)) { s with lines := { s.lines with trip := active } }

/-! ## The humidity side and the dry watch -/

/-- The ring with a sample as its newest entry; a full ring loses its oldest (R51). -/
def pushRing (ring : List Nat) (v : Nat) : List Nat :=
  if ringLength ≤ ring.length then ring.drop 1 ++ [v] else ring ++ [v]

/-- The dry-point test on a full ring whose newest sample is `v` (R55). -/
def dryTest (c : Climate) (v : Nat) : Bool :=
  decide (c.ring.length = ringLength) && decide ((v : Int) ≤ (c.peak : Int) - ((c.drop.getD 0 : Nat) : Int)) &&
    decide (((c.ring.headD 0 : Nat) : Int) - (v : Int) ≤ dryRate)

/-- The dry watch takes a sample that has joined the ring: the peak is raised, and in TESTING the test runs (R54, R55). -/
def watchSample (v : Nat) (c : Climate) : Climate :=
  match c.watch with
  | .tracking => { c with peak := max c.peak v }
  | .testing =>
    let c := { c with peak := max c.peak v }
    if dryTest c v then { c with watch := .found, dryPoint := true } else c
  | .off => c
  | .warmUp => c
  | .found => c

/-- A humidity reading: a valid sample joins the ring and reaches the dry watch, an invalid reading empties the ring (R51, R52,
R55, R27). -/
def humidityReading (r : Int) (s : State) : State :=
  match humiditySampleOf r with
  | none =>
    reportFault .humidityFault true
      { s with
        climate := { s.climate with humidityValid := false, ring := [], sampleTimer := some humiditySampleMs } }
  | some v =>
    let c := { s.climate with humidityValid := true, ring := pushRing s.climate.ring v, sampleTimer := some humiditySampleMs }
    checkLock (checkDryPoint (reportFault .humidityFault false { s with climate := watchSample v c }))

/-- HUMIDITY_SAMPLE (R51 to R55, R59). -/
def execHumiditySample (r : Int) (s : State) : Host.Outcome State Fault Refusal := live (humidityReading r) s

/-- The warm-up timer's expiry: WARM_UP to TRACKING (R54). -/
def warmUpExpiry (s : State) : State :=
  if s.climate.warmUp.isSome then
    { s with climate := { s.climate with watch := .tracking, warmUp := none, tracking := some trackingMs } }
  else s

/-- WARM_UP_EXPIRY (R54). -/
def execWarmUpExpiry (s : State) : Host.Outcome State Fault Refusal := live warmUpExpiry s

/-- The tracking timer's expiry: TRACKING to TESTING (R55). -/
def trackingExpiry (s : State) : State :=
  if s.climate.tracking.isSome then { s with climate := { s.climate with watch := .testing, tracking := none } } else s

/-- TRACKING_EXPIRY (R55). -/
def execTrackingExpiry (s : State) : Host.Outcome State Fault Refusal := live trackingExpiry s

end Sys2Proof.Machine
end

