-- ==== Sys2Proof/Machine/CycleCmds.lean ====
section
/-! DEFINITION. CycleCmds: the keys as the Cycle Controller takes them, and its timers (chapter 2, R174, R170, R176). -/

namespace Sys2Proof.Machine

/-- Keys are taken once mains learning has completed since power-on (R17): from then on a window length is held. -/
def learned (s : State) : Bool := s.feeder.window.isSome

/-- A START is accepted with the door closed and no class A or B fault active (R18, R38). -/
def startAllowed (s : State) : Bool := !s.lines.doorOpen && !s.faults.blocking


/-! ## START -/

/-- A START accepted in IDLE: the programme is taken and phase 0 entered (R18). -/
def startCycle (p : Fin 8) (s : State) : State :=
  match readRom p 0 with
  | none => s
  | some r =>
    let s := endDisplay s
    enterPhase 0 r { s with cycle := { s.cycle with programme := p } }

/-- The dry watch at a resume: the ring is emptied, and a DRY phase warms up afresh on its saved peak (R38, R56). -/
def watchResume (r : Option Record) (peak : Option Nat) (c : Climate) : Climate :=
  let c := { c with ring := [] }
  if r.map Record.kind = some .dry then
    { c with
      watch := .warmUp, drop := r.bind Record.drop, peak := peak.getD 0, warmUp := some warmUpMs, tracking := none,
      dryPoint := false }
  else watchOff c

/-- A START accepted in PAUSED: the phase is restored from its context (R38). Want and class are handed on before a low water level
raises WATER_EMPTY, as at a phase entry (R26, log entry 9). -/
def resumeCycle (s : State) : State :=
  match s.cycle.context with
  | none => s
  | some x =>
    let r := readRom s.cycle.programme x.index
    checkWater
      (handOver
        { s with
          cycle :=
            { s.cycle with
              st := .running, index := x.index, record := r, remaining := x.remaining, boost := x.boost, latch := true,
              starved := false, starvedSecs := 0, second := some secondMs, context := none, pause := none }
          climate := watchResume r x.peak s.climate })

/-- A START at the Cycle Controller (R18, R38). -/
def cycleStart (p : Fin 8) (s : State) : State :=
  match s.cycle.st with
  | .idle => if startAllowed s then checkLock (startCycle p s) else s
  | .paused => if startAllowed s then checkLock (resumeCycle s) else s
  | .running | .held | .halted | .cancelCool | .done | .standby => s

/-- START_PRESS: at the end of its debounce, the click and then the press (R174, R17). -/
def startPress (sel2 sel1 sel0 : Bool) (s : State) : State :=
  if s.panel.start.settles true then
    let s := sound .click { s with panel := { s.panel with start := KeyLine.steady true } }
    if learned s then cycleStart (selectedProgramme sel2 sel1 sel0) s else s
  else s

/-- START_PRESS (R18, R38, R174). -/
def execStartPress (sel2 sel1 sel0 : Bool) (s : State) : Host.Outcome State Fault Refusal := live (startPress sel2 sel1 sel0) s

/-! ## CANCEL -/

/-- To CANCEL_COOL with its timer started (R41). -/
def enterCancelCool (s : State) : State :=
  let s := leaveTo .cancelCool s
  handOver { s with cycle := { s.cycle with cancelCool := some cancelCoolMs } }

/-- A CANCEL at the Cycle Controller (R40, R35). -/
def cycleCancel (s : State) : State :=
  match s.cycle.st with
  | .running | .held | .paused =>
    checkLock (if coolTemp ≤ s.climate.tmax then enterCancelCool s else handOver (leaveTo .idle s))
  | .halted => if s.faults.activeClass = some .a then s else checkLock (handOver (leaveTo .idle s))
  | .done => checkLock (handOver (leaveTo .idle s))
  | .idle | .cancelCool | .standby => s

/-- CANCEL_PRESS: at the end of its debounce, the click, the long-press timer, and then the press (R174). -/
def cancelPress (s : State) : State :=
  if s.panel.cancel.settles true then
    let s := sound .click { s with panel := { s.panel with cancel := KeyLine.steady true, longPress := some longPressMs } }
    if learned s then cycleCancel s else s
  else s

/-- CANCEL_PRESS (R40, R35, R174). -/
def execCancelPress (s : State) : Host.Outcome State Fault Refusal := live cancelPress s

/-! ## POWER -/

/-- A POWER at the Cycle Controller, handed on to the Membership Controller (R43, R117). -/
def cyclePower (s : State) : State :=
  match s.cycle.st with
  | .idle | .done => memberPower (checkLock (handOver (leaveTo .standby s)))
  | .standby => memberPower (checkLock (handOver (leaveTo .idle s)))
  | .running | .held | .paused | .halted | .cancelCool => s

/-- POWER_PRESS: at the end of its debounce, the click and then the press (R174). -/
def powerPress (s : State) : State :=
  if s.panel.power.settles true then
    let s := sound .click { s with panel := { s.panel with power := KeyLine.steady true } }
    if learned s then cyclePower s else s
  else s

/-- POWER_PRESS (R43, R117, R118, R174). -/
def execPowerPress (s : State) : Host.Outcome State Fault Refusal := live powerPress s

/-! ## Timers -/

/-- A second of a starved phase: at the sixtieth boost rises, up to 7 (R20, R22). -/
def starvedSecond (c : Cycle) : Cycle :=
  if c.starvedSecs + 1 = starvedMinute then { c with starvedSecs := 0, boost := min (c.boost + 1) boostMax }
  else { c with starvedSecs := c.starvedSecs + 1 }

/-- The second timer's expiry: a second off the phase, or a second of starvation (R20). -/
def secondExpiry (s : State) : State :=
  if s.cycle.second.isSome ∧ s.cycle.st = .running then
    let s := { s with cycle := { s.cycle with second := some secondMs } }
    if s.cycle.starved then handOver { s with cycle := starvedSecond s.cycle }
    else
      let s := { s with cycle := { s.cycle with remaining := s.cycle.remaining - 1 } }
      if s.cycle.remaining = 0 then checkLock (endPhase s) else s
  else s

/-- SECOND_TIMER_EXPIRY (R20, R22, R27). -/
def execSecondTimerExpiry (s : State) : Host.Outcome State Fault Refusal := live secondExpiry s

/-- The pause timer's expiry: the cycle is abandoned (R39). -/
def pauseExpiry (s : State) : State :=
  if s.cycle.pause.isSome then sound .abandon (checkLock (handOver (leaveTo .idle s))) else s

/-- PAUSE_TIMER_EXPIRY (R39). -/
def execPauseTimerExpiry (s : State) : Host.Outcome State Fault Refusal := live pauseExpiry s

/-- The cancel-cool timer's expiry (R41). -/
def cancelCoolExpiry (s : State) : State :=
  if s.cycle.cancelCool.isSome then checkLock (handOver (leaveTo .idle s)) else s

/-- CANCEL_COOL_TIMER_EXPIRY (R41). -/
def execCancelCoolTimerExpiry (s : State) : Host.Outcome State Fault Refusal := live cancelCoolExpiry s

end Sys2Proof.Machine
end

