-- ==== Sys2Proof/Machine/LineCmds.lean ====
section
/-! DEFINITION. LineCmds: received notices and the framer's reports on its own attempts and on the line (chapters 4, 6, 7). -/

namespace Sys2Proof.Machine

/-! ## Received notices -/

/-- RECEIVE_DEMAND (R64, R128). -/
def execReceiveDemand (addr : Fin 16) (cls : Fin 4) (boost : Fin 8) (want claim draw : Fin 64) (s : State) :
    Host.Outcome State Fault Refusal :=
  live (deliver addr.val (.demand (receivedAnnounce cls boost want claim draw))) s

/-- RECEIVE_PRESENCE (R65). -/
def execReceivePresence (addr : Fin 16) (s : State) : Host.Outcome State Fault Refusal := live (deliver addr.val .presence) s

/-- RECEIVE_JOIN_ASK (R66). -/
def execReceiveJoinAsk (addr : Fin 16) (nonce : Fin 256) (s : State) : Host.Outcome State Fault Refusal :=
  live (deliver addr.val (.joinAsk nonce)) s

/-- RECEIVE_JOIN_CONFIRM (R67, R128). -/
def execReceiveJoinConfirm (addr : Fin 16) (nonce : Fin 256) (held : Fin 64) (s : State) : Host.Outcome State Fault Refusal :=
  live (deliver addr.val (.joinConfirm nonce (clampPower held))) s

/-- RECEIVE_LEAVE (R68). -/
def execReceiveLeave (addr : Fin 16) (s : State) : Host.Outcome State Fault Refusal := live (deliver addr.val .leave) s

/-- A received frame or a stray pulse ends as discarded: a refresh point and nothing else (R106, R125, R126). -/
def discardFrame (s : State) : State := if reading s then framerRest (endAttempt (frameSeen s)) else s

/-- FRAME_DISCARDED (R126, R106). -/
def execFrameDiscarded (s : State) : Host.Outcome State Fault Refusal := live discardFrame s

/-! ## Own attempts -/

/-- The idle hold's expiry: a waiting notice is sent, and a listening framer holds that the line is idle (R129, R130). -/
def idleHoldExpiry (s : State) : State :=
  if s.framer.idleHold.isSome then
    match s.framer.st with
    | .waiting => beginSending s
    | .listen => { s with framer := { s.framer with idleHold := none, holdDone := true } }
    | .silent | .receiving | .sending | .stuck => s
  else s

/-- IDLE_HOLD_EXPIRY (R129, R130). -/
def execIdleHoldExpiry (s : State) : Host.Outcome State Fault Refusal := live idleHoldExpiry s

/-- The frame being sent, while the framer sends it and drives no shed mark over it (R136). -/
def attempt (s : State) : Option Sending :=
  if s.framer.st = .sending ∧ s.framer.marking = false then s.framer.sending else none

/-- Arbitration is lost on a 1 bit of the frame being sent: the framer receives the rest of the frame, and the outcome is
reported when it ends (R131, R107). A 0 bit cannot lose. -/
def loseArbitration (bit : Nat) (s : State) : State :=
  match attempt s with
  | none => s
  | some x =>
    if x.bits[bit]? = some true then
      { s with
        framer :=
          touchLine
            { s.framer with
              st := .receiving, reception := some (receptionAtLoss x.bits bit), sending := none, lost := true
              drive := none } }
    else s

/-- ARBITRATION_LOST (R131). -/
def execArbitrationLost (bit : Nat) (s : State) : Host.Outcome State Fault Refusal := live (loseArbitration bit) s

/-- The last completed claim a completed notice leaves (R108), which is also the isolation limit it sets (R96). -/
def Notice.claim : Notice → Nat
  | .demand a => a.claim
  | .joinConfirm _ held => held
  | .leave => 0
  | .joinAsk _ => 0
  | .presence => 0

/-- The Load Share Unit on a completion: the isolation limit, and for a DEMAND in MEMBER the raise-ready timer (R94, R96). -/
def shareCompletion (n : Notice) (m : MemberState) (l : LoadShare) : LoadShare :=
  { l with
    limit := some n.claim
    limitTimer := some isolationLimitMs
    raiseReady :=
      if n.kind = .demand ∧ m = .member then some { ms := raiseReadyMs, target := n.claim } else l.raiseReady }

/-- The further action on a completed notice, by its kind and the membership state (R108). -/
def completionAction (n : Notice) (s : State) : State :=
  match n, s.member.st with
  | .joinAsk _, .joinAsk => setMember .joinHold { s with member := { s.member with periodCount := 0 } }
  | .joinConfirm _ held, .joinConfirm => enterMember held s
  | .leave, .leaving => enterStandby s
  | _, _ => s

/-- The held-over load, if any, is loaded into the empty slot (R107, R108). -/
def loadHeldOver (s : State) : State :=
  match s.member.heldOver with
  | none => s
  | some k => loadNotice k { s with member := { s.member with heldOver := none } }

/-- The completion of the notice being sent, in the order of R108. -/
def complete (n : Notice) (s : State) : State :=
  let s :=
    { s with
      framer := { s.framer with failures := 0 }
      member := { s.member with lastClaim := n.claim, slot := none, inFlight := false }
      share := shareCompletion n s.member.st s.share }
  framerRest (loadHeldOver (completionAction n s))

/-- NOTICE_COMPLETION (R108, R133). -/
def execNoticeCompletion (s : State) : Host.Outcome State Fault Refusal :=
  live (fun s => match attempt s with | none => s | some x => complete x.notice s) s

/-- The failure limit, and a stuck line, in the joining states and MEMBER isolate the station, and in LEAVING put it in STANDBY;
`otherwise` is what happens in the other states (R118, R119). -/
def loseLine (otherwise : State → State) (s : State) : State :=
  match s.member.st with
  | .joinListen | .joinAsk | .joinHold | .joinConfirm | .member => enterIsolated s
  | .leaving => enterStandby s
  | .isolated | .duplicate | .standby => otherwise s

/-- A failed attempt: the count rises, and the failure that brings it to 8 is the failure limit (R132, R134). -/
def failAttempt (s : State) : State :=
  match attempt s with
  | none => s
  | some _ =>
    let n := min (s.framer.failures + 1) failureLimit
    let s := { s with framer := touchLine { s.framer with failures := n } }
    framerRest (if n = failureLimit then loseLine endAttempt s else endAttempt s)

/-- ATTEMPT_FAILED (R132, R134, R119). -/
def execAttemptFailed (s : State) : Host.Outcome State Fault Refusal := live failAttempt s

/-! ## Shed marks and a stuck line -/

/-- A shed mark classified: frames are discarded or interrupted, a mark of which the station drove no part starts the shed hold, and
a notice whose attempt or reception it ended is refreshed (R136, R147, R98, R106). -/
def markSeen (ownPulse inFrame : Bool) (s : State) : State :=
  if reading s ∨ s.framer.st = .sending then
    let own := s.framer.marking || ownPulse
    let ended := inFrame || decide (s.framer.st = .receiving) || s.member.inFlight
    let s := clearLineFree { s with framer := touchLine { s.framer with drive := none } }
    let s := if own then s else startHold false s
    framerRest (if ended then endAttempt s else s)
  else s

/-- SHED_MARK_SEEN (R136, R98). -/
def execShedMarkSeen (ownPulse inFrame : Bool) (s : State) : Host.Outcome State Fault Refusal := live (markSeen ownPulse inFrame) s

/-- The framer on a stuck line: frames and attempts end, and its driver is released (R135). That the idle hold and line-freed timers
are stopped from there until the release restarts them is the model's choice (log entry 25). -/
def framerStuck (f : Framer) : Framer :=
  { f with
    st := .stuck, idleHold := none, holdDone := false, lineFreed := none, reception := none, sending := none, lost := false,
    drive := none }

/-- A stuck line (R135, R119, R118). -/
def stuckLine (s : State) : State :=
  if s.framer.st = .silent then s
  else
    loseLine clearLineFree
      { s with framer := framerStuck s.framer, member := { s.member with inFlight := false } }

/-- LINE_STUCK (R135, R119, R118). -/
def execLineStuck (s : State) : Host.Outcome State Fault Refusal := live stuckLine s

/-- A stuck line goes recessive: the framer's rest state, its timers restarted (R135). -/
def releaseStuck (s : State) : State :=
  if s.framer.st = .stuck then { s with framer := touchLine { s.framer with st := restState s } } else s

/-- LINE_STUCK_RELEASE (R135). -/
def execLineStuckRelease (s : State) : Host.Outcome State Fault Refusal := live releaseStuck s

/-- The line freed: in ISOLATED line free is set, and the station leaves once its dwell has expired (R135, R120). -/
def lineFreed (s : State) : State :=
  if s.framer.st ≠ .silent ∧ s.framer.lineFreed.isSome then
    let s := { s with framer := { s.framer with lineFreed := none } }
    if s.member.st = .isolated then
      if s.member.dwell.isSome then { s with member := { s.member with lineFree := true } } else exitIsolated s
    else s
  else s

/-- LINE_FREED (R135, R120). -/
def execLineFreed (s : State) : Host.Outcome State Fault Refusal := live lineFreed s

end Sys2Proof.Machine
end

