-- ==== Sys2Proof/Machine/MainsCmds.lean ====
section
/-! DEFINITION. MainsCmds: the commands of the Feeder Supervisor, with the half-cycle event at the Load Output Unit (chapter 8,
R153, R154, R156). -/

namespace Sys2Proof.Machine

/-! ## Half-cycles at the Load Output Unit -/

/-- A half-cycle event: at position 0 the counts are taken from the effective levels, each load is fired or withheld by its
count, and the position moves on (R153, R154). -/
def halfCycleEvent (s : State) : State :=
  let w := s.feeder.window.getD 0
  let l := s.loads
  let hc := if l.position = 0 then firingCount s.feeder.window l.heaterLevel heaterRating else l.heaterCount
  let sc := if l.position = 0 then firingCount s.feeder.window l.steamLevel steamRating else l.steamCount
  { s with
    loads :=
      { l with
        heaterCount := hc, steamCount := sc, heaterGate := fires hc w l.position, steamGate := fires sc w l.position
        position := if l.position + 1 < w then l.position + 1 else 0 } }

/-- The loss of mains at the Load Output Unit: both gates released, position and counts 0 (R156). -/
def releaseLoads (l : LoadOut) : LoadOut :=
  { l with heaterGate := false, steamGate := false, position := 0, heaterCount := 0, steamCount := 0 }

/-! ## Shed marks -/

/-- The framer is asked to drive a shed mark on a line that has been dominant for `dominant` µs: it drives none when SILENT or
STUCK, or when the line has been dominant for 8 ms (R136, R146). -/
def requestMark (dominant : Nat) (s : State) : State :=
  if s.framer.st = .silent ∨ s.framer.st = .stuck ∨ markUs ≤ dominant then s
  else
    { s with
      framer := { s.framer with drive := some (.mark dominant), idleHold := none, holdDone := false, lineFreed := none } }

/-- The peak of a half-cycle is low: below 88 % of the nominal peak (R144). -/
def lowPeak (peak nominal : Nat) : Bool := decide (100 * peak < 88 * nominal)

/-- The sag test on the half-cycle that closes, with the origination of a shed mark (R144, R145). -/
def sagTest (dominant : Nat) (s : State) : State :=
  if lowPeak s.feeder.peak (s.feeder.nominal.getD 0) then
    let run := min (s.feeder.sagRun + 1) sagLimit
    let s := { s with feeder := { s.feeder with sagRun := run } }
    if run = sagLimit ∧ s.share.arm then startHold true (requestMark dominant s) else s
  else { s with feeder := { s.feeder with sagRun := 0 } }

/-! ## Learning -/

/-- The window length a learning attempt finds, by its mean interval in µs and its nominal candidate (R140). -/
def judgeWindow (mean candidate : Nat) : Option Nat :=
  if nominalLow ≤ candidate then
    if 9000 ≤ mean ∧ mean ≤ 11000 then some 100 else if 7500 ≤ mean ∧ mean ≤ 8999 then some 120 else none
  else none

/-- The 16th closing judges the attempt: success completes learning, failure begins a new attempt (R140). -/
def judgeLearning (s : State) : State :=
  let candidate := s.feeder.peaks.sum / learningLength
  match judgeWindow (s.feeder.intervals.sum / learningLength) candidate with
  | some w =>
    let f := { s.feeder with window := some w, nominal := some candidate }
    if s.faults.holds .mainsLost then
      enterJoinListen { s with feeder := { f with st := .lost, halfOpen := false, resume := some resumeMs } }
    else halfCycleEvent (enterJoinListen { s with feeder := { f with st := .running, halfOpen := true } })
  | none => reportFault .mainsLost true { s with feeder := { s.feeder with intervals := [], peaks := [] } }

/-- A taken zero-cross in LEARNING: the first opens a half-cycle, each later one closes one (R140). -/
def learnCross (since : Nat) (s : State) : State :=
  if s.feeder.halfOpen then
    let s :=
      { s with
        feeder := { s.feeder with intervals := s.feeder.intervals ++ [since], peaks := s.feeder.peaks ++ [s.feeder.peak] } }
    if s.feeder.intervals.length = learningLength then judgeLearning s else s
  else { s with feeder := { s.feeder with halfOpen := true } }

/-! ## Zero-crosses -/

/-- A taken zero-cross in MAINS_RUNNING: it closes a half-cycle with the sag test, and opens the next (R142). -/
def runningCross (dominant : Nat) (s : State) : State :=
  let s := if s.feeder.halfOpen then sagTest dominant s else s
  halfCycleEvent { s with feeder := { s.feeder with halfOpen := true } }

/-- A taken zero-cross in LOST: it starts a stopped resume timer (R143). -/
def lostCross (s : State) : State :=
  if s.feeder.resume.isSome then s else { s with feeder := { s.feeder with resume := some resumeMs } }

/-- A zero-cross is taken when it comes 5 ms or more after the last taken one, or is the first (R138). -/
def taken (f : Feeder) (since : Nat) : Bool := !f.crossed || decide (takenUs ≤ since)

/-- A taken zero-cross has been acted on: the current peak is 0 and the watchdog restarted (R138, R140, R142, R143). -/
def crossTaken (s : State) : State :=
  { s with feeder := { s.feeder with peak := 0, crossed := true, watchdog := some watchdogMs } }

/-- A zero-cross at the supervisor (R138, R140, R142, R143). -/
def zeroCross (since dominant : Nat) (s : State) : State :=
  if taken s.feeder since then
    match s.feeder.st with
    | .notStarted => s
    | .learning => crossTaken (learnCross since s)
    | .running => crossTaken (runningCross dominant s)
    | .lost => crossTaken (lostCross s)
  else s

/-- ZERO_CROSS (R138, R140, R142 to R145, R153, R154). -/
def execZeroCross (since dominant : Nat) (s : State) : Host.Outcome State Fault Refusal := live (zeroCross since dominant) s

/-! ## Timers and readings -/

/-- The zero-cross watchdog's expiry (R141, R142, R143). -/
def watchdogExpiry (s : State) : State :=
  if s.feeder.watchdog.isSome then
    match s.feeder.st with
    | .notStarted => s
    | .learning =>
      reportFault .mainsLost true
        { s with feeder := { s.feeder with watchdog := none, intervals := [], peaks := [], halfOpen := false } }
    | .running =>
      reportFault .mainsLost true
        { s with
          feeder := { s.feeder with st := .lost, watchdog := none, halfOpen := false, sagRun := 0 }
          loads := releaseLoads s.loads }
    | .lost => { s with feeder := { s.feeder with watchdog := none, resume := none } }
  else s

/-- ZERO_CROSS_WATCHDOG_EXPIRY (R141 to R143, R156). -/
def execZeroCrossWatchdogExpiry (s : State) : Host.Outcome State Fault Refusal := live watchdogExpiry s

/-- The resume timer's expiry: MAINS_RUNNING again (R143). -/
def resumeExpiry (s : State) : State :=
  if s.feeder.resume.isSome then
    reportFault .mainsLost false
      { s with feeder := { s.feeder with st := .running, resume := none, halfOpen := false, sagRun := 0 } }
  else s

/-- RESUME_TIMER_EXPIRY (R143). -/
def execResumeTimerExpiry (s : State) : Host.Outcome State Fault Refusal := live resumeExpiry s

/-- A reading above the current peak becomes the current peak (R138). -/
def amplitudeReading (v : Nat) (s : State) : State := { s with feeder := { s.feeder with peak := max s.feeder.peak v } }

/-- AMPLITUDE_SENSE_READING (R138). -/
def execAmplitudeSenseReading (steps : Fin 1024) (s : State) : Host.Outcome State Fault Refusal :=
  live (amplitudeReading steps.val) s

end Sys2Proof.Machine
end

