-- ==== Sys2Proof/Machine/PanelCmds.lean ====
section
/-! DEFINITION. PanelCmds: raw keys, releases, the long press, the history display, the buzzer and the flashing lamp
(chapter 11, R170, R171). -/

namespace Sys2Proof.Machine

/-! ## Keys -/

/-- One key of the panel. -/
def keyOf (k : Key) (p : Panel) : KeyLine :=
  match k with
  | .start => p.start
  | .cancel => p.cancel
  | .power => p.power

/-- One key of the panel changed by `f`. -/
def onKey (k : Key) (f : KeyLine → KeyLine) (p : Panel) : Panel :=
  match k with
  | .start => { p with start := f p.start }
  | .cancel => { p with cancel := f p.cancel }
  | .power => { p with power := f p.power }

/-- A raw level that differs from the debounced state starts the debounce; one that agrees loses it (R174). -/
def rawLevel (pressed : Bool) (k : KeyLine) : KeyLine :=
  { k with raw := pressed, debounce := if pressed = k.debounced then none else some debounceMs }

/-- KEY_LINE_CHANGE (R174). In reset only the level is kept. -/
def execKeyLineChange (key : Key) (pressed : Bool) (s : State) : Host.Outcome State Fault Refusal :=
  live (fun s => { s with panel := onKey key (rawLevel pressed) s.panel })
    { s with panel := onKey key (fun k => { k with raw := pressed }) s.panel }

/-- A release at the end of its debounce: nothing is handed on, and for CANCEL the long-press timer stops (R174). -/
def keyRelease (key : Key) (s : State) : State :=
  if (keyOf key s.panel).settles false then
    { s with
      panel :=
        { onKey key (fun _ => KeyLine.steady false) s.panel with
          longPress := if key = .cancel then none else s.panel.longPress } }
  else s

/-- KEY_RELEASE (R174). -/
def execKeyRelease (key : Key) (s : State) : Host.Outcome State Fault Refusal := live (keyRelease key) s

/-! ## History display -/

/-- The display shows this part of this record, and the code lines carry it (R170, R174). -/
def showPart (r : FaultRecord) (rest : List FaultRecord) (part : DisplayPart) (s : State) : State :=
  let d : Display := { shown := r, rest, part, ms := if part = .code then displayCodeMs else displayPartMs }
  { s with panel := { s.panel with display := some d }, faults := { s.faults with code := d.value } }

/-- The long press: the display starts, or starts afresh, if the cycle is IDLE and the history is not empty (R170, R171). -/
def longPress (s : State) : State :=
  if s.panel.longPress.isSome then
    let s := { s with panel := { s.panel with longPress := none } }
    match s.cycle.st, s.faults.history with
    | .idle, r :: rest => showPart r rest .code s
    | _, _ => s
  else s

/-- LONG_PRESS (R170, R174). -/
def execLongPress (s : State) : Host.Outcome State Fault Refusal := live longPress s

/-- The next part of the display, or its end (R170). -/
def displayStep (s : State) : State :=
  match s.panel.display with
  | none => s
  | some d =>
    match d.part, d.rest with
    | .code, _ => showPart d.shown d.rest .programme s
    | .programme, _ => showPart d.shown d.rest .index s
    | .index, [] => endDisplay s
    | .index, _ :: _ => showPart d.shown d.rest .separator s
    | .separator, [] => endDisplay s
    | .separator, r :: rest => showPart r rest .code s

/-- HISTORY_DISPLAY_STEP (R170). -/
def execHistoryDisplayStep (s : State) : Host.Outcome State Fault Refusal := live displayStep s

/-! ## Buzzer and lamps -/

/-- The buzzer's next step, or the end of its pattern (R176). -/
def buzzerStep (s : State) : State :=
  { s with panel := { s.panel with buzzer := s.panel.buzzer.bind fun x => soundAt x.pattern (x.step + 1) } }

/-- BUZZER_STEP (R176). -/
def execBuzzerStep (s : State) : Host.Outcome State Fault Refusal := live buzzerStep s

/-- A flashing lamp turned over; any other is left as it is (R175). -/
def PhaseLamp.toggled : PhaseLamp → PhaseLamp
  | .flashing k on => .flashing k !on
  | .dark => .dark
  | .lit k => .lit k

/-- LAMP_FLASH_TOGGLE (R175). -/
def execLampFlashToggle (s : State) : Host.Outcome State Fault Refusal :=
  live (fun s => { s with panel := { s.panel with phaseLamp := s.panel.phaseLamp.toggled } }) s

end Sys2Proof.Machine
end

