-- ==== Sys2Proof/Machine/ShareCmds.lean ====
section
/-! DEFINITION. ShareCmds: the timers of the Load Share Unit and the Membership Controller (chapters 4 to 6). -/

namespace Sys2Proof.Machine

/-- The notice cadence of a member at an own period expiry (R109). -/
def cadence (s : State) : State :=
  if quiet s then
    if presencePeriods ≤ s.member.presence + 1 then
      loadNotice .presence { s with member := { s.member with presence := 0 } }
    else { s with member := { s.member with presence := s.member.presence + 1 } }
  else loadNotice .demand { s with member := { s.member with presence := presenceStart } }

/-- The Membership Controller at an own period expiry (R109, R111, R112). -/
def memberPeriod (s : State) : State :=
  let counted := { s with member := { s.member with periodCount := s.member.periodCount + 1 } }
  match s.member.st with
  | .joinListen => if counted.member.periodCount = joinPeriods then enterJoinAsk counted else counted
  | .joinHold => if counted.member.periodCount = joinPeriods then enterJoinConfirm counted else counted
  | .member => cadence s
  | .joinAsk | .joinConfirm | .isolated | .duplicate | .leaving | .standby => s

/-- The Peer Table aged by one own period, with BANK_OVERFLOW following the known count (R69, R74). -/
def ageTable (s : State) : State :=
  let t := s.table.map Entry.aged
  reportFault .bankOverflow (overflows s.straps.bankSize t) { s with table := t }

/-- The shed hold less one period; at its end the origination arm is set (R99). -/
def decreaseHold (l : LoadShare) : LoadShare :=
  if l.hold = 0 then l else { l with hold := l.hold - 1, arm := if l.hold = 1 then true else l.arm }

/-- The own share period's expiry: aging, then the shed hold, then the computation, then the Membership Controller
(R80, R75). -/
def periodExpiry (s : State) : State :=
  if s.share.period.isSome then
    let s := ageTable s
    memberPeriod (compute { s with share := { decreaseHold s.share with period := some s.straps.periodMs } })
  else s

/-- SHARE_PERIOD_EXPIRY (R69, R80, R99, R109, R111, R112). -/
def execSharePeriodExpiry (s : State) : Host.Outcome State Fault Refusal := live periodExpiry s

/-- The raise-ready timer's expiry: a computation, and then A at the lesser of its target claim and G (R94). -/
def raiseExpiry (s : State) : State :=
  match s.share.raiseReady with
  | none => s
  | some r =>
    let s := compute { s with share := { s.share with raiseReady := none } }
    settle { s with share := { s.share with allowance := min r.target s.share.grant } }

/-- RAISE_READY_EXPIRY (R94). -/
def execRaiseReadyExpiry (s : State) : Host.Outcome State Fault Refusal := live raiseExpiry s

/-- The isolation limit timer's expiry: the limit is lifted (R96). -/
def limitExpiry (s : State) : State :=
  if s.share.limitTimer.isSome then compute { s with share := { s.share with limit := none, limitTimer := none } } else s

/-- ISOLATION_LIMIT_EXPIRY (R96, R97). -/
def execIsolationLimitExpiry (s : State) : Host.Outcome State Fault Refusal := live limitExpiry s

/-- The isolation dwell timer's expiry: the station leaves ISOLATED if line free is set (R120). -/
def dwellExpiry (s : State) : State :=
  if s.member.dwell.isSome then
    let s := { s with member := { s.member with dwell := none } }
    if s.member.st = .isolated ∧ s.member.lineFree then exitIsolated s else s
  else s

/-- ISOLATION_DWELL_EXPIRY (R120). -/
def execIsolationDwellExpiry (s : State) : Host.Outcome State Fault Refusal := live dwellExpiry s

end Sys2Proof.Machine
end

