-- ==== Sys2Proof/Machine/StartCmds.lean ====
section
/-! DEFINITION. StartCmds: the two resets and the end of the strap window (R149, R172, R173 and the reset rule of each block). -/

namespace Sys2Proof.Machine

/-- A key at the release of a reset: released, and a line held down begins its debounce (R173, R174). -/
def keyAtReset (k : KeyLine) : KeyLine :=
  { raw := k.raw, debounced := false, debounce := if k.raw then some debounceMs else none }

/-- The part at the release of a power-on reset, before its first readings: every block at its reset values, with the cabinet
lines as they stand, the forced-off flags and the lock-confirm timer formed from them (R149, R173). The levels of the lines,
the raw key lines, what the other stations are still to put on the Share Line, the reads of the nonce counter and the queue
are not the part's to reset. -/
def freshStart (s : State) : State :=
  settle
    { State.reset with
      loads := { LoadOut.reset with lockConfirm := if s.lines.locked then none else some lockConfirmMs }
      panel :=
        { Panel.reset with
          start := keyAtReset s.panel.start, cancel := keyAtReset s.panel.cancel, power := keyAtReset s.panel.power }
      lines := s.lines
      nonceReads := s.nonceReads
      line := s.line
      pending := s.pending }

/-- The first probe round and the first humidity reading, taken at the release (R44, R51). That the trip line's level, which R50 takes
as a change at the release, is evaluated at the end of the round, once PROBE_FAULT has been raised, is the model's choice of
order (log entry 9): with the trip line active and two probes invalid, PROBE_FAULT is active and recorded first. -/
def firstReadings (r0 r1 r2 rh : Int) (s : State) : State := humidityReading rh (probeRound r0 r1 r2 s)

/-- A power-on reset (R173). -/
def powerOn (r0 r1 r2 rh : Int) (s : State) : State := firstReadings r0 r1 r2 rh (freshStart s)

/-- POWER_ON_RESET (R173). It is taken whatever the RESET input shows. -/
def execPowerOnReset (r0 r1 r2 rh : Int) (s : State) : Host.Outcome State Fault Refusal := .next (powerOn r0 r1 r2 rh s)

/-- The outputs at the assertion of the RESET input: every gate, the solenoid and the fan-speed outputs released (R149). That the
block's other items, which R149 gives values at the release, take theirs here already is the model's choice (log entry 23). -/
def loadsReleased : LoadOut := { LoadOut.reset with lock := false, lockConfirm := none }

/-- The assertion of the RESET input: gate outputs and line driver released, lamps dark, buzzer silent, no history display
(R149, R122, R173, R171). That the framer is SILENT with its timers stopped until the release is the model's choice (log entry
23). -/
def assertReset (s : State) : State :=
  let s := endDisplay s
  { s with
    inReset := true
    loads := loadsReleased
    framer := framerSilent s.framer
    panel := { s.panel with phaseLamp := .dark, flash := none, doneLamp := false, waitLamp := false, buzzer := none } }

/-- RESET_PIN_ASSERT (R149, R122, R173). -/
def execResetPinAssert (s : State) : Host.Outcome State Fault Refusal := .next (assertReset s)

/-- What a RESET pin reset keeps, once mains learning has completed: the straps and constants, W and the nominal peak, and the
fault history (R139, R164, R172). -/
def keepLearned (s base : State) : State :=
  { base with
    straps := s.straps
    feeder :=
      { Feeder.reset with
        st := .running, window := s.feeder.window, nominal := s.feeder.nominal, watchdog := some watchdogMs }
    faults := { base.faults with history := s.faults.history } }

/-- The release of the RESET input: JOIN_LISTEN with what is kept, or a power-on reset if learning never completed
(R139, R173). -/
def releaseReset (r0 r1 r2 rh : Int) (s : State) : State :=
  if s.feeder.window.isSome then firstReadings r0 r1 r2 rh (enterJoinListen (keepLearned s (freshStart s)))
  else powerOn r0 r1 r2 rh s

/-- RESET_PIN_RELEASE (R173, R139). -/
def execResetPinRelease (r0 r1 r2 rh : Int) (s : State) : Host.Outcome State Fault Refusal := .next (releaseReset r0 r1 r2 rh s)

/-- The end of the strap window: straps and constants latched, the strap pins turned to outputs by the same latching, which then carry
what `strapOutputs` says, and mains learning begun with its watchdog (R172, R139). -/
def strapWindowEnd (addr : Fin 16) (cap : Fin 8) (bank : Fin 16) (s : State) : State :=
  if s.straps.window.isSome then
    { s with
      straps := latchStraps addr cap bank
      feeder := { s.feeder with st := .learning, watchdog := some watchdogMs } }
  else s

/-- STRAP_WINDOW_END (R172, R139). -/
def execStrapWindowEnd (addr : Fin 16) (cap : Fin 8) (bank : Fin 16) (s : State) : Host.Outcome State Fault Refusal :=
  live (strapWindowEnd addr cap bank) s

end Sys2Proof.Machine
end

