-- ==== Sys2Proof/Machine/Dispatch.lean ====
section
/-! DEFINITION. Dispatch: one arm per command, in the order of spec/opcode_table.json. -/

namespace Sys2Proof.Machine

def exec (i : Instr) (s : State) : Host.Outcome State Fault Refusal :=
  match i with
  | .powerOnReset p0 p1 p2 rh => Sys2Proof.Machine.execPowerOnReset p0 p1 p2 rh s
  | .resetPinAssert => Sys2Proof.Machine.execResetPinAssert s
  | .resetPinRelease p0 p1 p2 rh => Sys2Proof.Machine.execResetPinRelease p0 p1 p2 rh s
  | .strapWindowEnd addr cap bank => Sys2Proof.Machine.execStrapWindowEnd addr cap bank s
  | .keyLineChange key pressed => Sys2Proof.Machine.execKeyLineChange key pressed s
  | .startPress sel2 sel1 sel0 => Sys2Proof.Machine.execStartPress sel2 sel1 sel0 s
  | .cancelPress => Sys2Proof.Machine.execCancelPress s
  | .powerPress => Sys2Proof.Machine.execPowerPress s
  | .keyRelease key => Sys2Proof.Machine.execKeyRelease key s
  | .longPress => Sys2Proof.Machine.execLongPress s
  | .historyDisplayStep => Sys2Proof.Machine.execHistoryDisplayStep s
  | .doorOpen => Sys2Proof.Machine.execDoorOpen s
  | .doorClose => Sys2Proof.Machine.execDoorClose s
  | .waterLevelChange adequate => Sys2Proof.Machine.execWaterLevelChange adequate s
  | .lockSenseChange locked => Sys2Proof.Machine.execLockSenseChange locked s
  | .tachPulse => Sys2Proof.Machine.execTachPulse s
  | .tripLineChange active => Sys2Proof.Machine.execTripLineChange active s
  | .zeroCross since dominant => Sys2Proof.Machine.execZeroCross since dominant s
  | .zeroCrossWatchdogExpiry => Sys2Proof.Machine.execZeroCrossWatchdogExpiry s
  | .resumeTimerExpiry => Sys2Proof.Machine.execResumeTimerExpiry s
  | .probeRound p0 p1 p2 => Sys2Proof.Machine.execProbeRound p0 p1 p2 s
  | .humiditySample rh => Sys2Proof.Machine.execHumiditySample rh s
  | .warmUpExpiry => Sys2Proof.Machine.execWarmUpExpiry s
  | .trackingExpiry => Sys2Proof.Machine.execTrackingExpiry s
  | .secondTimerExpiry => Sys2Proof.Machine.execSecondTimerExpiry s
  | .pauseTimerExpiry => Sys2Proof.Machine.execPauseTimerExpiry s
  | .cancelCoolTimerExpiry => Sys2Proof.Machine.execCancelCoolTimerExpiry s
  | .sharePeriodExpiry => Sys2Proof.Machine.execSharePeriodExpiry s
  | .raiseReadyExpiry => Sys2Proof.Machine.execRaiseReadyExpiry s
  | .isolationLimitExpiry => Sys2Proof.Machine.execIsolationLimitExpiry s
  | .isolationDwellExpiry => Sys2Proof.Machine.execIsolationDwellExpiry s
  | .tachWatchdogExpiry => Sys2Proof.Machine.execTachWatchdogExpiry s
  | .lockConfirmExpiry => Sys2Proof.Machine.execLockConfirmExpiry s
  | .buzzerStep => Sys2Proof.Machine.execBuzzerStep s
  | .lampFlashToggle => Sys2Proof.Machine.execLampFlashToggle s
  | .idleHoldExpiry => Sys2Proof.Machine.execIdleHoldExpiry s
  | .receiveDemand addr cls boost want claim draw => Sys2Proof.Machine.execReceiveDemand addr cls boost want claim draw s
  | .receivePresence addr => Sys2Proof.Machine.execReceivePresence addr s
  | .receiveJoinAsk addr nonce => Sys2Proof.Machine.execReceiveJoinAsk addr nonce s
  | .receiveJoinConfirm addr nonce held => Sys2Proof.Machine.execReceiveJoinConfirm addr nonce held s
  | .receiveLeave addr => Sys2Proof.Machine.execReceiveLeave addr s
  | .frameDiscarded => Sys2Proof.Machine.execFrameDiscarded s
  | .arbitrationLost bit => Sys2Proof.Machine.execArbitrationLost bit s
  | .noticeCompletion => Sys2Proof.Machine.execNoticeCompletion s
  | .attemptFailed => Sys2Proof.Machine.execAttemptFailed s
  | .shedMarkSeen ownPulse inFrame => Sys2Proof.Machine.execShedMarkSeen ownPulse inFrame s
  | .lineStuck => Sys2Proof.Machine.execLineStuck s
  | .lineStuckRelease => Sys2Proof.Machine.execLineStuckRelease s
  | .lineFreed => Sys2Proof.Machine.execLineFreed s
  | .amplitudeSenseReading steps => Sys2Proof.Machine.execAmplitudeSenseReading steps s

end Sys2Proof.Machine
end

