-- ==== Sys2Proof/Machine/Line.lean ====
section
/-! DEFINITION. Line: the framer pulse by pulse (R121 to R128, R130 to R133, R135 to R137). The line is the wired-OR of what the other
stations put on it, read one observation at a time, and of the own driver. Where an observation completes one of the table's
events, that command is put on the queue. This is what an idle step does in place of idling while `State.line` holds
observations (log entry 6). -/

namespace Sys2Proof.Machine

/-- Commands the framer reports, put at the end of the queue. -/
def report (cmds : List Instr) (s : State) : State := { s with pending := s.pending ++ cmds }

/-- The pulse is read again once the reported commands have been taken: it lies outside the frame they ended. -/
def again (since length : Nat) (s : State) : State := { s with line := .pulse since length :: s.line }

/-- The framer after a pulse that is part of something: its timers restart (R124). -/
def touched (s : State) : State := { s with framer := touchLine s.framer }

/-! ## The wired-OR of the drivers (R121, R130) -/

/-- The time in µs after the last leading edge at which the driver begins this pulse: a start pulse and a mark begin the interval they
drive in, the first bit follows the start pulse by 3000 µs and each later bit the one before it by 1000 µs (R121, R130). -/
def dueUs (f : Framer) : Drive → Nat
  | .start => 0
  | .mark _ => 0
  | .bit _ => if (f.sending.map Sending.index).getD 0 ≤ 1 then firstBitUs else bitSlotUs

/-- A dominant interval of the line, from `start` to `stop` µs after the last timing edge; `ref` is the edge, on the same scale, from
which the next observation of the other stations counts. -/
structure Interval where
  start : Nat
  stop : Nat
  ref : Nat
  deriving DecidableEq, Repr

/-- The class of the pulse that the interval makes on the line (R124). -/
def Interval.cls (i : Interval) : PulseClass := classify (i.stop - i.start)

/-- The interval with every further pulse that begins before it ends, and without the silences within it: the line is the wired-OR
of all drivers (R121). -/
def absorb : Interval → List LineObs → Interval × List LineObs
  | i, [] => (i, [])
  | i, .quiet since :: rest => if i.ref + since < i.stop then absorb i rest else (i, .quiet since :: rest)
  | i, .pulse since length :: rest =>
    let b := i.ref + since
    if b ≤ i.stop then
      absorb { i with stop := max i.stop (b + length), ref := if classify length = .glitch then i.ref else b } rest
    else (i, .pulse since length :: rest)

/-- Observations that counted from `ref`, up to the first that is itself a timing edge, counted from the edge at `start`. -/
def retime (ref start : Nat) : List LineObs → List LineObs
  | [] => []
  | .quiet since :: rest => .quiet (ref + since - start) :: retime ref start rest
  | .pulse since length :: rest =>
    .pulse (ref + since - start) length :: if classify length = .glitch then retime ref start rest else rest

/-- What the line shows of the next observation of the other stations: a pulse or silence, none while the own pulse is still on the
line; whether the own driver drove a part of it; and the observations that are left. -/
structure OnLine where
  shows : Option LineObs
  own : Bool
  rest : List LineObs
  deriving DecidableEq, Repr

/-- The line shows this interval. What follows counts from its leading edge, and from the edge before it if it is a glitch. -/
def shown (own : Bool) (i : Interval × List LineObs) : OnLine :=
  ⟨some (.pulse i.1.start (i.1.stop - i.1.start)), own, if i.1.cls = .glitch then i.2 else retime i.1.ref i.1.start i.2⟩

/-- When the own driver begins its pulse beside an interval of the other stations: at the time it is due. A bit is driven at once from
another station's leading edge that comes before that, 800 µs or more after the last one, and not at all where that edge comes
sooner, which puts the attempt in doubt (R130, R132). A glitch re-times nothing (R124). -/
def driveFrom (f : Framer) (d : Drive) (peers : Interval) : Option Nat :=
  match d with
  | .start | .mark _ => some (dueUs f d)
  | .bit _ =>
    if peers.cls = .glitch then some (dueUs f d)
    else if peers.start < slotOpensUs then none
    else some (min (dueUs f d) peers.start)

/-- What the line shows: the wired-OR of the other stations' observations, the next one `o`, and of the own driver (R121). -/
def wired (f : Framer) (o : LineObs) (rest : List LineObs) : OnLine :=
  match o, f.drive with
  | .quiet since, none => ⟨some (.quiet since), false, rest⟩
  | .quiet since, some d =>
    let i : Interval := ⟨dueUs f d, dueUs f d + d.lengthUs, 0⟩
    if i.stop ≤ since then shown true (i, .quiet since :: rest) else ⟨none, false, rest⟩
  | .pulse since length, drive =>
    let peers := absorb ⟨since, since + length, if classify length = .glitch then 0 else since⟩ rest
    match drive.bind fun d => (driveFrom f d peers.1).map fun b => (b, b + d.lengthUs) with
    | none => shown false peers
    | some (b, e) =>
      if peers.1.stop < b then shown false peers
      else if e < since then shown true (⟨b, e, 0⟩, .pulse since length :: rest)
      else shown true (absorb ⟨min b since, max e peers.1.stop, peers.1.ref⟩ peers.2)

/-! ## Frames that end before an edge -/

/-- The frame in reception has all its bits (R126). -/
def Reception.full (r : Reception) : Bool := decide (r.expected = some r.bits.length)

/-- The silence that ends a short frame, in µs after the last leading edge: 2500 after a bit (R125, R126). After the start pulse,
which is itself driven for 2000 µs and whose first bit is due at 2800 µs at the earliest, the 2500 µs of recessive line are
counted from its nominal end (log entry 7). -/
def shortUs (received : Nat) : Nat := if received = 0 then 4500 else 2500

/-- What a frame of complete length is reported as: delivered if its check agrees, else discarded (R126, R127, R128). -/
def frameReport (r : Reception) : Instr := (decodeFrame r.bits).getD .frameDiscarded

/-- What the framer reports of the frame on the line before a leading edge `since` µs after the last: a received frame whose stop gap
has run out is accepted, a short one whose next window has passed is discarded, and an own frame whose stop gap has run out is
complete (R126, R133, R137). None: the edge falls within the frame, or there is none. R126 has the late edge's pulse read afresh, as
one outside any frame, where the frame's length is loaded; that this is also so for a frame of kind 0, 6 or 7 or of fewer than
three bits is the model's choice (log entry 24). -/
def endedBefore (since : Nat) (f : Framer) : Option Instr :=
  match f.st with
  | .receiving =>
    f.reception.bind fun r =>
      if r.full then (if completeUs ≤ since then some (frameReport r) else none)
      else if (bitWindow r.bits.length).2 < since then some .frameDiscarded
      else none
  | .sending =>
    f.sending.bind fun x => if x.bits.length < x.index ∧ completeUs ≤ since then some .noticeCompletion else none
  | .silent | .listen | .waiting | .stuck => none

/-! ## Pulses -/

/-- A pulse in LISTEN or WAITING: a start pulse opens a frame, a bit or bad pulse is a stray one, reported as discarded
(R125). -/
def outsidePulse (c : PulseClass) (s : State) : State :=
  if c = .start then
    { s with
      framer := touchLine { s.framer with st := .receiving, reception := some { bits := [], expected := none } } }
  else report [.frameDiscarded] (touched s)

/-- A pulse within a frame in reception that is no glitch, shed mark or stuck line: a bit in its window is appended, and any other
discards the frame. A start pulse is then read again, to open the next one (R125, R126). That the pulse of a too early
leading edge is spent on that discard, and not read again as a stray pulse, is the model's choice (log entry 22). -/
def receivingPulse (since length : Nat) (c : PulseClass) (r : Reception) (s : State) : State :=
  if c = .start then again since length (report [.frameDiscarded] s)
  else if r.full ∨ since < (bitWindow r.bits.length).1 ∨ c = .bad then report [.frameDiscarded] (touched s)
  else { s with framer := touchLine { s.framer with reception := some (r.push (decide (c = .one))) } }

/-- A sender's next pulse, once the one at its index has been seen as driven (R130). -/
def nextPulse (x : Sending) (f : Framer) : Framer :=
  let x := { x with index := x.index + 1 }
  touchLine { f with sending := some x, drive := x.drive }

/-- A pulse of the own transmission, or one that meets it (R130 to R132): the start pulse, then each bit compared with what was
driven, then the stop gap. -/
def sendingPulse (since length : Nat) (c : PulseClass) (x : Sending) (s : State) : State :=
  let next := { s with framer := nextPulse x s.framer }
  let failed := report [.attemptFailed] (touched s)
  if x.index = 0 then (if c = .start then next else failed)
  else if since < slotOpensUs then failed
  else
    match x.bits[x.index - 1]?, c with
    | some true, .one => next
    | some true, .zero => report [.arbitrationLost (x.index - 1)] (touched s)
    | some true, .start =>
      again since length (report [.arbitrationLost (x.index - 1), .frameDiscarded] (touched s))
    | some true, _ => report [.arbitrationLost (x.index - 1), .frameDiscarded] (touched s)
    | some false, .zero => next
    | some false, _ => failed
    | none, _ => failed

/-- A pulse that is no glitch, shed mark or stuck line, by the framer's state (R125, R130 to R132). -/
def framePulse (since length : Nat) (c : PulseClass) (s : State) : State :=
  match s.framer.st with
  | .silent | .stuck => s
  | .listen | .waiting => outsidePulse c s
  | .receiving =>
    match s.framer.reception with
    | none => outsidePulse c s
    | some r => receivingPulse since length c r s
  | .sending =>
    match s.framer.sending with
    | none => s
    | some x => sendingPulse since length c x s

/-- A dominant pulse on the line, `own` saying whether the own driver drove a part of it. Its leading edge shows that a stuck line went
recessive, and ends a frame whose time had run out before it; the pulse is then read again. A glitch is ignored; a shed mark and
a stuck line are reported whatever frame is on the line (R124, R126, R133, R135 to R137). -/
def observePulse (own : Bool) (since length : Nat) (s : State) : State :=
  if s.framer.st = .stuck then again since length (report [.lineStuckRelease] s)
  else if classify length = .glitch then s
  else
    match endedBefore since s.framer, classify length with
    | some c, _ => again since length (report [c] s)
    | none, .stuck => report [.lineStuck] s
    | none, .mark => report [.shedMarkSeen own (decide (s.framer.st = .receiving))] s
    | none, c => framePulse since length c s

/-- A recessive line, `since` µs after the last leading edge: it ends a short frame, a complete one, an own frame in its stop gap,
or a stuck line (R126, R133, R135). -/
def observeQuiet (since : Nat) (s : State) : State :=
  match s.framer.st with
  | .silent | .listen | .waiting => s
  | .stuck => report [.lineStuckRelease] s
  | .receiving =>
    match s.framer.reception with
    | none => s
    | some r =>
      if r.full then (if completeUs ≤ since then report [frameReport r] s else s)
      else if shortUs r.bits.length ≤ since then report [.frameDiscarded] s
      else s
  | .sending =>
    match s.framer.sending with
    | none => s
    | some x => if x.bits.length < x.index ∧ completeUs ≤ since then report [.noticeCompletion] s else s

/-- One observation of the other stations, joined with those that overlap it and with the own driver. A SILENT framer
neither reads the line nor reports (R123), and a part held in reset takes nothing. -/
def observe (o : LineObs) (s : State) : State :=
  if s.inReset ∨ s.framer.st = .silent then s
  else
    let w := wired s.framer o s.line
    let s := { s with line := w.rest }
    match w.shows with
    | none => s
    | some (.pulse since length) => observePulse w.own since length s
    | some (.quiet since) => observeQuiet since s

/-- What an idle step does: the next observation of the line is read, and with none the part idles (log entry 6). -/
def idle (s : State) : State :=
  match s.line with
  | [] => s
  | o :: rest => observe o { s with line := rest }

end Sys2Proof.Machine
end

