-- ==== Sys2Proof/Safety.lean ====
section
/-! DEFINITION. Safety: what a sound state of the part is, as the invariants that claims use. Each such predicate says of one state
what the cited rules say of every moment. After them come the frames, what a command leaves as it was, and the readings, what one
idle step makes of the Share Line; none mentions a run. -/

namespace Sys2Proof.Machine

/-- The part takes events: its RESET input is not asserted. -/
abbrev Live (s : State) : Prop := s.inReset = false

/-! ## Outputs and requests -/

/-- Every formed output is as its inputs give it now: forming all of them afresh changes nothing (R21, R150, R151, R155, R157,
R159, R160, R175). -/
def Settled (s : State) : Prop := Live s → settle s = s

/-- What the Cycle Controller has handed on is what its state and inputs give now (R24, R25, R29 to R31). -/
def RequestFresh (s : State) : Prop := Live s → s.request = formRequest s

/-- The requests, row by row: the steam part with the water level adequate and the heater part with the latch on, in RUNNING alone
(R24); the class of the phase kind in RUNNING (R25); boost (R22); the fan level by cycle state (R29); the lock in RUNNING and HELD
of a STEAM, SETTLE or FRESHEN phase, in CANCEL_COOL, and at a Tmax of 50.0 °C or more in every state (R30); the valve in RUNNING of a
STEAM or FRESHEN phase (R31). -/
def RequestTabled (s : State) : Prop :=
  s.request.steam =
      (if s.cycle.st = .running ∧ (s.cycle.kind = some .steam ∨ s.cycle.kind = some .freshen) ∧ s.lines.waterLow = false then
        (s.cycle.record.bind Record.steam).getD 0
      else 0) ∧
    s.request.heater =
      (if s.cycle.st = .running ∧ s.cycle.latch = true then (s.cycle.record.bind Record.heater).getD 0 else 0) ∧
    s.request.cls =
      (if s.cycle.st = .running then
        match s.cycle.kind with
        | some .steam => 3
        | some .dry => 2
        | some .freshen => 1
        | some .settle => 0
        | some .cool => 0
        | none => 0
      else 0) ∧
    s.request.boost = s.cycle.boost ∧
    s.request.fan =
      (match s.cycle.st with
        | .running | .held => (s.cycle.record.map Record.fan).getD 0
        | .cancelCool | .halted => 3
        | .idle | .paused | .done | .standby => 0) ∧
    (s.request.lock = true ↔
      ((s.cycle.st = .running ∨ s.cycle.st = .held) ∧
          (s.cycle.kind = some .steam ∨ s.cycle.kind = some .settle ∨ s.cycle.kind = some .freshen)) ∨
        s.cycle.st = .cancelCool ∨ 100 ≤ s.climate.tmax) ∧
    (s.request.valve = true ↔
      s.cycle.st = .running ∧ (s.cycle.kind = some .steam ∨ s.cycle.kind = some .freshen))

/-- The fault-code lines carry the active code, or the running history display (R164, R170). -/
def CodeShown (s : State) : Prop := s.faults.code = codeOut s.faults s.panel.display

/-! ## Cycle -/

/-- The phase record, when there is one, is the ROM's at the programme and phase index (R11, R19, R38). -/
def RecordFromRom (s : State) : Prop :=
  s.cycle.record = none ∨ s.cycle.record = readRom s.cycle.programme s.cycle.index

/-- The parts of want keep within the bounds R10 and R24 give them. -/
def RequestInRange (r : Request) : Prop :=
  r.heater ≤ heaterRating ∧ (r.steam = 0 ∨ (steamMinimum ≤ r.steam ∧ r.steam ≤ steamRating)) ∧ r.want ≤ 34

/-- A phase is in hand: RUNNING, HELD or PAUSED. -/
def PhaseInHand (c : Cycle) : Prop := c.st = .running ∨ c.st = .held ∨ c.st = .paused

/-- The cycle's timers and pause context stand where R20, R37, R39 and R41 have them, and a phase in hand has its record. -/
def CycleFormed (s : State) : Prop :=
  (s.cycle.second.isSome ↔ s.cycle.st = .running) ∧ (s.cycle.context.isSome ↔ s.cycle.st = .paused) ∧
    (s.cycle.pause.isSome ↔ s.cycle.st = .paused) ∧ (s.cycle.cancelCool.isSome ↔ s.cycle.st = .cancelCool) ∧
    (PhaseInHand s.cycle → s.cycle.record.isSome) ∧
    ∀ x, s.cycle.context = some x → x.index = s.cycle.index

/-- The dry watch works only in a DRY phase that is RUNNING or HELD, its two timers run in WARM_UP and TRACKING alone, and its flag
is set in FOUND alone (section 3.4, R53 to R57). -/
def WatchFormed (s : State) : Prop :=
  (s.climate.warmUp.isSome ↔ s.climate.watch = .warmUp) ∧ (s.climate.tracking.isSome ↔ s.climate.watch = .tracking) ∧
    (s.climate.dryPoint = true ↔ s.climate.watch = .found) ∧
    (s.climate.watch ≠ .off → (s.cycle.st = .running ∨ s.cycle.st = .held) ∧ s.cycle.kind = some .dry) ∧
    (s.climate.watch = .found → s.cycle.st = .held)

/-! ## Loads -/

/-- The bounds of R151: draw is the sum of the levels and within the allowance, each level within its rating, and no level where
the door is open, the cycle neither RUNNING nor in CANCEL_COOL, or a class A or B fault active. That there is none in reset either
is the model's choice (log entry 23): of R149 only the gates are released there. -/
def LoadsSafe (s : State) : Prop :=
  s.loads.draw = s.loads.steamLevel + s.loads.heaterLevel ∧ s.loads.draw ≤ s.share.allowance ∧
    s.loads.heaterLevel ≤ heaterRating ∧
    (s.loads.steamLevel = 0 ∨ (steamMinimum ≤ s.loads.steamLevel ∧ s.loads.steamLevel ≤ steamRating)) ∧
    ((s.lines.doorOpen = true ∨ ¬(s.cycle.st = .running ∨ s.cycle.st = .cancelCool) ∨ s.faults.blocking = true ∨
        s.inReset = true) →
      s.loads.steamLevel = 0 ∧ s.loads.heaterLevel = 0)

/-- The fan watch of R158: off, it is neither confirmed nor timed; on, it is timed or FAN_STALL is held; confirmed, it is
timed. In reset, where R149 releases the fan outputs alone, it is as log entry 23 has it. -/
def FanWatched (s : State) : Prop :=
  (s.loads.fan = 0 → s.loads.tachConfirmed = false ∧ s.loads.tachWatchdog = none) ∧
    (s.loads.fan ≠ 0 → s.loads.tachWatchdog.isSome ∨ s.faults.holds .fanStall = true) ∧
    (s.loads.tachConfirmed = true → s.loads.tachWatchdog.isSome)

/-- The two fan-speed outputs carry the fan command as a count (R157). -/
def FanDriven (l : LoadOut) : Prop :=
  l.fanFirst = decide (l.fan = 1 ∨ l.fan = 3) ∧ l.fanSecond = decide (l.fan = 2 ∨ l.fan = 3)

/-- The lock watch of R160 and R161: the command is the request, and while sense and command differ the timer runs or LOCK_FAULT
is held, and while they match neither. -/
def LockWatched (s : State) : Prop :=
  Live s →
    s.loads.lock = s.request.lock ∧
      ((s.loads.lockConfirm.isSome ∨ s.faults.holds .lockFault = true) ↔ s.lines.locked ≠ s.loads.lock)

/-- The division of A, steam first and at 8 units or more, the heater from what is left, and the levels that the forced-off flags
leave of it (R150, R151). -/
def LoadsDivided (s : State) : Prop :=
  s.loads.steamAssigned =
      (if 8 ≤ min s.share.allowance s.request.steam then min s.share.allowance s.request.steam else 0) ∧
    s.loads.heaterAssigned = min (s.share.allowance - s.loads.steamAssigned) s.request.heater ∧
    (s.loads.heaterOff = true ↔
      s.loads.fan = 0 ∨ s.loads.tachConfirmed = false ∨ s.lines.trip = true ∨ s.lines.doorOpen = true ∨
        ¬(s.cycle.st = .running ∨ s.cycle.st = .cancelCool) ∨ s.faults.activeClass = some .a ∨
        s.faults.activeClass = some .b) ∧
    (s.loads.steamOff = true ↔ s.loads.heaterOff = true ∨ s.lines.waterLow = true) ∧
    (s.loads.valveOff = true ↔ s.lines.locked = false ∨ s.lines.doorOpen = true) ∧
    (s.loads.fanOff = true ↔ s.lines.doorOpen = true) ∧
    s.loads.steamLevel = (if s.loads.steamOff then 0 else s.loads.steamAssigned) ∧
    s.loads.heaterLevel = (if s.loads.heaterOff then 0 else s.loads.heaterAssigned)

/-- The starvation flag is set exactly while a RUNNING phase lacks its treatment: steam asked for and none given in STEAM and FRESHEN,
the latch on with a heater level below 6 units in DRY, and never in SETTLE and COOL (R21). -/
def StarvedWhere (s : State) : Prop :=
  s.cycle.starved = true ↔
    s.cycle.st = .running ∧
      match s.cycle.kind with
      | some .steam => 0 < s.request.steam ∧ s.loads.steamLevel = 0
      | some .freshen => 0 < s.request.steam ∧ s.loads.steamLevel = 0
      | some .dry => s.cycle.latch = true ∧ s.loads.heaterLevel < 6
      | some .settle => False
      | some .cool => False
      | none => False

/-- The fan command by the table of R157: off with the door open; with it closed, in HALTED 3, or 1 while FAN_STALL is raised; in
every other state the requested level, and with the fan requested off the proving drive at 1 while FAN_STALL is raised, else off.
The two fan-speed outputs carry it as a count. -/
def FanByTable (s : State) : Prop :=
  (s.lines.doorOpen = true → s.loads.fan = 0) ∧
    (s.lines.doorOpen = false →
      (s.cycle.st = .halted → s.loads.fan = if s.faults.holds .fanStall then 1 else 3) ∧
        (s.cycle.st ≠ .halted → 0 < s.request.fan → s.loads.fan = s.request.fan) ∧
        (s.cycle.st ≠ .halted → s.request.fan = 0 → s.loads.fan = if s.faults.holds .fanStall then 1 else 0)) ∧
    FanDriven s.loads

/-- The lock command is the lock request; the valve is open while it is requested, the steam level is 8 units or more, the lock sense
reports locked and the door is closed; and the running window's counts are lowered at once with the levels, on a window length W
(R155, R159, R160). -/
def GatesFollow (s : State) : Prop :=
  s.loads.lock = s.request.lock ∧
    (s.loads.valve = true ↔
      s.request.valve = true ∧ 8 ≤ s.loads.steamLevel ∧ s.lines.locked = true ∧ s.lines.doorOpen = false) ∧
    s.loads.heaterCount ≤ s.loads.heaterLevel * s.feeder.window.getD 0 / 30 ∧
    s.loads.steamCount ≤ s.loads.steamLevel * s.feeder.window.getD 0 / 20

/-- The lamps by the table of R175: in RUNNING and HELD the lamp of the phase kind is lit, in PAUSED it flashes, in CANCEL_COOL that
of COOL flashes, in every other state all five are dark; the DONE lamp is lit in DONE alone, the WAIT lamp exactly while RUNNING
with the allowance below want. -/
def LampsByTable (s : State) : Prop :=
  (match s.cycle.st with
    | .running | .held => s.panel.phaseLamp = (match s.cycle.kind with | some k => .lit k | none => .dark)
    | .paused =>
      match s.cycle.kind with
      | some k => ∃ on, s.panel.phaseLamp = .flashing k on
      | none => s.panel.phaseLamp = .dark
    | .cancelCool => ∃ on, s.panel.phaseLamp = .flashing .cool on
    | .done | .idle | .halted | .standby => s.panel.phaseLamp = .dark) ∧
    (s.panel.doneLamp = true ↔ s.cycle.st = .done) ∧
    (s.panel.waitLamp = true ↔ s.cycle.st = .running ∧ s.share.allowance < s.request.want)

/-- Every formed output by the rule that gives it (R21, R150, R151, R155, R157, R159, R160, R175). -/
def OutputsByRule (s : State) : Prop :=
  LoadsDivided s ∧ StarvedWhere s ∧ FanByTable s ∧ GatesFollow s ∧ LampsByTable s

/-! ## Sharing and membership -/

/-- The allowance is within the grant and the grant within the want and the own ceiling (R90). -/
def AllowanceInGrant (s : State) : Prop :=
  s.share.allowance ≤ s.share.grant ∧ s.share.grant ≤ min s.request.want ownCeiling

/-- The membership states whose grant is 0 (R89). -/
def Powerless (m : MemberState) : Prop := m = .joinListen ∨ m = .joinAsk ∨ m = .duplicate ∨ m = .leaving ∨ m = .standby

/-- No power is allowed in the states R89 gives none. -/
def PowerlessOutside (s : State) : Prop := Powerless s.member.st → s.share.grant = 0 ∧ s.share.allowance = 0

/-- One entry within the ranges of R61 and the ages R69 leaves it, under this isolated allowance. -/
def EntryFormed (aIso : Nat) : Entry → Prop
  | .empty => True
  | .joining held age => aIso ≤ held ∧ held ≤ 108 ∧ age < joiningAge
  | .active a age => a.cls ≤ 3 ∧ a.boost ≤ 7 ∧ a.want ≤ 48 ∧ a.claim ≤ 48 ∧ a.draw ≤ 48 ∧ age < activeAge
  | .quiet a age => a = { cls := 0, boost := 0, want := 0, claim := 0, draw := 0 } ∧ age < quietAge
  | .stale a age =>
    a.cls ≤ 3 ∧ a.boost ≤ 7 ∧ a.want ≤ 48 ∧ a.claim ≤ 48 ∧ a.draw ≤ 48 ∧ activeAge ≤ age ∧ age < staleAge

/-- The Peer Table holds sixteen entries, each within its ranges, and none for the own address; before the straps are latched it is
empty (R61, R62, R63, R69). -/
def TableFormed (s : State) : Prop :=
  s.table.length = 16 ∧ (∀ e ∈ s.table, EntryFormed s.straps.aIso e) ∧ entryAt s.table s.straps.address = .empty ∧
    (s.straps.window.isSome → s.table = emptyTable) ∧ s.straps.aIso ≤ 108

/-- The framer is SILENT in STANDBY and nowhere else (R118, R123). -/
def SilentInStandby (s : State) : Prop := Live s → (s.framer.st = .silent ↔ s.member.st = .standby)

/-- The line driver drives a shed mark, or the pulse at the index of the frame being sent, and is released in SILENT and STUCK
(R121, R122, R123, R130, R135, R136). -/
def DriverFits (s : State) : Prop :=
  (∀ d, s.framer.drive = some d →
    d.isMark = true ∨ (s.framer.st = .sending ∧ s.framer.sending.bind Sending.drive = some d)) ∧
    (s.framer.st = .silent ∨ s.framer.st = .stuck → s.framer.drive = none)

/-- A frame is being sent in SENDING alone (R123, R130). -/
def SendingFits (s : State) : Prop := s.framer.sending.isSome = true → s.framer.st = .sending

/-- The kinds of notice that may stand in the slot in a membership state: its own (R102) and, in LEAVING, one that was in flight at
the POWER press (R117). -/
def SlotKindFits (m : MemberState) (k : NoticeKind) : Prop :=
  match m with
  | .joinAsk => k = .joinAsk
  | .joinConfirm => k = .joinConfirm
  | .member => k = .demand ∨ k = .presence
  | .leaving => True
  | .joinListen | .joinHold | .isolated | .duplicate | .standby => False

/-- The slot's notice is of a kind the membership state sends, a notice in flight stands in the slot as the framer took it, a load is
held over only behind one in flight, and in LEAVING a LEAVE waits or is held over (R102, R104, R107, R117). -/
def SlotFits (s : State) : Prop :=
  (∀ n, s.member.slot = some n → SlotKindFits s.member.st n.kind) ∧ (s.member.inFlight = true → s.member.slot.isSome) ∧
    (∀ k, s.member.heldOver = some k →
      s.member.inFlight = true ∧ if s.member.st = .leaving then k = .leave else s.member.st = .member ∧ SlotKindFits .member k) ∧
    (s.member.st = .leaving →
      s.member.slot = some .leave ∨ (s.member.inFlight = true ∧ s.member.heldOver = some .leave)) ∧
    ∀ x, s.framer.sending = some x → s.member.slot = some x.notice ∧ s.member.inFlight = true

/-- In MEMBER the allowance is within the claim of the last completed own notice and of a DEMAND in the slot, and is 0 while a
PRESENCE waits or is held over; the raise-ready timer runs in MEMBER alone, over an empty slot, with the last completed claim as
its target (R94, R95). -/
def ClaimCovers (s : State) : Prop :=
  (s.member.st = .member →
    s.share.allowance ≤ s.member.lastClaim ∧
      (∀ a, s.member.slot = some (.demand a) → s.share.allowance ≤ a.claim) ∧
      (s.member.slot = some .presence ∨ s.member.heldOver = some .presence → s.share.allowance = 0)) ∧
    ∀ r, s.share.raiseReady = some r →
      s.member.st = .member ∧ s.member.slot = none ∧ r.target = s.member.lastClaim

/-- Until mains learning completes nothing has been learned and the station is in STANDBY with no return mark (R17, R103, R173). -/
def BootQuiet (s : State) : Prop :=
  s.straps.window.isSome ∨ s.feeder.st = .notStarted ∨ s.feeder.st = .learning →
    s.member.st = .standby ∧ s.feeder.window = none ∧ s.member.returnMark = false

/-- While a shed hold runs, and outside MEMBER at all times, the allowance is within the isolated allowance (R91, R98). -/
def IsoCapped (s : State) : Prop :=
  (0 < s.share.hold → s.share.allowance ≤ s.straps.aIso) ∧ (s.member.st ≠ .member → s.share.allowance ≤ s.straps.aIso)

/-! ## Mains -/

/-- The Feeder Supervisor: a window length and a nominal peak are held together, and in MAINS_RUNNING and LOST; MAINS_LOST is
held throughout LOST and never in MAINS_RUNNING; the resume timer runs in LOST alone; and the supervisor has not started while
the strap window is open (R139 to R143). -/
def MainsFormed (s : State) : Prop :=
  (s.feeder.nominal.isSome ↔ s.feeder.window.isSome) ∧
    (s.feeder.st = .running ∨ s.feeder.st = .lost → s.feeder.window.isSome) ∧
    (s.feeder.st = .lost → s.faults.holds .mainsLost = true) ∧ (s.feeder.st = .running → s.faults.holds .mainsLost = false) ∧
    (s.feeder.resume.isSome → s.feeder.st = .lost) ∧ (s.straps.window.isSome → s.feeder.st = .notStarted)

/-- The strap pins are inputs while the strap window is open and outputs afterwards, with the straps latched (R172). -/
def StrapsFormed (s : State) : Prop :=
  s.straps.pins = (if s.straps.window.isSome then .input else .output) ∧ s.straps.latched = s.straps.window.isNone

/-! ## Faults -/

/-- The order of the Fault Unit's list (R165): nothing waits behind no fault; each kind is held once; the waiting kinds fall from
higher class to lower, none above the active one. -/
def FaultsOrdered (f : FaultUnit) : Prop :=
  f.waiting.Nodup ∧ f.waiting.Pairwise (fun j k => j.rank ≤ k.rank) ∧
    match f.active with
    | none => f.waiting = []
    | some x => x ∉ f.waiting ∧ ∀ k ∈ f.waiting, x.rank ≤ k.rank

/-! ## Ranges -/

/-- A notice whose fields lie within what a station sends (R127). -/
def NoticeInRange : Notice → Prop
  | .demand a => a.cls ≤ 3 ∧ a.boost ≤ 7 ∧ a.want ≤ 48 ∧ a.claim ≤ 48 ∧ a.draw ≤ 48
  | .joinConfirm _ held => held ≤ 48
  | .leave => True
  | .joinAsk _ => True
  | .presence => True

/-- The Cycle Controller's counts, those of a paused phase among them, with the class and boost it hands on, within section 2.1 (R22,
R37). -/
def CycleInRange (s : State) : Prop :=
  s.cycle.index ≤ 3 ∧ s.cycle.remaining ≤ 5400 ∧ s.cycle.starvedSecs ≤ 59 ∧ s.cycle.boost ≤ 7 ∧
    (∀ x, s.cycle.context = some x →
      x.index ≤ 3 ∧ x.remaining ≤ 5400 ∧ x.boost ≤ 7 ∧ ∀ p, x.peak = some p → p ≤ 200) ∧
    s.request.cls ≤ 3 ∧ s.request.boost ≤ 7

/-- The Climate Measurement Unit's readings and counts within section 3.1: temperatures of −10.0 to 110.0 °C, at most 61 samples of
0.0 to 100.0 %, a drop of 8 to 15 % (R45 to R47, R51, R54). -/
def ClimateInRange (c : Climate) : Prop :=
  (∀ p ∈ [c.p0, c.p1, c.p2], ∀ r, p.reading = some r → -20 ≤ r ∧ r ≤ 220) ∧ c.invalid ≤ 3 ∧
    (-20 ≤ c.tr ∧ c.tr ≤ 220) ∧ (-20 ≤ c.tmax ∧ c.tmax ≤ 220) ∧ c.ring.length ≤ 61 ∧ (∀ v ∈ c.ring, v ≤ 200) ∧
    (∀ d, c.drop = some d → 16 ≤ d ∧ d ≤ 30) ∧ c.peak ≤ 200

/-- Grant, allowance, raise target, shed hold and isolation limit within section 5.1 (R88, R90, R94, R96, R98). -/
def ShareInRange (l : LoadShare) : Prop :=
  l.grant ≤ 48 ∧ l.allowance ≤ 48 ∧ (∀ r, l.raiseReady = some r → r.target ≤ 48) ∧ l.hold ≤ 3 ∧
    ∀ v, l.limit = some v → v ≤ 48

/-- The Membership Controller's counts within section 6.2, with the notice in its slot and the one being sent within R127; in the two
states that count periods the second ends the state, so that no more than one stands counted (R108 to R112). -/
def MemberInRange (s : State) : Prop :=
  s.member.periodCount ≤ 2 ∧
    (s.member.st = .joinListen ∨ s.member.st = .joinHold → s.member.periodCount ≤ 1) ∧ s.member.presence ≤ 7 ∧
    s.member.refWant ≤ 48 ∧ s.member.lastClaim ≤ 48 ∧ (∀ n, s.member.slot = some n → NoticeInRange n) ∧
    ∀ x, s.framer.sending = some x → NoticeInRange x.notice

/-- The Feeder Supervisor's figures and learning record within section 8.1: as many peaks as intervals, and fewer than sixteen before
an attempt is judged (R138, R140, R144). -/
def FeederInRange (f : Feeder) : Prop :=
  (∀ w, f.window = some w → w = 100 ∨ w = 120) ∧ (∀ n, f.nominal = some n → 100 ≤ n ∧ n ≤ 1023) ∧
    f.intervals.length ≤ 16 ∧ f.peaks.length = f.intervals.length ∧
    (f.st = .notStarted ∨ f.st = .learning → f.intervals.length < 16) ∧ (∀ p ∈ f.peaks, p ≤ 1023) ∧ f.peak ≤ 1023 ∧
    f.sagRun ≤ 3

/-- A history record holds a class A fault's code and a phase index of the ROM (R169). -/
def RecordInRange (r : FaultRecord) : Prop := 1 ≤ r.code ∧ r.code ≤ 4 ∧ r.index ≤ 3

/-- The Fault Unit's lists and its output within section 10.2, the records of a history display among them (R164, R165, R169, R170). -/
def FaultsInRange (s : State) : Prop :=
  s.faults.waiting.length ≤ 10 ∧ s.faults.history.length ≤ 4 ∧ (∀ r ∈ s.faults.history, RecordInRange r) ∧
    (∀ d, s.panel.display = some d → RecordInRange d.shown ∧ ∀ r ∈ d.rest, RecordInRange r) ∧ s.faults.code ≤ 15

/-- Every counter and store that the state tables of sections 2.1, 3.1, 5.1, 6.2, 7.2, 8.1 and 10.2 give a range lies within it; of
section 7.2 that is the consecutive-failure count (R134). -/
def CountsInRange (s : State) : Prop :=
  CycleInRange s ∧ ClimateInRange s.climate ∧ ShareInRange s.share ∧ MemberInRange s ∧ s.framer.failures ≤ 8 ∧
    FeederInRange s.feeder ∧ FaultsInRange s

/-! ## Frames: what a command leaves as it was -/

/-- The latched straps, the levels of the lines, and the model's own inputs and queue are unchanged. -/
def KeepsInputs (s t : State) : Prop :=
  t.straps = s.straps ∧ t.lines = s.lines ∧ t.inReset = s.inReset ∧ t.nonceReads = s.nonceReads ∧ t.line = s.line ∧
    t.pending = s.pending

/-- The phase in hand is unchanged: the whole Cycle Controller but for its starvation flag and seconds, which follow the levels
(R21, R22). -/
def KeepsPhase (s t : State) : Prop :=
  t.cycle = { s.cycle with starved := t.cycle.starved, starvedSecs := t.cycle.starvedSecs }

/-- Probes, temperatures, over-temperature latch, humidity ring and both sampling timers are unchanged. -/
def KeepsReadings (s t : State) : Prop :=
  t.climate.p0 = s.climate.p0 ∧ t.climate.p1 = s.climate.p1 ∧ t.climate.p2 = s.climate.p2 ∧
    t.climate.invalid = s.climate.invalid ∧ t.climate.tr = s.climate.tr ∧ t.climate.tmax = s.climate.tmax ∧
    t.climate.overTemp = s.climate.overTemp ∧ t.climate.ring = s.climate.ring ∧
    t.climate.humidityValid = s.climate.humidityValid ∧ t.climate.roundTimer = s.climate.roundTimer ∧
    t.climate.sampleTimer = s.climate.sampleTimer

/-- The station's standing is unchanged: membership state, nonces, period count, last completed claim, return mark and isolation
items. -/
def KeepsStanding (s t : State) : Prop :=
  t.member =
    { s.member with
      slot := t.member.slot, inFlight := t.member.inFlight, heldOver := t.member.heldOver, presence := t.member.presence,
      refWant := t.member.refWant }

/-- The notice slot and the whole framer are unchanged. -/
def KeepsNotice (s t : State) : Prop :=
  t.member.slot = s.member.slot ∧ t.member.inFlight = s.member.inFlight ∧ t.member.heldOver = s.member.heldOver ∧
    t.member.presence = s.member.presence ∧ t.member.refWant = s.member.refWant ∧ t.framer = s.framer ∧
    t.share.raiseReady = s.share.raiseReady

/-- Share period, shed hold, origination arm and isolation limit are unchanged. -/
def KeepsShedding (s t : State) : Prop :=
  t.share.period = s.share.period ∧ t.share.hold = s.share.hold ∧ t.share.arm = s.share.arm ∧
    t.share.limit = s.share.limit ∧ t.share.limitTimer = s.share.limitTimer

/-- The gates of heater and steam generator and the window position are unchanged. -/
def KeepsGates (s t : State) : Prop :=
  t.loads.heaterGate = s.loads.heaterGate ∧ t.loads.steamGate = s.loads.steamGate ∧ t.loads.position = s.loads.position

/-- What no event of the cabinet touches: inputs, Peer Table, Feeder Supervisor, standing, shedding, gates, the failure count and
the frame in reception. -/
def CabinetFrame (s t : State) : Prop :=
  KeepsInputs s t ∧ t.table = s.table ∧ t.feeder = s.feeder ∧ KeepsStanding s t ∧ KeepsShedding s t ∧ KeepsGates s t ∧
    t.framer.failures = s.framer.failures ∧ t.framer.reception = s.framer.reception ∧
    t.framer.marking = s.framer.marking

/-- What no event of the Share Line touches while it raises no class A or B fault: inputs, readings, the phase in hand, the dry
watch, the Feeder Supervisor, gates, and the panel's keys, buzzer and display. -/
def LineFrame (s t : State) : Prop :=
  KeepsInputs s t ∧ t.climate = s.climate ∧ KeepsPhase s t ∧ t.feeder = s.feeder ∧ KeepsGates s t ∧
    t.request = s.request ∧ t.panel.start = s.panel.start ∧ t.panel.cancel = s.panel.cancel ∧
    t.panel.power = s.panel.power ∧ t.panel.longPress = s.panel.longPress ∧ t.panel.buzzer = s.panel.buzzer

/-- The command is one of the three that the RESET input and the supply give. -/
def isReset : Instr → Bool
  | .powerOnReset _ _ _ _ => true
  | .resetPinAssert => true
  | .resetPinRelease _ _ _ _ => true
  | _ => false

/-- The kind of the notice that a command delivers from this address, none for any other command (R128). -/
def noticeFrom (addr : Nat) : Instr → Option NoticeKind
  | .receiveDemand a _ _ _ _ _ => if a.val = addr then some .demand else none
  | .receivePresence a => if a.val = addr then some .presence else none
  | .receiveJoinAsk a _ => if a.val = addr then some .joinAsk else none
  | .receiveJoinConfirm a _ _ => if a.val = addr then some .joinConfirm else none
  | .receiveLeave a => if a.val = addr then some .leave else none
  | _ => none

/-- The DEMAND that a load or refresh forms from the figures of this state (R105). -/
def newestDemand (s : State) : Notice :=
  .demand
    { cls := s.request.cls, boost := s.request.boost, want := s.request.want, claim := s.share.grant, draw := s.loads.draw }

/-- A held-over load has been applied to the slot at the end of an attempt: the kind of higher rank stands there with the newest
figures, nothing is held over or in flight, and the load has cancelled the raise-ready timer (R104, R105, R107). -/
def HeldLoaded (s t : State) : Prop :=
  t.member.heldOver = none ∧ t.member.inFlight = false ∧ t.share.raiseReady = none ∧
    (s.member.heldOver = some .leave → t.member.slot = some .leave) ∧
    (s.member.heldOver = some .demand →
      t.member.slot = some (newestDemand t) ∧ t.member.refWant = s.request.want ∧ t.member.presence = 7) ∧
    (s.member.heldOver = some .presence →
      t.member.slot = some (match s.member.slot with | some (.demand _) => newestDemand t | _ => .presence))

/-- What the end of a received frame does to the own notice: the framer comes to its rest state with no failure counted, a notice in
the slot is refreshed, a load held over behind a lost attempt is applied, and an empty slot cancels nothing (R93, R104 to R107,
R123, R134). -/
def FrameEnded (s t : State) : Prop :=
  t.framer.st = (if t.member.slot.isSome then .waiting else .listen) ∧ t.framer.reception = none ∧
    t.framer.sending = none ∧ t.framer.failures = s.framer.failures ∧
    (s.member.slot = none → s.member.heldOver = none →
      t.member.slot = none ∧ t.share.raiseReady = s.share.raiseReady) ∧
    (∀ n, s.member.slot = some n → s.member.heldOver = none →
      t.member.slot = some (formNotice n.kind t) ∧ t.member.inFlight = false ∧ t.share.raiseReady = none) ∧
    (∀ a, s.member.slot = some (.demand a) → s.member.heldOver = none →
      t.member.slot = some (newestDemand t) ∧ t.member.refWant = s.request.want) ∧
    (s.member.heldOver.isSome = true → SlotFits s → HeldLoaded s t)

/-- The station has entered STANDBY and, with the return mark set, gone on to JOIN_LISTEN (R62, R80, R99, R111, R118). -/
def LeftFor (s t : State) : Prop :=
  t.member.st = (if s.member.returnMark then .joinListen else .standby) ∧ t.member.returnMark = false ∧
    t.member.slot = none ∧ t.member.heldOver = none ∧ t.member.inFlight = false ∧ t.member.joinNonce = none ∧
    t.member.periodCount = 0 ∧ t.table = emptyTable ∧
    t.share.period = (if s.member.returnMark then some s.straps.periodMs else none) ∧ t.share.hold = 0 ∧
    t.share.arm = true ∧ t.share.allowance = 0 ∧ t.framer.st = (if s.member.returnMark then .listen else .silent) ∧
    t.framer.idleHold = (if s.member.returnMark then some 12 else none) ∧ t.framer.sending = none ∧
    t.framer.drive = none

/-- The Cycle Controller in a state in which no phase runs, all its timers and counts put away (R28, R34, R39, R40, R43). -/
def Cycle.putAway (c : Cycle) (st : CycleState) : Cycle :=
  { c with
    st, second := none, starved := false, starvedSecs := 0, boost := 0, latch := false, context := none, pause := none,
    cancelCool := none }

/-- The dry watch at OFF with nothing left of a phase (R53, R57). -/
def WatchIsOff (c : Climate) : Prop :=
  c.watch = .off ∧ c.peak = 0 ∧ c.warmUp = none ∧ c.tracking = none ∧ c.dryPoint = false

/-- The first readings after a reset have been taken: Tr and Tmax are theirs, or the reset's 110.0 °C with none within range, the
over-temperature latch is Tmax's and the trip line's, and of all faults only those that these readings and that line give are
held (R44 to R52, R164). -/
def FirstReadings (p0 p1 p2 rh : Int) (trip : Bool) (t : State) : Prop :=
  let valid := [p0, p1, p2].filter fun r : Int => decide (-20 ≤ r) && decide (r ≤ 220)
  t.climate.invalid = 3 - valid.length ∧
    (valid = [] → t.climate.tr = 220 ∧ t.climate.tmax = 220) ∧
    (valid ≠ [] →
      t.climate.tr = valid.sum / (valid.length : Int) ∧ t.climate.tmax ∈ valid ∧ ∀ r ∈ valid, r ≤ t.climate.tmax) ∧
    t.climate.overTemp = (decide (140 ≤ t.climate.tmax) || trip) ∧
    t.climate.humidityValid = decide (0 ≤ rh ∧ rh ≤ 200) ∧
    t.climate.ring = (if 0 ≤ rh ∧ rh ≤ 200 then [rh.toNat] else []) ∧ FaultsOrdered t.faults ∧
    ∀ k,
      t.faults.holds k =
        match k with
        | .probeDegraded => decide (1 ≤ t.climate.invalid)
        | .probeFault => decide (2 ≤ t.climate.invalid)
        | .overTemp => t.climate.overTemp
        | .humidityFault => !t.climate.humidityValid
        | .mainsLost | .addressConflict | .waterEmpty | .fanStall | .lockFault | .lineIsolated | .bankOverflow => false

/-- A cycle held in DRY with its dry point found is RUNNING again and has gone straight on to `r`, the record after it, with its want
at 0 and the dry watch off (R19, R27, R33). -/
def DryHoldEnds (r : Record) (s t : State) : Prop :=
  t.cycle.st = .running ∧ t.cycle.programme = s.cycle.programme ∧ t.cycle.index = s.cycle.index + 1 ∧
    t.cycle.record = some r ∧ t.cycle.remaining = 60 * r.minutes ∧ t.cycle.second = some 1000 ∧ t.cycle.boost = 0 ∧
    t.request.want = 0 ∧ t.request.cls = 0 ∧ t.request.fan = r.fan ∧ WatchIsOff t.climate ∧
    t.faults.active = s.faults.waiting.head?

/-- BANK_OVERFLOW is held exactly while the known count is above N − 1 (R74). -/
def OverflowFollows (s : State) : Prop := s.faults.holds .bankOverflow = decide (s.straps.bankSize - 1 < knownCount s.table)

/-! ## Frames on the line -/

/-- The command by which a receiver takes this notice from this address (R128). -/
def noticeCommand (addr : Fin 16) : Notice → Instr
  | .leave => .receiveLeave addr
  | .demand a =>
    .receiveDemand addr (Fin.ofNat 4 a.cls) (Fin.ofNat 8 a.boost) (Fin.ofNat 64 a.want) (Fin.ofNat 64 a.claim)
      (Fin.ofNat 64 a.draw)
  | .joinAsk nonce => .receiveJoinAsk addr nonce
  | .joinConfirm nonce held => .receiveJoinConfirm addr nonce (Fin.ofNat 64 held)
  | .presence => .receivePresence addr

/-! ## What the line shows and what the framer reports -/

/-- A reading of the line: the framer it leaves, the commands it reports, and whether the pulse is read again after them. -/
abbrev Reading := Framer → List Instr → Bool → Prop

/-- An idle step that takes `o` reads so: of the state only the framer, the line and the queue may change. `shown` is the pulse or
silence that the line shows, `rest` what is left of the other stations' observations. -/
def IdleReads (o : LineObs) (s : State) (shown : LineObs) (rest : List LineObs) : Reading := fun f cmds back =>
  step { s with pending := [], line := o :: s.line } =
    .next { s with framer := f, pending := cmds, line := if back then shown :: rest else rest }

/-- A pulse of no glitch's length in LISTEN or WAITING: a start pulse opens a frame, a mark and a stuck line are reported, and any
other is a discarded frame (R124, R125, R135, R136). -/
def PulseOutside (own : Bool) (length : Nat) (f : Framer) (read : Reading) : Prop :=
  (1500 ≤ length ∧ length < 2500 →
      read (touchLine { f with st := .receiving, reception := some ⟨[], none⟩ }) [] false) ∧
    (length < 1500 ∨ (2500 ≤ length ∧ length < 8000) → read (touchLine f) [.frameDiscarded] false) ∧
    (8000 ≤ length ∧ length < 20000 → read f [.shedMarkSeen own false] false) ∧
    (20000 ≤ length → read f [.lineStuck] false)

/-- A pulse of no glitch's length while `r` is in reception. At or after its stop gap a complete frame is delivered, or discarded by
its check; after the next bit's window an incomplete one is discarded; both before the pulse is read again. Within the frame a
bit in its window is taken, the third giving the length, and all else ends the frame (R125, R126, R127, R135 to R137; the pulse
read again, and the early one that is not, by log entries 24 and 22). -/
def PulseInFrame (own : Bool) (since length : Nat) (r : Reception) (f : Framer) (read : Reading) : Prop :=
  let n := r.bits.length
  let opens := if n = 0 then 2800 else 800
  let closes := if n = 0 then 3400 else 1400
  let bits := r.bits ++ [decide (length < 400)]
  (r.expected = some n → 3500 ≤ since → read f [(decodeFrame r.bits).getD .frameDiscarded] true) ∧
    (r.expected ≠ some n → closes < since → read f [.frameDiscarded] true) ∧
    ((if r.expected = some n then since < 3500 else since ≤ closes) →
      (20000 ≤ length → read f [.lineStuck] false) ∧
        (8000 ≤ length ∧ length < 20000 → read f [.shedMarkSeen own true] false) ∧
        (1500 ≤ length ∧ length < 2500 → read f [.frameDiscarded] true) ∧
        ((900 ≤ length ∧ length < 1500) ∨ (2500 ≤ length ∧ length < 8000) → read (touchLine f) [.frameDiscarded] false) ∧
        (length < 900 → r.expected = some n ∨ since < opens → read (touchLine f) [.frameDiscarded] false) ∧
        (length < 900 → r.expected ≠ some n → opens ≤ since →
          read
            (touchLine
              { f with
                reception :=
                  some
                    { bits
                      expected :=
                        if n = 2 then
                          match valueOf bits with
                          | 1 => some 15 | 2 => some 38 | 3 => some 23 | 4 => some 29 | 5 => some 15 | _ => none
                        else r.expected } })
            [] false))

/-- A pulse of no glitch's length while `x` is being sent. At or after the stop gap the frame is complete, and the pulse is read again.
Before it a pulse as driven brings the next one; a long pulse over a 1 bit loses the arbitration; an edge earlier than 800 µs, one
in the stop gap and a pulse held beyond the own one fail the attempt; a mark and a stuck line are reported as such
(R130 to R133, R135 to R137). -/
def PulseInSending (own : Bool) (since length : Nat) (x : Sending) (f : Framer) (read : Reading) : Prop :=
  let next :=
    touchLine { f with sending := some { x with index := x.index + 1 }, drive := (x.bits[x.index]?).map Drive.bit }
  (x.bits.length < x.index → 3500 ≤ since → read f [.noticeCompletion] true) ∧
    (x.index ≤ x.bits.length ∨ since < 3500 →
      (20000 ≤ length → read f [.lineStuck] false) ∧
        (8000 ≤ length ∧ length < 20000 → read f [.shedMarkSeen own false] false) ∧
        (length < 8000 →
          (x.index = 0 →
              if 1500 ≤ length ∧ length < 2500 then read next [] false else read (touchLine f) [.attemptFailed] false) ∧
            (0 < x.index → since < 800 ∨ x.bits.length < x.index → read (touchLine f) [.attemptFailed] false) ∧
            ∀ k, x.index = k + 1 → 800 ≤ since →
              (x.bits[k]? = some true →
                  if length < 400 then read next [] false
                  else if length < 900 then read (touchLine f) [.arbitrationLost k] false
                  else
                    read (touchLine f) [.arbitrationLost k, .frameDiscarded] (decide (1500 ≤ length ∧ length < 2500))) ∧
                (x.bits[k]? = some false →
                  if 400 ≤ length ∧ length < 900 then read next [] false
                  else read (touchLine f) [.attemptFailed] false)))

/-- Any pulse that the line shows: it releases a stuck line and is read again, and a glitch is nothing to any framer that reads
(R124, R135); else by the framer's state. -/
def PulseReads (own : Bool) (since length : Nat) (f : Framer) (read : Reading) : Prop :=
  (f.st = .stuck → read f [.lineStuckRelease] true) ∧
    (f.st ≠ .stuck → length < 80 → read f [] false) ∧
    (f.st = .listen ∨ f.st = .waiting → 80 ≤ length → PulseOutside own length f read) ∧
    (∀ r, f.st = .receiving → f.reception = some r → 80 ≤ length → PulseInFrame own since length r f read) ∧
    ∀ x, f.st = .sending → f.sending = some x → 80 ≤ length → PulseInSending own since length x f read

/-- A recessive line, `since` µs after the last leading edge: it delivers or discards a complete frame at 3500, discards a short one at
2500, or at 4500 after the start pulse alone (log entry 7), completes an own frame at 3500, and releases a stuck line
(R126, R127, R133, R135). -/
def SilenceReads (since : Nat) (f : Framer) (read : Reading) : Prop :=
  (f.st = .listen ∨ f.st = .waiting → read f [] false) ∧
    (f.st = .stuck → read f [.lineStuckRelease] false) ∧
    (∀ r, f.st = .receiving → f.reception = some r →
      read f
        (if r.expected = some r.bits.length then
          if 3500 ≤ since then [(decodeFrame r.bits).getD .frameDiscarded] else []
        else if (if r.bits.length = 0 then 4500 else 2500) ≤ since then [.frameDiscarded]
        else [])
        false) ∧
    ∀ x, f.st = .sending → f.sending = some x →
      read f (if x.bits.length < x.index ∧ 3500 ≤ since then [.noticeCompletion] else []) false

/-- The line is the wired-OR of all drivers: with the own driver released it shows what the other stations give, two of their pulses
that overlap as one; with no other station driving it shows the own pulse at its time, and with one driving too the longer of the
two, from an edge that comes before the own bit is due at once, and without the own bit where that edge is earlier than 800 µs
(R121, R130, R132). -/
def LineIsWiredOr (f : Framer) : Prop :=
  let due : Drive → Nat
    | .bit _ => if (f.sending.map Sending.index).getD 0 ≤ 1 then 3000 else 1000
    | .start => 0
    | .mark _ => 0
  let length : Drive → Nat
    | .start => 2000
    | .bit true => 200
    | .bit false => 600
    | .mark begun => begun + 10000
  (f.drive = none →
      (∀ o, wired f o [] = ⟨some o, false, []⟩) ∧
        ∀ since l a b rest,
          80 ≤ l →
            (l < a →
                wired f (.pulse since l) (.pulse a b :: rest) = ⟨some (.pulse since l), false, .pulse a b :: rest⟩) ∧
              (a ≤ l → wired f (.pulse since l) [.pulse a b] = ⟨some (.pulse since (max l (a + b))), false, []⟩)) ∧
    ∀ d, f.drive = some d →
      (∀ since, due d + length d ≤ since →
          wired f (.quiet since) [] = ⟨some (.pulse (due d) (length d)), true, [.quiet (since - due d)]⟩) ∧
        (∀ since, since < due d + length d → wired f (.quiet since) [] = ⟨none, false, []⟩) ∧
        (∀ l, wired f (.pulse (due d) l) [] = ⟨some (.pulse (due d) (max (length d) l)), true, []⟩) ∧
        ∀ since l, d.isMark = false → 80 ≤ l → since < due d →
          wired f (.pulse since l) [] =
            if 800 ≤ since then ⟨some (.pulse since (max (length d) l)), true, []⟩
            else ⟨some (.pulse since l), false, []⟩

end Sys2Proof.Machine
end

