-- ==== Sys2Proof/Certificates/Slice0/Obligations.lean ====
section
/-! DEFINITION. Obligations: the statements for the provers. Every command completes in this model, so each effect is stated as the
next state of `exec`, with what the command leaves as it was (the frames of Safety.lean). -/

open Sys2Proof Sys2Proof.Machine

/-! ## The queue and the resets -/

/-- The command at the front of the queue acts on the state with the queue's rest. -/
def Obligations.StepTakesFrontCommand : Prop :=
  ∀ (c : Instr) (rest : List Instr) (s : State),
    s.pending = c :: rest → step s = exec c { s with pending := rest }

/-- On an empty queue the part idles, or reads the next observation of the Share Line where one stands (the model's choice, log
entry 6): the line shows the wired-OR of all drivers, and each pulse and silence on it is classified by its length and its moment
and reported as the framer's state has it; a SILENT framer, and a part in reset, read nothing. No step stops, since every event has
its effect or none (R121, R124 to R127, R130 to R133, R135 to R137). That a part in reset reads nothing is log entry 4's reading.
The moments below a pulse are those of log entry 11; whose mark it is, when a lone start pulse is given up, and whether an early or
late pulse is read again are those of entries 12, 7, 22 and 24. -/
def Obligations.IdleStepAndNoStop : Prop :=
  ∀ (o : LineObs) (s : State),
    (s.pending = [] → s.line = [] → step s = .next s) ∧
      (∃ t, step s = .next t) ∧
      step { s with pending := [], line := o :: s.line } = .next (observe o { s with pending := [] }) ∧
      (s.inReset = true ∨ s.framer.st = .silent →
        step { s with pending := [], line := o :: s.line } = .next { s with pending := [] }) ∧
      LineIsWiredOr s.framer ∧
      ∀ (own : Bool) (since length : Nat) (rest : List LineObs),
        Live s → s.framer.st ≠ .silent →
          (wired s.framer o s.line = ⟨none, own, rest⟩ → IdleReads o s o rest s.framer [] false) ∧
            (wired s.framer o s.line = ⟨some (.quiet since), own, rest⟩ →
              SilenceReads since s.framer (IdleReads o s (.quiet since) rest)) ∧
            (wired s.framer o s.line = ⟨some (.pulse since length), own, rest⟩ →
              PulseReads own since length s.framer (IdleReads o s (.pulse since length) rest))

/-- What a power-on reset leaves at its release, before the first readings: every item of the tables of R16, R50, R60, R62, R79, R103,
R122, R139, R149 and R164, and of the panel (R173, R174); every invariant of Safety.lean holds there. That mains learning has a
value of its own before the strap window ends, and that the tables are those before the first readings, is the model's choice (log
entry 3); so are the levels of the lines, on which the forced-off flags, the running lock-confirm timer and the released keys rest
(log entry 2), and the zero straps of an open strap window, which no clause names (log entry 3). -/
def Obligations.ResetStateIsTabled : Prop :=
  State.reset.cycle =
      { st := .idle, programme := 0, index := 0, record := none, remaining := 0, second := none, starved := false,
        starvedSecs := 0, boost := 0, latch := false, context := none, pause := none, cancelCool := none } ∧
    State.reset.climate =
      { p0 := ⟨none, true⟩, p1 := ⟨none, true⟩, p2 := ⟨none, true⟩, invalid := 0, tr := 220, tmax := 220, roundTimer := some 250,
        overTemp := false, ring := [], humidityValid := true, sampleTimer := some 1000, watch := .off, drop := none, peak := 0,
        warmUp := none, tracking := none, dryPoint := false } ∧
    State.reset.table = List.replicate 16 Entry.empty ∧
    State.reset.share =
      { period := none, grant := 0, allowance := 0, raiseReady := none, hold := 0, arm := true, limit := some 0,
        limitTimer := some 45000 } ∧
    State.reset.member =
      { st := .standby, slot := none, inFlight := false, heldOver := none, periodCount := 0, nonceCounter := 0,
        joinNonce := none, presence := 7, refWant := 0, lastClaim := 0, returnMark := false, dwell := none,
        lineFree := false } ∧
    State.reset.framer =
      { st := .silent, idleHold := none, holdDone := false, lineFreed := none, failures := 0, reception := none, sending := none,
        lost := false, drive := none } ∧
    State.reset.feeder =
      { st := .notStarted, window := none, nominal := none, intervals := [], peaks := [], peak := 0, crossed := false,
        halfOpen := false, sagRun := 0, watchdog := none, resume := none } ∧
    State.reset.loads =
      { steamAssigned := 0, heaterAssigned := 0, heaterOff := true, steamOff := true, valveOff := true, fanOff := false,
        steamLevel := 0, heaterLevel := 0, draw := 0, position := 0, heaterCount := 0, steamCount := 0, heaterGate := false,
        steamGate := false, fan := 0, fanFirst := false, fanSecond := false, tachConfirmed := false, tachWatchdog := none,
        lock := true, lockConfirm := some 2000, valve := false } ∧
    State.reset.panel =
      { start := ⟨false, false, none⟩, cancel := ⟨false, false, none⟩, power := ⟨false, false, none⟩, longPress := none,
        phaseLamp := .dark, flash := none, doneLamp := false, waitLamp := false, buzzer := none, display := none } ∧
    State.reset.faults = { active := none, waiting := [], history := [], code := 0 } ∧ Settled State.reset ∧
    OutputsByRule State.reset ∧ RequestFresh State.reset ∧ RequestTabled State.reset ∧ CodeShown State.reset ∧
    RecordFromRom State.reset ∧ RequestInRange State.reset.request ∧
    CycleFormed State.reset ∧ WatchFormed State.reset ∧ LoadsSafe State.reset ∧ FanWatched State.reset ∧
    FanDriven State.reset.loads ∧ DriverFits State.reset ∧ SendingFits State.reset ∧
    LockWatched State.reset ∧ AllowanceInGrant State.reset ∧
    PowerlessOutside State.reset ∧ TableFormed State.reset ∧
    SilentInStandby State.reset ∧ SlotFits State.reset ∧ ClaimCovers State.reset ∧ BootQuiet State.reset ∧
    IsoCapped State.reset ∧ MainsFormed State.reset ∧ StrapsFormed State.reset ∧ strapOutputs State.reset = none ∧
    FaultsOrdered State.reset.faults ∧ CountsInRange State.reset

/-- POWER_ON_RESET from any state: cycle, Peer Table, sharing, membership, framer and Feeder Supervisor start afresh, the lock request
follows the Tmax of the first round, the outputs are off, and any history record is one of the first readings' own; temperatures,
ring, over-temperature latch and held faults are those that the first readings and the trip line give, and no other fault is held
(R16, R44, R50, R51, R62, R79, R103, R122, R139, R164, R173). That the straps and their constants are 0 and the Feeder Supervisor
not started until the strap window ends is the model's choice (log entry 3). -/
def Obligations.PowerOnStartsAfresh : Prop :=
  ∀ (p0 p1 p2 rh : Int) (s : State),
    ∃ t, exec (.powerOnReset p0 p1 p2 rh) s = .next t ∧
      t.cycle = Cycle.reset ∧ t.table = emptyTable ∧ t.share = LoadShare.reset ∧ t.member = Membership.reset ∧
      t.framer = Framer.reset ∧ t.feeder = Feeder.reset ∧ t.straps = Straps.reset ∧ t.request.want = 0 ∧
      t.request.cls = 0 ∧ t.request.boost = 0 ∧ t.request.fan = 0 ∧ t.request.valve = false ∧
      t.request.lock = decide (100 ≤ t.climate.tmax) ∧ t.loads.lock = t.request.lock ∧ t.loads.fan = 0 ∧
      t.loads.draw = 0 ∧ t.loads.valve = false ∧ t.loads.heaterGate = false ∧ t.loads.steamGate = false ∧
      WatchIsOff t.climate ∧ (∀ r ∈ t.faults.history, r.programme = 0 ∧ r.index = 0) ∧ t.panel.display = none ∧
      t.panel.longPress = none ∧ t.panel.phaseLamp = .dark ∧ t.inReset = false ∧ FirstReadings p0 p1 p2 rh s.lines.trip t ∧
      CodeShown t ∧ t.lines = s.lines ∧ t.line = s.line ∧ t.pending = s.pending ∧ t.nonceReads = s.nonceReads

/-- RESET_PIN_RELEASE once mains learning has completed: straps, W, nominal peak and history are kept, cycle, table, sharing and
framer start afresh and the station joins at once; the only faults held are those the first readings and the trip line give; before
that it is a power-on reset (R16, R44, R50, R51, R80, R111, R139, R164, R173). -/
def Obligations.ResetPinKeepsLearned : Prop :=
  ∀ (p0 p1 p2 rh : Int) (s : State),
    (s.feeder.window = none → exec (.resetPinRelease p0 p1 p2 rh) s = exec (.powerOnReset p0 p1 p2 rh) s) ∧
      (s.feeder.window.isSome = true → s.faults.history.length ≤ 4 →
        ∃ t, exec (.resetPinRelease p0 p1 p2 rh) s = .next t ∧
          t.cycle = Cycle.reset ∧ t.straps = s.straps ∧
          t.feeder =
            { Feeder.reset with
              st := .running, window := s.feeder.window, nominal := s.feeder.nominal, watchdog := some 40 } ∧
          t.member = { Membership.reset with st := .joinListen } ∧ t.table = emptyTable ∧
          t.share = { LoadShare.reset with period := some s.straps.periodMs } ∧
          t.framer = { Framer.reset with st := .listen, idleHold := some 12, lineFreed := some 100 } ∧
          (∃ k, k ≤ 1 ∧ t.faults.history = (t.faults.history.take k ++ s.faults.history).take 4) ∧
          t.request.want = 0 ∧ t.request.fan = 0 ∧ t.loads.draw = 0 ∧ t.loads.fan = 0 ∧ WatchIsOff t.climate ∧
          FirstReadings p0 p1 p2 rh s.lines.trip t ∧ CodeShown t ∧ t.inReset = false ∧ t.lines = s.lines ∧
          t.line = s.line ∧ t.pending = s.pending ∧ t.nonceReads = s.nonceReads)

/-- RESET_PIN_ASSERT releases every output and leaves the rest for the release; until a reset ends it, no other command does more
than move a line's level (R122, R149, R171, R173). The second clause is the model's reading (log entry 4), and the framer's state
and the draw between assertion and release are its choice (log entry 23). -/
def Obligations.ResetAssertReleasesOutputs : Prop :=
  ∀ (c : Instr) (s : State),
    (∃ t, exec .resetPinAssert s = .next t ∧
        t.inReset = true ∧ t.loads.heaterGate = false ∧ t.loads.steamGate = false ∧ t.loads.valve = false ∧
        t.loads.lock = false ∧ t.loads.fan = 0 ∧ t.loads.draw = 0 ∧ t.framer.st = .silent ∧ t.framer.sending = none ∧
        t.framer.drive = none ∧ t.loads.fanFirst = false ∧ t.loads.fanSecond = false ∧
        t.panel.phaseLamp = .dark ∧ t.panel.doneLamp = false ∧ t.panel.waitLamp = false ∧
        t.panel.buzzer = none ∧ t.panel.display = none ∧ t.faults.code = s.faults.activeCode ∧
        t.faults.history = s.faults.history ∧ t.cycle = s.cycle ∧ t.request = s.request ∧ t.climate = s.climate ∧
        t.table = s.table ∧ t.share = s.share ∧ t.member = s.member ∧ t.feeder = s.feeder ∧ t.straps = s.straps ∧
        t.lines = s.lines ∧ t.nonceReads = s.nonceReads ∧ t.line = s.line ∧ t.pending = s.pending) ∧
      (s.inReset = true → isReset c = false →
        ∃ t, exec c s = .next t ∧
          t =
            { s with
              lines := t.lines
              panel := { s.panel with start := t.panel.start, cancel := t.panel.cancel, power := t.panel.power } } ∧
          t.panel.start = { s.panel.start with raw := t.panel.start.raw } ∧
          t.panel.cancel = { s.panel.cancel with raw := t.panel.cancel.raw } ∧
          t.panel.power = { s.panel.power with raw := t.panel.power.raw })

/-- STRAP_WINDOW_END latches the straps, forms the constants, turns the strap pins from inputs to outputs and begins learning. The pins
then carry the fault code, its least significant bit on ADDR bit 0, and the seven lamps in their order, dark in IDLE; after the window
it does nothing (R139, R164, R172, R175; the last by log entry 1). -/
def Obligations.StrapWindowLatches : Prop :=
  ∀ (addr : Fin 16) (cap : Fin 8) (bank : Fin 16) (s : State),
    Live s →
      (s.straps.window.isSome = true →
          (StrapsFormed s → strapOutputs s = none) ∧
            ∃ t, exec (.strapWindowEnd addr cap bank) s = .next t ∧
              t =
                { s with
                  straps :=
                    { window := none, pins := .output, latched := true, address := addr.val, capClass := cap.val
                      bank := bank.val, capacity := [32, 40, 48, 56, 64, 72, 88, 112].getD cap.val 0
                      bankSize := bank.val + 1
                      aIso := ([32, 40, 48, 56, 64, 72, 88, 112].getD cap.val 0 - 4) / (bank.val + 1)
                      periodMs := 1880 + 16 * addr.val }
                  feeder := { s.feeder with st := .learning, watchdog := some 40 } } ∧
              strapOutputs t =
                some
                  { addr :=
                      [decide (s.faults.code % 2 = 1), decide (s.faults.code / 2 % 2 = 1),
                        decide (s.faults.code / 4 % 2 = 1), decide (s.faults.code / 8 % 2 = 1)]
                    cap :=
                      [decide (s.panel.phaseLamp = .lit .steam ∨ s.panel.phaseLamp = .flashing .steam true),
                        decide (s.panel.phaseLamp = .lit .settle ∨ s.panel.phaseLamp = .flashing .settle true),
                        decide (s.panel.phaseLamp = .lit .dry ∨ s.panel.phaseLamp = .flashing .dry true)]
                    bank :=
                      [decide (s.panel.phaseLamp = .lit .freshen ∨ s.panel.phaseLamp = .flashing .freshen true),
                        decide (s.panel.phaseLamp = .lit .cool ∨ s.panel.phaseLamp = .flashing .cool true),
                        s.panel.doneLamp, s.panel.waitLamp] } ∧
              (Settled s → s.cycle.st = .idle →
                (strapOutputs t).map PinOutputs.cap = some [false, false, false] ∧
                  (strapOutputs t).map PinOutputs.bank = some [false, false, false, false])) ∧
        (s.straps.window = none → exec (.strapWindowEnd addr cap bank) s = .next s)

/-! ## Keys and panel -/

/-- KEY_LINE_CHANGE starts or loses one key's debounce, and KEY_RELEASE ends a running one, BUZZER_STEP one step of the sounding
pattern and LAMP_FLASH_TOGGLE a flashing lamp; nothing else changes (R174 to R176); with no debounce of a release running,
KEY_RELEASE does nothing (log entry 8). -/
def Obligations.PanelTimersStep : Prop :=
  ∀ (pressed on : Bool) (key : Key) (x : Sounding) (k : PhaseKind) (s : State),
    Live s →
      exec (.keyLineChange .start pressed) s =
          .next
            { s with
              panel :=
                { s.panel with
                  start :=
                    { s.panel.start with
                      raw := pressed, debounce := if pressed = s.panel.start.debounced then none else some 30 } } } ∧
        exec (.keyLineChange .cancel pressed) s =
          .next
            { s with
              panel :=
                { s.panel with
                  cancel :=
                    { s.panel.cancel with
                      raw := pressed, debounce := if pressed = s.panel.cancel.debounced then none else some 30 } } } ∧
        exec (.keyLineChange .power pressed) s =
          .next
            { s with
              panel :=
                { s.panel with
                  power :=
                    { s.panel.power with
                      raw := pressed, debounce := if pressed = s.panel.power.debounced then none else some 30 } } } ∧
        (s.panel.start.settles false = true →
          exec (.keyRelease .start) s = .next { s with panel := { s.panel with start := ⟨false, false, none⟩ } }) ∧
        (s.panel.power.settles false = true →
          exec (.keyRelease .power) s = .next { s with panel := { s.panel with power := ⟨false, false, none⟩ } }) ∧
        (s.panel.cancel.settles false = true →
          exec (.keyRelease .cancel) s =
            .next { s with panel := { s.panel with cancel := ⟨false, false, none⟩, longPress := none } }) ∧
        ((keyOf key s.panel).settles false = false → exec (.keyRelease key) s = .next s) ∧
        (s.panel.buzzer = some x →
          exec .buzzerStep s =
            .next
              { s with
                panel :=
                  { s.panel with
                    buzzer :=
                      if x.pattern = .doneTones ∧ x.step < 4 then
                        some ⟨.doneTones, x.step + 1, if x.step % 2 = 0 then 200 else 300⟩
                      else none } }) ∧
        (s.panel.phaseLamp = .flashing k on →
          exec .lampFlashToggle s = .next { s with panel := { s.panel with phaseLamp := .flashing k !on } })

/-- The long press shows the history, newest record first: the code for 1000 ms, 8 + programme and 12 + phase index for 500 ms
each, a 0 between records, and the active code again at the end; with a cycle in hand or an empty history it shows nothing
(R170, R174). -/
def Obligations.HistoryDisplaySequence : Prop :=
  ∀ (r : FaultRecord) (rest : List FaultRecord) (s : State),
    Live s →
      (s.panel.longPress.isSome = true → s.cycle.st = .idle → s.faults.history = r :: rest →
          exec .longPress s =
            .next
              { s with
                panel := { s.panel with longPress := none, display := some ⟨r, rest, .code, 1000⟩ }
                faults := { s.faults with code := r.code } }) ∧
        (s.panel.longPress.isSome = true → s.cycle.st ≠ .idle ∨ s.faults.history = [] →
          exec .longPress s = .next { s with panel := { s.panel with longPress := none } }) ∧
        (∀ ms, s.panel.display = some ⟨r, rest, .code, ms⟩ →
          exec .historyDisplayStep s =
            .next
              { s with
                panel := { s.panel with display := some ⟨r, rest, .programme, 500⟩ }
                faults := { s.faults with code := 8 + r.programme.val } }) ∧
        (∀ ms, s.panel.display = some ⟨r, rest, .programme, ms⟩ →
          exec .historyDisplayStep s =
            .next
              { s with
                panel := { s.panel with display := some ⟨r, rest, .index, 500⟩ }
                faults := { s.faults with code := 12 + r.index } }) ∧
        (∀ ms, s.panel.display = some ⟨r, [], .index, ms⟩ →
          exec .historyDisplayStep s =
            .next { s with panel := { s.panel with display := none }, faults := { s.faults with code := s.faults.activeCode } }) ∧
        (∀ ms q, s.panel.display = some ⟨q, r :: rest, .index, ms⟩ →
          exec .historyDisplayStep s =
            .next
              { s with
                panel := { s.panel with display := some ⟨q, r :: rest, .separator, 500⟩ }
                faults := { s.faults with code := 0 } }) ∧
        (∀ ms q, s.panel.display = some ⟨q, r :: rest, .separator, ms⟩ →
          exec .historyDisplayStep s =
            .next
              { s with
                panel := { s.panel with display := some ⟨r, rest, .code, 1000⟩ }
                faults := { s.faults with code := r.code } })

/-! ## Programmes and the cycle -/

/-- The four patterns of the Programme ROM that other blocks rely on (R14). -/
def Obligations.RomFollowsItsPatterns : Prop :=
  ∀ (p : Fin 8) (i : Fin 4),
    ∀ r, readRom p i.val = some r →
      (readRom p (i.val + 1) = none → r.kind = .cool ∧ r.fan = 3 ∧ r.steam = none ∧ r.heater = none) ∧
        (r.kind = .steam ∨ r.kind = .freshen →
          i.val = 0 ∧
            (readRom p 1).map Record.kind = some (if (readRom p 2).isSome then .settle else .cool)) ∧
        (r.kind = .settle → (readRom p (i.val + 1)).map Record.kind = some .dry) ∧
        (r.kind = .dry → (readRom p (i.val + 1)).map Record.kind = some .cool) ∧
        (p = 4 ∨ p = 5 → r.kind.usesSteam = false ∧ r.kind.needsLock = false)

/-- START_PRESS accepted in IDLE takes the programme the select lines name, enters its phase 0 and hands its requests on; in MEMBER
the rise of want from 0 loads a DEMAND, held over while a notice is in flight (R12, R18, R19, R24, R25, R53, R107, R110). A STEAM or
FRESHEN phase entered with the water level low raises WATER_EMPTY, which holds the cycle in it (R26, R32). -/
def Obligations.StartEntersPhaseZero : Prop :=
  ∀ (sel2 sel1 sel0 : Bool) (p : Fin 8) (r : Record) (s : State),
    Live s → s.panel.start.settles true = true → s.feeder.window.isSome = true → s.cycle.st = .idle →
      s.lines.doorOpen = false → s.faults.blocking = false → FaultsOrdered s.faults →
        p.val = 4 * sel2.toNat + 2 * sel1.toNat + sel0.toNat → readRom p 0 = some r →
          (s.lines.waterLow = false ∨ r.kind.usesSteam = false →
            ∃ t, exec (.startPress sel2 sel1 sel0) s = .next t ∧
              t.cycle.st = .running ∧ t.cycle.programme = p ∧ t.cycle.index = 0 ∧ t.cycle.record = some r ∧
              t.cycle.remaining = 60 * r.minutes ∧ t.cycle.boost = 0 ∧ t.cycle.latch = true ∧ t.cycle.starvedSecs = 0 ∧
              t.cycle.second = some 1000 ∧ t.request.steam = r.steam.getD 0 ∧ t.request.heater = r.heater.getD 0 ∧
              t.request.cls = r.kind.cls ∧ t.request.boost = 0 ∧ t.request.fan = r.fan ∧
              t.request.valve = r.kind.usesSteam ∧
              t.request.lock = (r.kind.needsLock || decide (100 ≤ s.climate.tmax)) ∧
              t.climate.watch = (if r.kind = .dry then .warmUp else .off) ∧ t.climate.drop = r.drop ∧
              t.climate.peak = 0 ∧ t.climate.warmUp = (if r.kind = .dry then some 120000 else none) ∧
              t.climate.tracking = none ∧ t.climate.dryPoint = false ∧ t.panel.display = none ∧ t.panel.start = ⟨true, true, none⟩ ∧
              (s.member.st = .member → s.member.inFlight = false → s.request.want = 0 → s.member.refWant = 0 → SlotFits s →
                t.member.slot = some (newestDemand t) ∧ t.member.presence = 7 ∧ t.share.raiseReady = none) ∧
              (s.member.st = .member → s.member.inFlight = true → s.request.want = 0 →
                s.member.refWant = 0 ∨ s.member.refWant + 4 ≤ t.request.want → SlotFits s →
                  t.member = { s.member with heldOver := some .demand } ∧ t.framer = s.framer ∧
                    t.share.raiseReady = s.share.raiseReady) ∧
              t.faults.active = s.faults.active ∧ t.faults.waiting = s.faults.waiting ∧
              t.faults.history = s.faults.history ∧ KeepsReadings s t ∧ CabinetFrame s t) ∧
            (s.lines.waterLow = true → r.kind.usesSteam = true →
              ∃ t, exec (.startPress sel2 sel1 sel0) s = .next t ∧
                t.cycle =
                  { s.cycle with
                    st := .held, programme := p, index := 0, record := some r, remaining := 60 * r.minutes, boost := 0
                    latch := true, second := none, starved := false, starvedSecs := 0 } ∧
                t.faults.active = some .waterEmpty ∧ t.faults.code = 5 ∧ t.faults.history = s.faults.history ∧
                t.request.want = 0 ∧ t.request.cls = 0 ∧ t.request.fan = r.fan ∧ t.request.valve = false ∧
                t.loads.draw = 0 ∧ WatchIsOff t.climate ∧ t.panel.display = none ∧ t.panel.start = ⟨true, true, none⟩ ∧
                KeepsReadings s t ∧ CabinetFrame s t)

/-- START_PRESS in IDLE or PAUSED with the door open or a class A or B fault active, and in any other cycle state, gives the click
and nothing more; before learning so do all three keys (R17, R18, R38, R174). With no debounce of a press running, its raw change
having returned or its key being pressed already, a press does nothing (R174; log entry 8). -/
def Obligations.RefusedKeysOnlyClick : Prop :=
  ∀ (sel2 sel1 sel0 : Bool) (s : State),
    Live s →
      (s.panel.start.settles true = false → exec (.startPress sel2 sel1 sel0) s = .next s) ∧
        (s.panel.cancel.settles true = false → exec .cancelPress s = .next s) ∧
        (s.panel.power.settles true = false → exec .powerPress s = .next s) ∧
        (s.panel.start.settles true = true →
          s.feeder.window = none ∨ s.lines.doorOpen = true ∨ s.faults.blocking = true ∨
            ¬(s.cycle.st = .idle ∨ s.cycle.st = .paused) →
          exec (.startPress sel2 sel1 sel0) s =
            .next
              { s with
                panel :=
                  { s.panel with start := ⟨true, true, none⟩, buzzer := requestSound .click s.panel.buzzer } }) ∧
        (s.feeder.window = none → s.panel.cancel.settles true = true →
          exec .cancelPress s =
            .next
              { s with
                panel :=
                  { s.panel with
                    cancel := ⟨true, true, none⟩, longPress := some 5000
                    buzzer := requestSound .click s.panel.buzzer } }) ∧
        (s.feeder.window = none → s.panel.power.settles true = true →
          exec .powerPress s =
            .next
              { s with
                panel := { s.panel with power := ⟨true, true, none⟩, buzzer := requestSound .click s.panel.buzzer } })

/-- START_PRESS accepted in PAUSED restores the phase from its context, with the latch on, the ring emptied and a DRY phase warming
up afresh on its saved peak (R38, R56). A STEAM or FRESHEN phase resumed with the water level low raises WATER_EMPTY, which holds
the cycle in it (R26, R32). -/
def Obligations.StartResumesPausedPhase : Prop :=
  ∀ (sel2 sel1 sel0 : Bool) (x : PauseContext) (r : Record) (s : State),
    Live s → s.panel.start.settles true = true → s.feeder.window.isSome = true → s.cycle.st = .paused →
      s.cycle.context = some x → readRom s.cycle.programme x.index = some r → s.lines.doorOpen = false →
        s.faults.blocking = false → FaultsOrdered s.faults →
          (s.lines.waterLow = false ∨ r.kind.usesSteam = false →
            ∃ t, exec (.startPress sel2 sel1 sel0) s = .next t ∧
              t.cycle.st = .running ∧ t.cycle.programme = s.cycle.programme ∧ t.cycle.index = x.index ∧
              t.cycle.remaining = x.remaining ∧ t.cycle.boost = x.boost ∧ t.cycle.record = some r ∧ t.cycle.latch = true ∧
              t.cycle.starvedSecs = 0 ∧ t.cycle.second = some 1000 ∧ t.cycle.context = none ∧ t.cycle.pause = none ∧
              t.request.steam = r.steam.getD 0 ∧ t.request.heater = r.heater.getD 0 ∧ t.request.cls = r.kind.cls ∧
              t.request.boost = x.boost ∧ t.climate.ring = [] ∧ t.climate.dryPoint = false ∧
              (r.kind = .dry →
                t.climate.watch = .warmUp ∧ t.climate.peak = x.peak.getD 0 ∧ t.climate.drop = r.drop ∧
                  t.climate.warmUp = some 120000 ∧ t.climate.tracking = none) ∧
              (r.kind ≠ .dry → WatchIsOff t.climate) ∧ t.faults = s.faults ∧ CabinetFrame s t) ∧
            (s.lines.waterLow = true → r.kind.usesSteam = true →
              ∃ t, exec (.startPress sel2 sel1 sel0) s = .next t ∧
                t.cycle =
                  { s.cycle with
                    st := .held, index := x.index, record := some r, remaining := x.remaining, boost := x.boost
                    latch := true, second := none, starved := false, starvedSecs := 0, context := none, pause := none } ∧
                t.faults.active = some .waterEmpty ∧ t.faults.code = 5 ∧ t.faults.history = s.faults.history ∧
                t.request.want = 0 ∧ t.request.cls = 0 ∧ t.request.boost = x.boost ∧ t.loads.draw = 0 ∧
                t.climate.ring = [] ∧ WatchIsOff t.climate ∧ CabinetFrame s t)

/-- CANCEL_PRESS by cycle state: CANCEL_COOL at a Tmax of 45.0 °C or more and IDLE below it from RUNNING, HELD and PAUSED; IDLE from
DONE, and from HALTED unless class A is active; elsewhere the click and the long-press timer only (R40, R35, R174). The COOL lamp
that begins to flash in CANCEL_COOL starts lit for 500 ms (R175). -/
def Obligations.CancelByCycleState : Prop :=
  ∀ (s : State),
    Live s → s.panel.cancel.settles true = true → s.feeder.window.isSome = true → FaultsOrdered s.faults →
      (s.cycle.st = .running ∨ s.cycle.st = .held ∨ s.cycle.st = .paused →
          ∃ t, exec .cancelPress s = .next t ∧
            t.cycle =
              { s.cycle.putAway (if 90 ≤ s.climate.tmax then .cancelCool else .idle) with
                cancelCool := if 90 ≤ s.climate.tmax then some 600000 else none } ∧
            t.request.want = 0 ∧ t.request.cls = 0 ∧ t.request.boost = 0 ∧ t.request.valve = false ∧
            t.request.fan = (if 90 ≤ s.climate.tmax then 3 else 0) ∧ WatchIsOff t.climate ∧ t.loads.draw = 0 ∧
            (90 ≤ s.climate.tmax → (∀ on, s.panel.phaseLamp ≠ .flashing .cool on) →
              t.panel.phaseLamp = .flashing .cool true ∧ t.panel.flash = some 500) ∧
            t.panel.longPress = some 5000 ∧ KeepsReadings s t ∧ CabinetFrame s t) ∧
        (s.cycle.st = .done ∨ (s.cycle.st = .halted ∧ s.faults.activeClass ≠ some .a) →
          ∃ t, exec .cancelPress s = .next t ∧
            t.cycle = s.cycle.putAway .idle ∧ t.request.want = 0 ∧ t.request.fan = 0 ∧ t.loads.draw = 0 ∧
            t.panel.longPress = some 5000 ∧ KeepsReadings s t ∧ CabinetFrame s t) ∧
        (s.cycle.st = .idle ∨ s.cycle.st = .cancelCool ∨ s.cycle.st = .standby ∨
            (s.cycle.st = .halted ∧ s.faults.activeClass = some .a) →
          exec .cancelPress s =
            .next
              { s with
                panel :=
                  { s.panel with
                    cancel := ⟨true, true, none⟩, longPress := some 5000
                    buzzer := requestSound .click s.panel.buzzer } })

/-- POWER_PRESS in IDLE or DONE puts the cycle in STANDBY and, by the membership state, loads a LEAVE or leaves at once; in STANDBY
it brings cycle and station back; in LEAVING it turns the return mark; with a cycle in hand it only clicks (R43, R117, R118). -/
def Obligations.PowerByMembership : Prop :=
  ∀ (s : State),
    Live s → s.panel.power.settles true = true → s.feeder.window.isSome = true → FaultsOrdered s.faults →
      (s.cycle.st = .idle ∨ s.cycle.st = .done →
          s.member.st = .joinAsk ∨ s.member.st = .joinHold ∨ s.member.st = .joinConfirm ∨ s.member.st = .member →
            ∃ t, exec .powerPress s = .next t ∧
              t.cycle = s.cycle.putAway .standby ∧ t.member.st = .leaving ∧ t.share.grant = 0 ∧ t.share.allowance = 0 ∧
              (s.member.st = .member → t.share.raiseReady = none) ∧
              (s.member.inFlight = false → t.member.slot = some .leave ∧ t.member.heldOver = s.member.heldOver) ∧
              (s.member.inFlight = true → t.member.slot = s.member.slot ∧ t.member.heldOver = some .leave) ∧
              t.table = s.table ∧ t.feeder = s.feeder ∧ KeepsShedding s t ∧ KeepsReadings s t ∧ KeepsInputs s t) ∧
        (s.cycle.st = .idle ∨ s.cycle.st = .done →
          s.member.st = .joinListen ∨ s.member.st = .isolated → s.member.returnMark = false →
            ∃ t, exec .powerPress s = .next t ∧
              t.cycle = s.cycle.putAway .standby ∧ t.member.st = .standby ∧ t.member.slot = none ∧
              t.member.heldOver = none ∧ t.member.joinNonce = none ∧ t.member.periodCount = 0 ∧ t.table = emptyTable ∧
              t.share.period = none ∧ t.share.hold = 0 ∧ t.share.arm = true ∧ t.share.allowance = 0 ∧
              t.framer.st = .silent ∧ t.feeder = s.feeder ∧ KeepsReadings s t ∧ KeepsInputs s t) ∧
        (s.cycle.st = .standby → s.member.st = .standby → s.framer.st = .silent →
          ∃ t, exec .powerPress s = .next t ∧
            t.cycle = s.cycle.putAway .idle ∧ t.member.st = .joinListen ∧ t.member.periodCount = 0 ∧
            t.member.refWant = 0 ∧ t.member.joinNonce = none ∧ t.share.period = some s.straps.periodMs ∧
            t.share.allowance = 0 ∧ t.framer.st = .listen ∧ t.framer.failures = 0 ∧ t.framer.idleHold = some 12 ∧
            t.table = s.table ∧ t.feeder = s.feeder ∧ KeepsReadings s t ∧ KeepsInputs s t) ∧
        (s.cycle.st = .idle ∨ s.cycle.st = .done ∨ s.cycle.st = .standby →
          s.member.st = .leaving ∨ s.member.st = .duplicate →
            ∃ t, exec .powerPress s = .next t ∧
              t.cycle = s.cycle.putAway (if s.cycle.st = .standby then .idle else .standby) ∧
              t.member =
                { s.member with
                  returnMark := if s.member.st = .leaving then !s.member.returnMark else s.member.returnMark } ∧
              t.framer = s.framer ∧ t.table = s.table ∧ t.feeder = s.feeder ∧ KeepsShedding s t ∧ KeepsReadings s t ∧
              KeepsInputs s t) ∧
        (¬(s.cycle.st = .idle ∨ s.cycle.st = .done ∨ s.cycle.st = .standby) →
          exec .powerPress s =
            .next
              { s with
                panel := { s.panel with power := ⟨true, true, none⟩, buzzer := requestSound .click s.panel.buzzer } })

/-- PAUSE_TIMER_EXPIRY abandons the cycle: the context is discarded, the state is IDLE, the abandon tone is asked for, and programme
and phase index keep their values (R39). -/
def Obligations.PauseExpiryAbandonsCycle : Prop :=
  ∀ (s : State),
    Live s → FaultsOrdered s.faults → s.cycle.pause.isSome = true →
      ∃ t, exec .pauseTimerExpiry s = .next t ∧
        t.cycle = s.cycle.putAway .idle ∧ t.panel.buzzer = requestSound .abandon s.panel.buzzer ∧ t.request.want = 0 ∧
        t.request.fan = 0 ∧ t.loads.draw = 0 ∧ KeepsReadings s t ∧ CabinetFrame s t

/-- CANCEL_COOL ends in IDLE at its timer's expiry, or at a probe round that gives a Tmax below 45.0 °C, whichever comes first, with one
probe out of range and with a class B fault active too; a round that gives a Tmax of 45.0 °C or more leaves it as it is (R41). -/
def Obligations.CancelCoolEndsInIdle : Prop :=
  ∀ (p0 p1 p2 : Int) (s : State),
    Live s → FaultsOrdered s.faults →
      (s.cycle.cancelCool.isSome = true →
          ∃ t, exec .cancelCoolTimerExpiry s = .next t ∧
            t.cycle = s.cycle.putAway .idle ∧ t.request.fan = 0 ∧ t.request.want = 0 ∧ t.loads.draw = 0 ∧
            KeepsReadings s t ∧ CabinetFrame s t) ∧
        (s.cycle.st = .cancelCool → s.faults.activeClass ≠ some .a → s.climate.overTemp = false → s.lines.trip = false →
          2 ≤ ([p0, p1, p2].filter fun r : Int => decide (-20 ≤ r) && decide (r ≤ 220)).length →
            ((∀ r ∈ ([p0, p1, p2].filter fun r : Int => decide (-20 ≤ r) && decide (r ≤ 220)), r < 90) →
                ∃ t, exec (.probeRound p0 p1 p2) s = .next t ∧
                  t.cycle = s.cycle.putAway .idle ∧ t.request.fan = 0 ∧ t.request.want = 0 ∧ t.request.lock = false ∧
                  t.loads.draw = 0 ∧ CabinetFrame s t) ∧
              ((∃ r ∈ ([p0, p1, p2].filter fun r : Int => decide (-20 ≤ r) && decide (r ≤ 220)), 90 ≤ r) →
                (∀ r ∈ ([p0, p1, p2].filter fun r : Int => decide (-20 ≤ r) && decide (r ≤ 220)), r < 140) →
                  ∃ t, exec (.probeRound p0 p1 p2) s = .next t ∧
                    KeepsPhase s t ∧ t.request.fan = 3 ∧ t.request.want = 0 ∧ t.request.lock = true ∧ CabinetFrame s t))

/-- SECOND_TIMER_EXPIRY takes a second off an unstarved phase, or counts a second of starvation, the sixtieth raising the boost up
to 7; never both (R20, R22). -/
def Obligations.SecondRunsOrStarves : Prop :=
  ∀ (s : State),
    Live s → s.cycle.st = .running → s.cycle.second.isSome = true → Settled s → RequestFresh s →
      (s.cycle.starved = false → 1 < s.cycle.remaining →
          exec .secondTimerExpiry s =
            .next { s with cycle := { s.cycle with second := some 1000, remaining := s.cycle.remaining - 1 } }) ∧
        (s.cycle.starved = true → s.cycle.starvedSecs < 59 →
          exec .secondTimerExpiry s =
            .next { s with cycle := { s.cycle with second := some 1000, starvedSecs := s.cycle.starvedSecs + 1 } }) ∧
        (s.cycle.starved = true → s.cycle.starvedSecs = 59 →
          ∃ t, exec .secondTimerExpiry s = .next t ∧
            t.cycle =
              { s.cycle with
                second := some 1000, starvedSecs := 0, boost := min (s.cycle.boost + 1) 7, starved := t.cycle.starved } ∧
            t.request = { s.request with boost := min (s.cycle.boost + 1) 7 } ∧ t.climate = s.climate ∧
            t.faults = s.faults ∧ KeepsNotice s t ∧ CabinetFrame s t)

/-- The second that brings remaining seconds to 0 ends the phase: the next record is entered, or the cycle is DONE with its three
tones, the water level adequate or low, for no phase after the first uses steam; a DRY phase so entered warms up for 120 s from a
peak of 0 (R19, R26, R27, R28, R53). -/
def Obligations.PhaseEndsByTime : Prop :=
  ∀ (r : Record) (s : State),
    Live s → s.cycle.st = .running → s.cycle.second.isSome = true → s.cycle.starved = false → s.cycle.remaining = 1 →
      s.faults.blocking = false → FaultsOrdered s.faults →
        (readRom s.cycle.programme (s.cycle.index + 1) = some r →
            ∃ t, exec .secondTimerExpiry s = .next t ∧
              t.cycle =
                { s.cycle with
                  index := s.cycle.index + 1, record := some r, remaining := 60 * r.minutes, second := some 1000
                  starved := t.cycle.starved, starvedSecs := 0, boost := 0, latch := true } ∧
              t.request.steam = r.steam.getD 0 ∧ t.request.heater = r.heater.getD 0 ∧ t.request.cls = r.kind.cls ∧
              t.request.boost = 0 ∧ t.request.fan = r.fan ∧ (r.kind ≠ .dry → WatchIsOff t.climate) ∧
              (r.kind = .dry →
                t.climate.watch = .warmUp ∧ t.climate.peak = 0 ∧ t.climate.drop = r.drop ∧
                  t.climate.warmUp = some 120000 ∧ t.climate.tracking = none ∧ t.climate.dryPoint = false) ∧
              t.panel.phaseLamp = .lit r.kind ∧ t.faults = s.faults ∧ KeepsReadings s t ∧ CabinetFrame s t) ∧
          (readRom s.cycle.programme (s.cycle.index + 1) = none →
            ∃ t, exec .secondTimerExpiry s = .next t ∧
              t.cycle = { s.cycle.putAway .done with remaining := 0 } ∧ t.request.want = 0 ∧ t.request.cls = 0 ∧
              t.panel.buzzer = requestSound .doneTones s.panel.buzzer ∧ t.panel.doneLamp = true ∧
              t.panel.phaseLamp = .dark ∧ WatchIsOff t.climate ∧ t.faults = s.faults ∧ KeepsReadings s t ∧
              CabinetFrame s t)

/-! ## Door, water, lock and fan -/

/-- DOOR_OPEN pauses a RUNNING or HELD cycle on a context, takes DONE to IDLE and leaves every other cycle state; the loads, the fan
and the valve are off in each, and the lamp that begins to flash in PAUSED starts lit for 500 ms. DOOR_CLOSE changes no cycle state
and brings the fan back (R36, R37, R56, R151, R157, R175). -/
def Obligations.DoorByCycleState : Prop :=
  ∀ (s : State),
    Live s → FaultsOrdered s.faults →
      (∃ t, exec .doorOpen s = .next t ∧
          t.loads.steamLevel = 0 ∧ t.loads.heaterLevel = 0 ∧ t.loads.draw = 0 ∧ t.loads.fan = 0 ∧
          t.loads.fanFirst = false ∧ t.loads.fanSecond = false ∧ t.loads.tachWatchdog = none ∧ t.loads.valve = false ∧
          t.loads.fanOff = true ∧
          (s.cycle.st = .running ∨ s.cycle.st = .held →
            t.cycle =
                { s.cycle.putAway .paused with
                  context :=
                    some
                      { index := s.cycle.index, remaining := s.cycle.remaining, boost := s.cycle.boost
                        peak := if s.cycle.kind = some .dry then some s.climate.peak else none }
                  pause := some 1800000, cancelCool := s.cycle.cancelCool } ∧
              t.request.want = 0 ∧ t.request.cls = 0 ∧ t.request.fan = 0 ∧ t.request.valve = false ∧
              t.request.lock = decide (100 ≤ s.climate.tmax) ∧ WatchIsOff t.climate ∧
              ∀ k, s.cycle.kind = some k → (∀ on, s.panel.phaseLamp ≠ .flashing k on) →
                t.panel.phaseLamp = .flashing k true ∧ t.panel.flash = some 500) ∧
          (s.cycle.st = .done → t.cycle = s.cycle.putAway .idle ∧ t.panel.doneLamp = false) ∧
          (¬(s.cycle.st = .running ∨ s.cycle.st = .held ∨ s.cycle.st = .done) →
            KeepsPhase s t ∧ t.request = s.request ∧ t.climate = s.climate ∧ t.faults = s.faults ∧ KeepsNotice s t) ∧
          KeepsReadings s t ∧ CabinetFrame { s with lines := { s.lines with doorOpen := true } } t) ∧
        ∃ t, exec .doorClose s = .next t ∧
          KeepsPhase s t ∧ t.request = s.request ∧ t.climate = s.climate ∧ t.faults = s.faults ∧ KeepsNotice s t ∧
          (s.cycle.st ≠ .halted → 0 < s.request.fan → t.loads.fan = s.request.fan) ∧
          (s.cycle.st = .halted → t.loads.fan = if s.faults.holds .fanStall then 1 else 3) ∧
          t.loads.fanFirst = decide (t.loads.fan = 1 ∨ t.loads.fan = 3) ∧
          t.loads.fanSecond = decide (t.loads.fan = 2 ∨ t.loads.fan = 3) ∧
          (s.loads.fan = 0 → 0 < t.loads.fan →
            t.loads.tachWatchdog = some 3000 ∧ t.loads.tachConfirmed = s.loads.tachConfirmed) ∧
          CabinetFrame { s with lines := { s.lines with doorOpen := false } } t

/-- WATER_LEVEL_CHANGE to low in a RUNNING STEAM or FRESHEN phase raises WATER_EMPTY and holds the cycle where it stands; the refill
that withdraws it lets the held phase run on. A refill withdraws a pending WATER_EMPTY, and an active one outside RUNNING and HELD, or
in HELD with another class B fault behind it, and leaves the phase as it stands; with none held it withdraws nothing. In every other
case a low level raises nothing (R24, R26, R32, R33, R166). -/
def Obligations.WaterLevelHoldsSteam : Prop :=
  ∀ (r : Record) (s : State),
    Live s → FaultsOrdered s.faults →
      (s.cycle.steaming = true → s.faults.blocking = false →
          ∃ t, exec (.waterLevelChange false) s = .next t ∧
            t.cycle = { s.cycle with st := .held, second := none, starved := false, starvedSecs := 0 } ∧
            t.faults.active = some .waterEmpty ∧ t.faults.code = 5 ∧ t.faults.history = s.faults.history ∧
            t.request.want = 0 ∧ t.request.cls = 0 ∧ t.request.boost = s.cycle.boost ∧ t.loads.draw = 0 ∧
            t.climate = s.climate ∧ CabinetFrame { s with lines := { s.lines with waterLow := true } } t) ∧
        (s.cycle.st = .held → s.faults.active = some .waterEmpty → (∀ k ∈ s.faults.waiting, k.cls = .c) →
          s.cycle.record = some r → r.kind.usesSteam = true →
            ∃ t, exec (.waterLevelChange true) s = .next t ∧
              t.cycle =
                { s.cycle with
                  st := .running, second := some 1000, starved := t.cycle.starved
                  starvedSecs := t.cycle.starvedSecs } ∧
              t.request.steam = r.steam.getD 0 ∧ t.request.cls = r.kind.cls ∧
              t.faults.active = s.faults.waiting.head? ∧ t.climate = s.climate ∧
              CabinetFrame { s with lines := { s.lines with waterLow := false } } t) ∧
        (s.cycle.steaming = false → LockWatched s → RequestFresh s →
          ∃ t, exec (.waterLevelChange false) s = .next t ∧
            t.cycle.st = s.cycle.st ∧ t.faults = s.faults ∧ t.climate = s.climate ∧ t.request = s.request ∧
            CabinetFrame { s with lines := { s.lines with waterLow := true } } t) ∧
        (LockWatched s → RequestFresh s →
          (s.faults.active ≠ some .waterEmpty →
              ∃ t, exec (.waterLevelChange true) s = .next t ∧
                t.faults = { s.faults with waiting := s.faults.waiting.filter fun k => k ≠ .waterEmpty } ∧
                t.faults.holds .waterEmpty = false ∧ KeepsPhase s t ∧ t.climate = s.climate ∧
                CabinetFrame { s with lines := { s.lines with waterLow := false } } t) ∧
            (s.faults.active = some .waterEmpty → s.cycle.st ≠ .running →
              (s.cycle.st = .held → s.faults.waiting.head?.map FaultKind.cls = some .b) →
                ∃ t, exec (.waterLevelChange true) s = .next t ∧
                  t.faults.active = s.faults.waiting.head? ∧ t.faults.waiting = s.faults.waiting.tail ∧
                  t.faults.holds .waterEmpty = false ∧ t.faults.code = t.faults.activeCode ∧
                  t.faults.history = s.faults.history ∧ KeepsPhase s t ∧ t.request = s.request ∧
                  t.climate = s.climate ∧ CabinetFrame { s with lines := { s.lines with waterLow := false } } t))

/-- LOCK_SENSE_CHANGE stops the lock-confirm timer at a match, withdrawing LOCK_FAULT, and starts it at 2 s when the sense departs; the
valve follows the sense at once. The withdrawal lets a held cycle run on, holds it on WATER_EMPTY where it steams with the water level
low, or ends its phase at once where the dry point was found in the hold (R26, R27, R33). LOCK_CONFIRM_EXPIRY raises LOCK_FAULT,
which holds a RUNNING cycle (R151, R159, R161); a stopped timer has no expiry (log entry 1). -/
def Obligations.LockSenseAndConfirm : Prop :=
  ∀ (locked : Bool) (s : State),
    Live s → FaultsOrdered s.faults → s.loads.lock = s.request.lock →
      (s.faults.holds .lockFault = false →
          ∃ t, exec (.lockSenseChange locked) s = .next t ∧
            t.loads.lock = s.loads.lock ∧
            t.loads.lockConfirm =
              (if locked = s.loads.lock then none
                else if s.lines.locked = s.loads.lock then some 2000 else s.loads.lockConfirm) ∧
            t.loads.valve =
              (s.request.valve && decide (8 ≤ t.loads.steamLevel) && locked && !s.lines.doorOpen) ∧
            KeepsPhase s t ∧ t.request = s.request ∧ t.climate = s.climate ∧ t.faults = s.faults ∧ KeepsNotice s t ∧
            CabinetFrame { s with lines := { s.lines with locked := locked } } t) ∧
        (s.faults.holds .lockFault = true → locked = s.loads.lock →
          ∃ t, exec (.lockSenseChange locked) s = .next t ∧
            t.faults.holds .lockFault = false ∧
            (s.cycle.st = .held → s.faults.active = some .lockFault → (∀ k ∈ s.faults.waiting, k.cls = .c) →
              s.climate.dryPoint = false →
                (s.lines.waterLow = false → t.cycle.st = .running) ∧
                  (s.lines.waterLow = true → (∃ r, s.cycle.record = some r ∧ r.kind.usesSteam = true) →
                    t.cycle.st = .held ∧ t.faults.active = some .waterEmpty ∧ t.request.want = 0)) ∧
            (s.cycle.st = .held → s.faults.active = some .lockFault → (∀ k ∈ s.faults.waiting, k.cls = .c) →
              s.climate.dryPoint = true → s.cycle.kind = some .dry →
                ∀ r, readRom s.cycle.programme (s.cycle.index + 1) = some r → r.kind = .cool → DryHoldEnds r s t) ∧
            CabinetFrame { s with lines := { s.lines with locked := locked } } t) ∧
        (s.loads.lockConfirm.isSome = true → s.lines.locked ≠ s.loads.lock → s.faults.holds .lockFault = false →
          RequestFresh s →
            ∃ t, exec .lockConfirmExpiry s = .next t ∧
              t.faults.holds .lockFault = true ∧ t.loads.lockConfirm = none ∧
              (s.faults.blocking = false → t.faults.active = some .lockFault ∧ t.faults.code = 7) ∧
              t.cycle.st = (if s.cycle.st = .running ∧ s.faults.blocking = false then .held else s.cycle.st) ∧
              t.climate = s.climate ∧ CabinetFrame s t) ∧
        (s.loads.lockConfirm = none → exec .lockConfirmExpiry s = .next s)

/-- TACH_PULSE confirms a commanded fan, restarts its watchdog and withdraws FAN_STALL, which lets a held cycle run on, holds it on
WATER_EMPTY where it steams with the water level low, or ends its phase at once where the dry point was found in the hold (R26, R27,
R33); with the fan off it is not counted.
TACH_WATCHDOG_EXPIRY forces the loads off and raises FAN_STALL, which holds a RUNNING cycle (R151, R158); a stopped watchdog has no
expiry (log entry 1). -/
def Obligations.FanTachAndWatchdog : Prop :=
  ∀ (s : State),
    Live s → FaultsOrdered s.faults → Settled s → RequestFresh s → FanWatched s → LockWatched s →
      (s.loads.fan = 0 → exec .tachPulse s = .next s) ∧
        (s.loads.fan ≠ 0 → s.faults.holds .fanStall = false →
          ∃ t, exec .tachPulse s = .next t ∧
            t.loads.tachConfirmed = true ∧ t.loads.tachWatchdog = some 3000 ∧ t.loads.fan = s.loads.fan ∧
            t.loads.heaterLevel =
              (if s.lines.trip ∨ s.lines.doorOpen ∨ s.faults.blocking ∨
                  ¬(s.cycle.st = .running ∨ s.cycle.st = .cancelCool) then 0 else t.loads.heaterAssigned) ∧
            KeepsPhase s t ∧ t.request = s.request ∧ t.climate = s.climate ∧ t.faults = s.faults ∧ KeepsNotice s t ∧
            CabinetFrame s t) ∧
        (s.loads.fan ≠ 0 → s.faults.holds .fanStall = true →
          ∃ t, exec .tachPulse s = .next t ∧
            t.faults.holds .fanStall = false ∧
            (s.cycle.st = .held → s.faults.active = some .fanStall → (∀ k ∈ s.faults.waiting, k.cls = .c) →
              s.climate.dryPoint = false → 0 < s.request.fan →
                (s.lines.waterLow = false →
                    t.cycle.st = .running ∧ t.loads.tachConfirmed = true ∧ t.loads.tachWatchdog = some 3000) ∧
                  (s.lines.waterLow = true → (∃ r, s.cycle.record = some r ∧ r.kind.usesSteam = true) →
                    t.cycle.st = .held ∧ t.faults.active = some .waterEmpty ∧ t.request.want = 0)) ∧
            (s.cycle.st = .held → s.faults.active = some .fanStall → (∀ k ∈ s.faults.waiting, k.cls = .c) →
              s.climate.dryPoint = true → s.cycle.kind = some .dry → 0 < s.request.fan →
                ∀ r, readRom s.cycle.programme (s.cycle.index + 1) = some r → r.kind = .cool → DryHoldEnds r s t) ∧
            CabinetFrame s t) ∧
        (s.loads.tachWatchdog.isSome = true →
          ∃ t, exec .tachWatchdogExpiry s = .next t ∧
            t.faults.holds .fanStall = true ∧ t.loads.tachConfirmed = false ∧ t.loads.tachWatchdog = none ∧
            t.loads.steamLevel = 0 ∧ t.loads.heaterLevel = 0 ∧ t.loads.fan ≠ 0 ∧
            (s.faults.blocking = false → t.faults.active = some .fanStall ∧ t.faults.code = 6) ∧
            t.cycle.st = (if s.cycle.st = .running ∧ s.faults.blocking = false then .held else s.cycle.st) ∧
            t.climate = s.climate ∧ CabinetFrame s t) ∧
        (s.loads.tachWatchdog = none → exec .tachWatchdogExpiry s = .next s)

/-! ## Climate -/

/-- TRIP_LINE_CHANGE evaluates the over-temperature latch: set at 70.0 °C or an active trip line, cleared below 60.0 °C with the line
released, else kept; OVER_TEMP is held with it, an active line forces both loads off, and a newly active OVER_TEMP halts a cycle
in hand and is recorded (R34, R49, R151, R169). -/
def Obligations.TripLineWorksLatch : Prop :=
  ∀ (active : Bool) (s : State),
    Live s → FaultsOrdered s.faults → s.faults.holds .overTemp = s.climate.overTemp →
      ∃ t, exec (.tripLineChange active) s = .next t ∧
        t.climate.overTemp =
          (if s.climate.overTemp then !(decide (s.climate.tmax < 120) && !active)
            else (decide (140 ≤ s.climate.tmax) || active)) ∧
        t.faults.holds .overTemp = t.climate.overTemp ∧
        (active = true → t.loads.steamLevel = 0 ∧ t.loads.heaterLevel = 0) ∧
        (t.climate.overTemp = true → s.climate.overTemp = false → s.faults.activeClass ≠ some .a →
          t.faults.active = some .overTemp ∧
            t.faults.history = (⟨1, s.cycle.programme, s.cycle.index⟩ :: s.faults.history).take 4 ∧ t.faults.code = 1 ∧
            (s.cycle.st = .running ∨ s.cycle.st = .held ∨ s.cycle.st = .paused ∨ s.cycle.st = .cancelCool →
              t.cycle = s.cycle.putAway .halted ∧ t.request.fan = 3 ∧ t.request.want = 0)) ∧
        t.climate.tr = s.climate.tr ∧ t.climate.tmax = s.climate.tmax ∧ t.climate.ring = s.climate.ring ∧
        CabinetFrame { s with lines := { s.lines with trip := active } } t

/-- PROBE_ROUND: Tr is the mean of the readings within range, rounded down, and Tmax the highest of them; with none within range both
keep their values. The invalid count drives PROBE_DEGRADED and PROBE_FAULT, the new Tmax the over-temperature latch
(R45 to R49). -/
def Obligations.ProbeRoundFormsTemperatures : Prop :=
  ∀ (p0 p1 p2 : Int) (s : State),
    Live s → FaultsOrdered s.faults → s.faults.holds .overTemp = s.climate.overTemp →
      ∃ t, exec (.probeRound p0 p1 p2) s = .next t ∧
        t.climate.invalid = ([p0, p1, p2].filter fun r : Int => decide (r < -20) || decide (220 < r)).length ∧
        (t.climate.invalid < 3 →
          t.climate.tr =
              ([p0, p1, p2].filter fun r : Int => decide (-20 ≤ r) && decide (r ≤ 220)).sum / (3 - (t.climate.invalid : Int)) ∧
            t.climate.tmax ∈ ([p0, p1, p2].filter fun r : Int => decide (-20 ≤ r) && decide (r ≤ 220)) ∧
            ∀ r ∈ ([p0, p1, p2].filter fun r : Int => decide (-20 ≤ r) && decide (r ≤ 220)), r ≤ t.climate.tmax) ∧
        (t.climate.invalid = 3 → t.climate.tr = s.climate.tr ∧ t.climate.tmax = s.climate.tmax) ∧
        t.faults.holds .probeDegraded = decide (1 ≤ t.climate.invalid) ∧
        t.faults.holds .probeFault = decide (2 ≤ t.climate.invalid) ∧
        t.climate.overTemp =
          (if s.climate.overTemp then !(decide (t.climate.tmax < 120) && !s.lines.trip)
            else (decide (140 ≤ t.climate.tmax) || s.lines.trip)) ∧
        t.faults.holds .overTemp = t.climate.overTemp ∧ t.climate.ring = s.climate.ring ∧ CabinetFrame s t

/-- A probe round in RUNNING turns the regulation latch off at or above the target, on at 2.0 °C below it, and keeps it between, and
want follows it at once, in a DRY phase with the water level low too; one in HELD moves the latch alike, with want at 0 (R23, R24,
R26). -/
def Obligations.RegulationFollowsTr : Prop :=
  ∀ (p0 p1 p2 : Int) (tg : Int) (r : Record) (s : State),
    Live s → FaultsOrdered s.faults → s.climate.overTemp = false → s.lines.trip = false → s.cycle.record = some r →
      r.target = some tg → -20 ≤ p0 → p0 < 140 → -20 ≤ p1 → p1 < 140 → -20 ≤ p2 → p2 < 140 →
        ((s.cycle.st = .running ∧ s.faults.blocking = false ∧ (s.lines.waterLow = false ∨ r.kind.usesSteam = false)) ∨
            (s.cycle.st = .held ∧ s.faults.activeClass = some .b ∧ s.faults.holds .lockFault = false)) →
          ∃ t, exec (.probeRound p0 p1 p2) s = .next t ∧
            t.cycle =
              { s.cycle with
                starved := t.cycle.starved, starvedSecs := t.cycle.starvedSecs
                latch :=
                  if tg ≤ (p0 + p1 + p2) / 3 then false
                  else if (p0 + p1 + p2) / 3 ≤ tg - 4 then true else s.cycle.latch } ∧
            t.request.heater = (if s.cycle.st = .running ∧ t.cycle.latch = true then r.heater.getD 0 else 0) ∧
            t.request.steam = (if s.cycle.st = .running ∧ r.kind.usesSteam = true then r.steam.getD 0 else 0) ∧
            t.request.lock = (r.kind.needsLock || decide (100 ≤ max p0 (max p1 p2))) ∧ CabinetFrame s t

/-- HUMIDITY_SAMPLE: a reading of 0.0 to 100.0 % joins the ring, whose oldest of 61 it pushes out, and withdraws HUMIDITY_FAULT; any
other empties the ring, raises it and leaves the dry watch as it was (R51, R52). -/
def Obligations.HumidityReadingFeedsRing : Prop :=
  ∀ (rh : Int) (s : State),
    Live s → FaultsOrdered s.faults →
      ∃ t, exec (.humiditySample rh) s = .next t ∧
        (0 ≤ rh ∧ rh ≤ 200 →
          t.climate.humidityValid = true ∧ t.faults.holds .humidityFault = false ∧
            t.climate.ring = (if 61 ≤ s.climate.ring.length then s.climate.ring.drop 1 else s.climate.ring) ++ [rh.toNat]) ∧
        (¬(0 ≤ rh ∧ rh ≤ 200) →
          t.climate.humidityValid = false ∧ t.faults.holds .humidityFault = true ∧ t.climate.ring = [] ∧
            (LockWatched s →
              t.climate.watch = s.climate.watch ∧ t.climate.peak = s.climate.peak ∧
                t.climate.dryPoint = s.climate.dryPoint)) ∧
        t.climate.tr = s.climate.tr ∧ t.climate.tmax = s.climate.tmax ∧ t.climate.overTemp = s.climate.overTemp ∧
        CabinetFrame s t

/-- The dry watch: its timers pass it from WARM_UP to TRACKING to TESTING; a sample in TRACKING only raises the peak and one in WARM_UP
does nothing to it. In TESTING a sample that passes the test ends a RUNNING DRY phase, the water level adequate or low, and is
remembered by a HELD one; one above
the peak less the drop, one more than 2.0 % below the oldest of the full ring, and one that leaves fewer than 61 in the ring only
raise the peak (R27, R54 to R56). -/
def Obligations.DryPointEndsDryPhase : Prop :=
  ∀ (v : Nat) (r : Record) (s : State),
    Live s →
      (s.climate.warmUp.isSome = true →
          exec .warmUpExpiry s =
            .next { s with climate := { s.climate with watch := .tracking, warmUp := none, tracking := some 60000 } }) ∧
        (s.climate.tracking.isSome = true →
          exec .trackingExpiry s = .next { s with climate := { s.climate with watch := .testing, tracking := none } }) ∧
        (v ≤ 200 → s.cycle.kind = some .dry → s.climate.humidityValid = true → s.faults.holds .humidityFault = false →
          s.climate.ring.length ≤ 61 → FaultsOrdered s.faults →
            (s.climate.watch = .testing → 60 ≤ s.climate.ring.length →
              (v : Int) + (s.climate.drop.getD 0 : Nat) ≤ (max s.climate.peak v : Nat) →
                (((s.climate.ring.drop (s.climate.ring.length - 60)).headD 0 : Nat) : Int) - v ≤ 4 →
                  (s.cycle.st = .running → s.faults.blocking = false →
                    readRom s.cycle.programme (s.cycle.index + 1) = some r → r.kind = .cool →
                      ∃ t, exec (.humiditySample v) s = .next t ∧
                        t.cycle.st = .running ∧ t.cycle.index = s.cycle.index + 1 ∧ t.cycle.record = some r ∧
                        t.cycle.remaining = 60 * r.minutes ∧ t.request.want = 0 ∧ t.request.cls = 0 ∧
                        WatchIsOff t.climate ∧ t.faults = s.faults ∧ CabinetFrame s t) ∧
                    (s.cycle.st = .held → LockWatched s →
                      ∃ t, exec (.humiditySample v) s = .next t ∧
                        t.climate.watch = .found ∧ t.climate.dryPoint = true ∧ t.climate.peak = max s.climate.peak v ∧
                        t.cycle = s.cycle ∧ t.faults = s.faults ∧ CabinetFrame s t)) ∧
              (s.climate.watch = .testing → s.climate.dryPoint = false → LockWatched s →
                ((max s.climate.peak v : Nat) < (v : Int) + (s.climate.drop.getD 0 : Nat) ∨ s.climate.ring.length < 60 ∨
                    4 < (((s.climate.ring.drop (s.climate.ring.length - 60)).headD 0 : Nat) : Int) - v) →
                  ∃ t, exec (.humiditySample v) s = .next t ∧
                    t.climate.watch = .testing ∧ t.climate.dryPoint = false ∧ t.climate.peak = max s.climate.peak v ∧
                    t.cycle = s.cycle ∧ t.faults = s.faults ∧ CabinetFrame s t) ∧
              (s.climate.watch = .tracking ∨ s.climate.watch = .warmUp → s.climate.dryPoint = false → LockWatched s →
                ∃ t, exec (.humiditySample v) s = .next t ∧
                  t.climate.watch = s.climate.watch ∧ t.climate.dryPoint = false ∧
                  t.climate.peak = (if s.climate.watch = .tracking then max s.climate.peak v else s.climate.peak) ∧
                  t.climate.warmUp = s.climate.warmUp ∧ t.climate.tracking = s.climate.tracking ∧
                  t.climate.drop = s.climate.drop ∧ t.cycle = s.cycle ∧ t.faults = s.faults ∧ CabinetFrame s t))

/-! ## Mains -/

/-- AMPLITUDE_SENSE_READING raises the current peak. In LEARNING each taken ZERO_CROSS closes a half-cycle into the record; the 16th
judges the attempt: success at 50 or 60 Hz starts the joining, in MAINS_RUNNING with its first half-cycle event, or in LOST with the
resume timer started where MAINS_LOST has been raised, and a failure raises MAINS_LOST; one within 5 ms of the last is ignored
(R138, R140, R111). -/
def Obligations.LearningMeasuresMains : Prop :=
  ∀ (steps : Fin 1024) (since dominant w : Nat) (s : State),
    Live s →
      exec (.amplitudeSenseReading steps) s =
          .next { s with feeder := { s.feeder with peak := max s.feeder.peak steps.val } } ∧
        (s.feeder.crossed = true → since < 5000 → exec (.zeroCross since dominant) s = .next s) ∧
        (s.feeder.st = .learning → 5000 ≤ since →
          (s.feeder.halfOpen = true → s.feeder.intervals.length < 15 →
              exec (.zeroCross since dominant) s =
                .next
                  { s with
                    feeder :=
                      { s.feeder with
                        intervals := s.feeder.intervals ++ [since], peaks := s.feeder.peaks ++ [s.feeder.peak], peak := 0
                        crossed := true, watchdog := some 40 } }) ∧
            (s.feeder.halfOpen = false →
              exec (.zeroCross since dominant) s =
                .next
                  { s with feeder := { s.feeder with halfOpen := true, peak := 0, crossed := true, watchdog := some 40 } }) ∧
            (s.feeder.halfOpen = true → s.feeder.intervals.length = 15 →
              100 ≤ (s.feeder.peaks.sum + s.feeder.peak) / 16 →
                (w = 100 ∧ 9000 ≤ (s.feeder.intervals.sum + since) / 16 ∧ (s.feeder.intervals.sum + since) / 16 ≤ 11000) ∨
                    (w = 120 ∧ 7500 ≤ (s.feeder.intervals.sum + since) / 16 ∧
                      (s.feeder.intervals.sum + since) / 16 ≤ 8999) →
                  ∃ t, exec (.zeroCross since dominant) s = .next t ∧
                    t.feeder.window = some w ∧
                    t.feeder.nominal = some ((s.feeder.peaks.sum + s.feeder.peak) / 16) ∧ t.feeder.peak = 0 ∧
                    t.feeder.watchdog = some 40 ∧
                    (s.faults.holds .mainsLost = false →
                      t.feeder.st = .running ∧ t.feeder.halfOpen = true ∧ t.feeder.resume = s.feeder.resume ∧
                        t.loads.position = if s.loads.position + 1 < w then s.loads.position + 1 else 0) ∧
                    (s.faults.holds .mainsLost = true →
                      t.feeder.st = .lost ∧ t.feeder.halfOpen = false ∧ t.feeder.resume = some 1000 ∧ KeepsGates s t) ∧
                    t.member.st = .joinListen ∧ t.share.period = some s.straps.periodMs ∧ t.share.allowance = 0 ∧
                    (s.framer.st = .silent → t.framer.st = .listen) ∧ t.faults = s.faults ∧ t.climate = s.climate ∧
                    t.table = s.table ∧ t.request = s.request ∧ KeepsPhase s t ∧ KeepsInputs s t) ∧
            (s.feeder.halfOpen = true → s.feeder.intervals.length = 15 →
              ((s.feeder.peaks.sum + s.feeder.peak) / 16 < 100 ∨ (s.feeder.intervals.sum + since) / 16 < 7500 ∨
                11000 < (s.feeder.intervals.sum + since) / 16) →
                ∃ t, exec (.zeroCross since dominant) s = .next t ∧
                  t.feeder =
                    { s.feeder with intervals := [], peaks := [], peak := 0, crossed := true, watchdog := some 40 } ∧
                  t.faults.holds .mainsLost = true ∧ t.table = s.table ∧ KeepsReadings s t ∧ KeepsStanding s t ∧
                  KeepsInputs s t))

/-- A taken ZERO_CROSS in MAINS_RUNNING that closes no half-cycle, or one that is not low, hands a half-cycle event: at position 0 the
counts are taken from the levels, each load fires where floor((k + 1) × n / W) exceeds floor(k × n / W), and the position moves on
(R142, R144, R153, R154). -/
def Obligations.HalfCycleFiresLoads : Prop :=
  ∀ (since dominant w n hc sc : Nat) (s : State),
    Live s → s.feeder.st = .running → 5000 ≤ since → s.feeder.window = some w → s.feeder.nominal = some n →
      (s.feeder.halfOpen = false ∨ 88 * n ≤ 100 * s.feeder.peak) →
        hc = (if s.loads.position = 0 then s.loads.heaterLevel * w / 30 else s.loads.heaterCount) →
          sc = (if s.loads.position = 0 then s.loads.steamLevel * w / 20 else s.loads.steamCount) →
            exec (.zeroCross since dominant) s =
              .next
                { s with
                  feeder :=
                    { s.feeder with
                      halfOpen := true, sagRun := if s.feeder.halfOpen then 0 else s.feeder.sagRun, peak := 0
                      crossed := true, watchdog := some 40 }
                  loads :=
                    { s.loads with
                      heaterCount := hc, steamCount := sc
                      heaterGate := decide (s.loads.position * hc / w < (s.loads.position + 1) * hc / w)
                      steamGate := decide (s.loads.position * sc / w < (s.loads.position + 1) * sc / w)
                      position := if s.loads.position + 1 < w then s.loads.position + 1 else 0 } }

/-- A low half-cycle, one whose peak is below 88 % of the nominal peak, raises the sag run count up to 3. At 3 with the arm set the
station originates a shed mark: the framer drives it unless SILENT, STUCK or already under 8 ms of dominance, and outside STANDBY
the hold starts at 3 with the arm cleared and the allowance capped (R98, R136, R144 to R146). The half-cycle event follows as at any
taken zero-cross, on the levels and the counts that the capped allowance leaves (R142, R153 to R155). That the framer's state and the
membership items stand as they were at the request, in SENDING too, since the own attempt ends only when the mark is classified, is
log entry 12's. -/
def Obligations.SagOriginatesShedMark : Prop :=
  ∀ (since dominant w n : Nat) (s : State),
    Live s → s.feeder.st = .running → 5000 ≤ since → s.feeder.window = some w → s.feeder.nominal = some n →
      s.feeder.halfOpen = true → 100 * s.feeder.peak < 88 * n →
        ∃ t, exec (.zeroCross since dominant) s = .next t ∧
          t.feeder = { s.feeder with sagRun := min (s.feeder.sagRun + 1) 3, peak := 0, crossed := true, watchdog := some 40 } ∧
          (s.feeder.sagRun < 2 ∨ s.share.arm = false → t.share = s.share ∧ t.framer = s.framer) ∧
          (2 ≤ s.feeder.sagRun → s.share.arm = true →
            t.framer.drive =
                (if s.framer.st = .silent ∨ s.framer.st = .stuck ∨ 8000 ≤ dominant then s.framer.drive
                  else some (.mark dominant)) ∧
              t.framer.st = s.framer.st ∧
              (s.member.st = .standby → t.share = s.share) ∧
              (s.member.st ≠ .standby →
                t.share.hold = 3 ∧ t.share.arm = false ∧ t.share.allowance ≤ s.straps.aIso ∧
                  t.share.grant ≤ s.straps.aIso ∧ (s.member.st = .member → t.share.allowance ≤ s.share.allowance))) ∧
          (s.feeder.sagRun < 2 ∨ s.share.arm = false ∨ s.member.st = .standby →
            t.loads.heaterLevel = s.loads.heaterLevel ∧ t.loads.steamLevel = s.loads.steamLevel) ∧
          t.loads.heaterCount =
            (if s.loads.position = 0 then t.loads.heaterLevel * w / 30
              else if s.feeder.sagRun < 2 ∨ s.share.arm = false ∨ s.member.st = .standby then s.loads.heaterCount
              else min s.loads.heaterCount (t.loads.heaterLevel * w / 30)) ∧
          t.loads.steamCount =
            (if s.loads.position = 0 then t.loads.steamLevel * w / 20
              else if s.feeder.sagRun < 2 ∨ s.share.arm = false ∨ s.member.st = .standby then s.loads.steamCount
              else min s.loads.steamCount (t.loads.steamLevel * w / 20)) ∧
          t.loads.heaterGate =
            decide (s.loads.position * t.loads.heaterCount / w < (s.loads.position + 1) * t.loads.heaterCount / w) ∧
          t.loads.steamGate =
            decide (s.loads.position * t.loads.steamCount / w < (s.loads.position + 1) * t.loads.steamCount / w) ∧
          t.loads.position = (if s.loads.position + 1 < w then s.loads.position + 1 else 0) ∧
          t.member = s.member ∧ t.table = s.table ∧ t.request = s.request ∧ t.climate = s.climate ∧
          t.faults = s.faults ∧ KeepsPhase s t ∧ KeepsInputs s t

/-- ZERO_CROSS_WATCHDOG_EXPIRY in MAINS_RUNNING enters LOST, raises MAINS_LOST and releases both gates; in LOST it stops the resume
timer, which a taken zero-cross starts. RESUME_TIMER_EXPIRY is the return to MAINS_RUNNING and withdraws MAINS_LOST
(R141 to R143, R156). -/
def Obligations.MainsLossAndReturn : Prop :=
  ∀ (since dominant : Nat) (s : State),
    Live s → FaultsOrdered s.faults →
      (s.feeder.watchdog.isSome = true → s.feeder.st = .running →
          ∃ t, exec .zeroCrossWatchdogExpiry s = .next t ∧
            t.feeder = { s.feeder with st := .lost, watchdog := none, halfOpen := false, sagRun := 0 } ∧
            t.faults.holds .mainsLost = true ∧ t.loads.heaterGate = false ∧ t.loads.steamGate = false ∧
            t.loads.position = 0 ∧ t.loads.heaterCount = 0 ∧ t.loads.steamCount = 0 ∧
            (s.faults.activeClass ≠ some .a →
              s.cycle.st = .running ∨ s.cycle.st = .held ∨ s.cycle.st = .paused ∨ s.cycle.st = .cancelCool →
                t.cycle = s.cycle.putAway .halted ∧ t.faults.code = 3) ∧
            t.table = s.table ∧ KeepsReadings s t ∧ KeepsStanding s t ∧ KeepsShedding s t ∧ KeepsInputs s t) ∧
        (s.feeder.watchdog.isSome = true → s.feeder.st = .learning →
          ∃ t, exec .zeroCrossWatchdogExpiry s = .next t ∧
            t.feeder = { s.feeder with watchdog := none, intervals := [], peaks := [], halfOpen := false } ∧
            t.faults.holds .mainsLost = true ∧ t.table = s.table ∧ KeepsReadings s t ∧ KeepsStanding s t ∧
            KeepsInputs s t) ∧
        (s.feeder.watchdog.isSome = true → s.feeder.st = .lost →
          exec .zeroCrossWatchdogExpiry s =
            .next { s with feeder := { s.feeder with watchdog := none, resume := none } }) ∧
        (s.feeder.st = .lost → 5000 ≤ since →
          exec (.zeroCross since dominant) s =
            .next
              { s with
                feeder :=
                  { s.feeder with
                    resume := if s.feeder.resume.isSome then s.feeder.resume else some 1000, peak := 0, crossed := true
                    watchdog := some 40 } }) ∧
        (s.feeder.resume.isSome = true →
          ∃ t, exec .resumeTimerExpiry s = .next t ∧
            t.feeder = { s.feeder with st := .running, resume := none, halfOpen := false, sagRun := 0 } ∧
            t.faults.holds .mainsLost = false ∧
            (s.cycle.st = .halted → t.cycle.st = .halted) ∧
            t.table = s.table ∧ KeepsReadings s t ∧ KeepsStanding s t ∧ KeepsShedding s t ∧ KeepsInputs s t)

/-! ## Load sharing -/

/-- SHARE_PERIOD_EXPIRY ages every entry of the Peer Table with its transitions, follows the known count with BANK_OVERFLOW, takes one
from a running shed hold, setting the arm at its end, and restarts the period (R69, R74, R80, R99). -/
def Obligations.PeriodAgesTableAndHold : Prop :=
  ∀ (i : Fin 16) (s : State),
    Live s → s.share.period.isSome = true → s.table.length = 16 → FaultsOrdered s.faults → RequestFresh s →
      LockWatched s →
        ∃ t, exec .sharePeriodExpiry s = .next t ∧
          t.table.length = 16 ∧
          t.table.getD i.val .empty =
            (match s.table.getD i.val .empty with
              | .empty => .empty
              | .active a n => if 3 ≤ min (n + 1) 255 then .stale a (min (n + 1) 255) else .active a (min (n + 1) 255)
              | .stale a n => if 8 ≤ min (n + 1) 255 then .empty else .stale a (min (n + 1) 255)
              | .quiet a n => if 20 ≤ min (n + 1) 255 then .empty else .quiet a (min (n + 1) 255)
              | .joining h n => if 6 ≤ min (n + 1) 255 then .empty else .joining h (min (n + 1) 255)) ∧
          OverflowFollows t ∧ t.share.hold = s.share.hold - 1 ∧ t.share.arm = (s.share.arm || decide (s.share.hold = 1)) ∧
          t.share.period = some s.straps.periodMs ∧ t.share.grant = grantOf t ∧ t.share.allowance ≤ t.share.grant ∧
          t.share.limit = s.share.limit ∧ t.share.limitTimer = s.share.limitTimer ∧ t.climate = s.climate ∧
          t.feeder = s.feeder ∧ t.request = s.request ∧ KeepsPhase s t ∧ KeepsGates s t ∧ t.straps = s.straps ∧
          t.lines = s.lines

/-- The cadence in MEMBER: an active expiry loads a DEMAND with the newest figures, a quiet one counts towards the eighth, which loads a
PRESENCE unless a DEMAND waits. While a notice is in flight the load is held over, the kind of higher rank of two, and slot, frame,
reference want and raise-ready timer stay as they were (R105, R107, R109, R110). -/
def Obligations.MemberSpeaksAtPeriod : Prop :=
  ∀ (s : State),
    Live s → s.share.period.isSome = true → s.member.st = .member → SlotFits s → FaultsOrdered s.faults → RequestFresh s →
      LockWatched s →
        ∃ t, exec .sharePeriodExpiry s = .next t ∧
          t.member.st = .member ∧
          (s.member.inFlight = false →
            (0 < s.request.want ∨ 0 < s.member.lastClaim →
              t.member.slot = some (newestDemand t) ∧ t.member.presence = 7 ∧ t.member.refWant = s.request.want ∧
                t.share.raiseReady = none) ∧
            (s.request.want = 0 → s.share.allowance = 0 → s.member.lastClaim = 0 →
              (s.member.presence < 7 →
                  t.member.presence = s.member.presence + 1 ∧ t.member.slot = s.member.slot ∧
                    t.member.refWant = s.member.refWant) ∧
                (7 ≤ s.member.presence →
                  t.member.presence = 0 ∧ t.member.refWant = 0 ∧ t.share.raiseReady = none ∧
                    t.member.slot =
                      some (match s.member.slot with | some (.demand _) => newestDemand t | _ => .presence))) ∧
            t.member.heldOver = s.member.heldOver) ∧
          (s.member.inFlight = true →
            (0 < s.request.want ∨ 0 < s.member.lastClaim →
              t.member = { s.member with heldOver := some .demand, presence := 7 }) ∧
            (s.request.want = 0 → s.share.allowance = 0 → s.member.lastClaim = 0 →
              t.member =
                if s.member.presence < 7 then { s.member with presence := s.member.presence + 1 }
                else
                  { s.member with
                    heldOver := some (if s.member.heldOver = some .demand then .demand else .presence), presence := 0 }) ∧
            t.framer = s.framer ∧ t.share.raiseReady = s.share.raiseReady) ∧
          t.framer.failures = s.framer.failures ∧ KeepsStanding s t ∧
          LineFrame s t

/-- JOIN_LISTEN and JOIN_HOLD count own period expiries: the second takes a nonce and loads a JOIN-ASK that carries it, or loads a
JOIN-CONFIRM with the nonce and the allowance held; the allowance stays 0 until JOIN_HOLD. It holds whatever the nonce (R111 to
R113; the nonce is a free value, log entry 5). -/
def Obligations.JoiningCountsPeriods : Prop :=
  ∀ (s : State),
    Live s → s.share.period.isSome = true → SlotFits s → FaultsOrdered s.faults → RequestFresh s → LockWatched s →
      (s.member.st = .joinListen ∨ s.member.st = .joinHold → s.member.periodCount = 0 →
          ∃ t, exec .sharePeriodExpiry s = .next t ∧
            t.member = { s.member with periodCount := 1 } ∧ t.framer = s.framer ∧ t.share.grant = grantOf s ∧
            t.share.allowance = t.share.grant) ∧
        (s.member.st = .joinListen → s.member.periodCount = 1 →
          ∃ t, exec .sharePeriodExpiry s = .next t ∧
            t.member.st = .joinAsk ∧ t.member.joinNonce.isSome = true ∧
            t.member.slot = t.member.joinNonce.map Notice.joinAsk ∧ t.member.heldOver = none ∧
            t.share.allowance = 0 ∧ t.share.grant = 0 ∧
            (s.framer.st = .listen → s.framer.drive = none →
              t.framer.st = (if s.framer.holdDone then .sending else .waiting)) ∧
            t.request = s.request) ∧
        (s.member.st = .joinHold → s.member.periodCount = 1 →
          ∃ t, exec .sharePeriodExpiry s = .next t ∧
            t.member.st = .joinConfirm ∧ t.member.joinNonce = s.member.joinNonce ∧
            t.member.slot = some (.joinConfirm (s.member.joinNonce.getD 0) t.share.allowance) ∧
            t.share.allowance = min s.request.want s.straps.aIso ∧ t.request = s.request)

/-- RAISE_READY_EXPIRY runs a computation and sets the allowance to the lesser of the target claim and the grant; ISOLATION_LIMIT_EXPIRY
lifts the isolation limit, which in ISOLATED frees the allowance up to the isolated allowance (R94, R96, R97); a
stopped timer has no expiry (log entry 1). -/
def Obligations.RaiseAndLimitTimers : Prop :=
  ∀ (r : RaiseReady) (s : State),
    Live s →
      (s.share.raiseReady = some r →
          ∃ t, exec .raiseReadyExpiry s = .next t ∧
            t.share = { s.share with grant := grantOf s, allowance := min r.target (grantOf s), raiseReady := none } ∧
            t.member = s.member ∧ t.framer = s.framer ∧ t.table = s.table ∧ t.request = s.request ∧
            t.climate = s.climate ∧ t.faults = s.faults ∧ t.feeder = s.feeder ∧ KeepsPhase s t ∧ KeepsGates s t ∧
            KeepsInputs s t) ∧
        (s.share.raiseReady = none → exec .raiseReadyExpiry s = .next s) ∧
        (s.share.limitTimer.isSome = true →
          ∃ t, exec .isolationLimitExpiry s = .next t ∧
            t.share.limit = none ∧ t.share.limitTimer = none ∧ t.share.raiseReady = s.share.raiseReady ∧
            (s.member.st = .isolated →
              t.share.grant = min s.request.want s.straps.aIso ∧ t.share.allowance = t.share.grant) ∧
            (s.member.st = .member →
              t.share.grant = grantOf s ∧ t.share.allowance = min s.share.allowance (grantOf s)) ∧
            t.member = s.member ∧ t.framer = s.framer ∧ t.table = s.table ∧ t.request = s.request ∧
            t.climate = s.climate ∧ t.faults = s.faults ∧ t.feeder = s.feeder ∧ KeepsPhase s t ∧ KeepsGates s t ∧
            KeepsInputs s t) ∧
        (s.share.limitTimer = none → exec .isolationLimitExpiry s = .next s)

/-- The fill gives no participant more than its want, and its shares never sum to more than the pool (R85, R86). -/
def Obligations.FillStaysWithinPool : Prop :=
  ∀ (q : Nat) (u : List Participant),
    (∀ p ∈ u, 0 < p.weight) → (u.map Participant.addr).Nodup →
      ((fill q u).map Prod.snd).sum ≤ q ∧ ∀ p ∈ u, shareOf p.addr (fill q u) ≤ p.want

/-- A grant in MEMBER fits on the feeder beside the control reserve, every reservation for a joining, stale or missing peer, and all
that the ACTIVE peers claim or draw; and it never exceeds the want (R83, R87, R88). -/
def Obligations.GrantFitsBesidePeers : Prop :=
  ∀ (s : State),
    s.member.st = .member → 0 < grantOf s →
      grantOf s + headReserved s.table + poolReserved s.straps.aIso s.table +
            missingCount s.straps.bankSize s.table * s.straps.aIso + 4 ≤ s.straps.capacity ∧
        grantOf s ≤ s.request.want ∧ grantOf s ≤ 48 ∧ (0 < s.share.hold → grantOf s ≤ s.straps.aIso)

/-- Under one count n the half-cycles fired before position j number floor(j × n / W), so a window fires exactly n; and a window that
is lowered to n2 at position j fires no more than the n it began with (R154, R155). -/
def Obligations.FiringSpreadsEvenly : Prop :=
  ∀ (n n2 w j : Nat),
    0 < w → n ≤ w → n2 ≤ n → j ≤ w →
      ((List.range j).filter (fires n w)).length = j * n / w ∧
        ((List.range j).filter (fires n w)).length +
            (((List.range w).filter fun k => decide (j ≤ k)).filter (fires n2 w)).length ≤ n

/-! ## The Share Line -/

/-- A frame built from a notice within its ranges reads back as that notice from that address, every field bit for bit
(R127, R128). -/
def Obligations.FrameReadsBackWhole : Prop :=
  ∀ (addr : Fin 16) (n : Notice),
    NoticeInRange n → decodeFrame (frameBits addr.val n) = some (noticeCommand addr n)

/-- Between two frames sent together the first bit in which they differ is a 0 in the frame of the lower kind value, or of the lower
address within one kind: that frame keeps the line (R131). -/
def Obligations.LowerFrameWinsArbitration : Prop :=
  ∀ (a b : Fin 16) (m n : Notice),
    m.kind.code < n.kind.code ∨ (m.kind = n.kind ∧ a < b) →
      ∃ i, (frameBits a.val m).take i = (frameBits b.val n).take i ∧ (frameBits a.val m)[i]? = some false ∧
        (frameBits b.val n)[i]? = some true

/-- IDLE_HOLD_EXPIRY in WAITING takes the slot's contents and drives the start pulse; in LISTEN it notes the idle line.
ARBITRATION_LOST on a 1 bit leaves the driver released and the framer receiving the winner's frame with the lost bit as a 0, no
failure counted and the notice kept; a 0 bit cannot lose (R129 to R131; the last by log entry 1). -/
def Obligations.SendingAndArbitration : Prop :=
  ∀ (n : Notice) (x : Sending) (bit : Nat) (s : State),
    Live s →
      (s.framer.idleHold.isSome = true → s.framer.st = .waiting → s.member.slot = some n →
          exec .idleHoldExpiry s =
            .next
              { s with
                framer :=
                  { s.framer with
                    st := .sending, sending := some ⟨n, frameBits s.straps.address n, 0⟩, drive := some .start
                    idleHold := some 12, holdDone := false, lineFreed := some 100 }
                member := { s.member with inFlight := true } }) ∧
        (s.framer.idleHold.isSome = true → s.framer.st = .listen →
          exec .idleHoldExpiry s = .next { s with framer := { s.framer with idleHold := none, holdDone := true } }) ∧
        (s.framer.st = .sending → s.framer.marking = false → s.framer.sending = some x →
          (x.bits[bit]? = some true →
              ∃ t, exec (.arbitrationLost bit) s = .next t ∧
                t = { s with framer := t.framer } ∧ t.framer.st = .receiving ∧ t.framer.sending = none ∧
                t.framer.lost = true ∧ t.framer.failures = s.framer.failures ∧ t.framer.idleHold = some 12 ∧
                t.framer.lineFreed = some 100 ∧ t.framer.drive = none ∧
                t.framer.reception.map Reception.bits = some (x.bits.take bit ++ [false]) ∧
                (2 ≤ bit → t.framer.reception.bind Reception.expected =
                  match valueOf ((x.bits.take bit ++ [false]).take 3) with
                  | 1 => some 15 | 2 => some 38 | 3 => some 23 | 4 => some 29 | 5 => some 15 | _ => none)) ∧
            (x.bits[bit]? ≠ some true → exec (.arbitrationLost bit) s = .next s))

/-- A received notice sets the entry at its address by its kind alone, whatever the entry was, with age 0; power fields above 48 are
taken as 48; a JOIN-ASK reserves the greater of the isolated allowance and an ACTIVE or STALE entry's claim and draw; a LEAVE
empties the entry. BANK_OVERFLOW follows the known count of the new table (R74). The grant reads that table, and then the own slot
takes the end of the frame: a waiting notice is refreshed, a load held over behind a lost attempt is applied, and the framer comes
to rest (R63 to R68, R75, R78, R93, R106, R107, R123,
R128). -/
def Obligations.ReceivedNoticeSetsEntry : Prop :=
  ∀ (addr : Fin 16) (cls : Fin 4) (boost : Fin 8) (want claim draw held : Fin 64) (nonce : Fin 256) (s : State),
    Live s → addr.val ≠ s.straps.address → s.framer.st = .listen ∨ s.framer.st = .waiting ∨ s.framer.st = .receiving →
      FaultsOrdered s.faults → RequestFresh s → LockWatched s →
        (∃ t, exec (.receiveDemand addr cls boost want claim draw) s = .next t ∧
            t.table =
              s.table.set addr.val
                (.active ⟨cls.val, boost.val, min want.val 48, min claim.val 48, min draw.val 48⟩ 0) ∧
            OverflowFollows t ∧ t.share.grant = grantOf t ∧ t.share.allowance ≤ t.share.grant ∧ t.member.st = s.member.st ∧
            FrameEnded s t ∧ LineFrame s t) ∧
          (∃ t, exec (.receivePresence addr) s = .next t ∧
            t.table = s.table.set addr.val (.quiet ⟨0, 0, 0, 0, 0⟩ 0) ∧ OverflowFollows t ∧ t.share.grant = grantOf t ∧
            t.share.allowance ≤ t.share.grant ∧ t.member.st = s.member.st ∧ FrameEnded s t ∧ LineFrame s t) ∧
          (∃ t, exec (.receiveJoinAsk addr nonce) s = .next t ∧
            t.table =
              s.table.set addr.val
                (.joining
                  (max s.straps.aIso
                    (match s.table.getD addr.val .empty with
                      | .active a _ => max a.claim a.draw
                      | .stale a _ => max a.claim a.draw
                      | .empty => 0
                      | .joining _ _ => 0
                      | .quiet _ _ => 0))
                  0) ∧
            OverflowFollows t ∧ t.share.grant = grantOf t ∧ t.share.allowance ≤ t.share.grant ∧
            t.member.st = s.member.st ∧ FrameEnded s t ∧ LineFrame s t) ∧
          (∃ t, exec (.receiveJoinConfirm addr nonce held) s = .next t ∧
            t.table = s.table.set addr.val (.active ⟨0, 0, 0, min held.val 48, min held.val 48⟩ 0) ∧
            OverflowFollows t ∧ t.share.grant = grantOf t ∧ t.share.allowance ≤ t.share.grant ∧
            t.member.st = s.member.st ∧ FrameEnded s t ∧ LineFrame s t) ∧
          ∃ t, exec (.receiveLeave addr) s = .next t ∧
            t.table = s.table.set addr.val .empty ∧ OverflowFollows t ∧ t.share.grant = grantOf t ∧ t.share.allowance ≤ t.share.grant ∧
            t.member.st = s.member.st ∧ FrameEnded s t ∧ LineFrame s t

/-- A notice of any kind with the own address is never entered in the table: in a joining state it sends the station to DUPLICATE with
ADDRESS_CONFLICT and no allowance; a member defends its address against a JOIN-ASK, with its own notice in flight as a load held over
and applied at the end of that frame, and goes to DUPLICATE on every other kind; in ISOLATED and DUPLICATE it changes nothing but
the framer's timers and line free, and in LEAVING it only refreshes the LEAVE
(R63, R106, R107, R114, R115). -/
def Obligations.OwnAddressDefendedOrGivenUp : Prop :=
  ∀ (c : Instr) (k : NoticeKind) (s : State),
    Live s → noticeFrom s.straps.address c = some k →
      s.framer.st = .listen ∨ s.framer.st = .waiting ∨ s.framer.st = .receiving →
        (s.member.st = .joinListen ∨ s.member.st = .joinAsk ∨ s.member.st = .joinHold ∨ s.member.st = .joinConfirm ∨
            (s.member.st = .member ∧ k ≠ .joinAsk) →
          ∃ t, exec c s = .next t ∧
            t.member.st = .duplicate ∧ t.member.slot = none ∧ t.member.heldOver = none ∧ t.member.inFlight = false ∧
            t.member.joinNonce = none ∧ t.share.allowance = 0 ∧ t.share.grant = 0 ∧
            (s.member.st = .member → t.share.raiseReady = none) ∧
            t.faults.holds .addressConflict = true ∧ t.framer.st = .listen ∧ t.table = s.table ∧ t.feeder = s.feeder ∧
            KeepsShedding s t ∧ KeepsReadings s t ∧ KeepsInputs s t) ∧
        (s.member.st = .member → k = .joinAsk → s.member.inFlight = false → SlotFits s →
          ∃ t, exec c s = .next t ∧
            t.member.st = .member ∧ t.table = s.table ∧ t.faults = s.faults ∧ t.framer.st = .waiting ∧
            (0 < s.request.want ∨ 0 < s.member.lastClaim → t.member.slot = some (newestDemand t)) ∧
            (s.request.want = 0 → s.share.allowance = 0 → s.member.lastClaim = 0 →
              t.member.presence = 0 ∧ t.member.refWant = 0 ∧
                t.member.slot =
                  some (match s.member.slot with | some (.demand _) => newestDemand t | _ => .presence)) ∧
            KeepsStanding s t ∧ KeepsShedding s t ∧ LineFrame s t) ∧
        (s.member.st = .member → k = .joinAsk → s.member.inFlight = true → SlotFits s →
          ∃ t, exec c s = .next t ∧
            t.member.st = .member ∧ t.member.inFlight = false ∧ t.member.heldOver = none ∧ t.share.raiseReady = none ∧
            t.table = s.table ∧ t.faults = s.faults ∧ t.framer.st = .waiting ∧ t.framer.failures = s.framer.failures ∧
            (0 < s.request.want ∨ 0 < s.share.allowance ∨ 0 < s.member.lastClaim ∨ s.member.heldOver = some .demand →
              t.member.slot = some (newestDemand t) ∧ t.member.refWant = s.request.want ∧ t.member.presence = 7) ∧
            (s.request.want = 0 → s.share.allowance = 0 → s.member.lastClaim = 0 → s.member.heldOver ≠ some .demand →
              t.member.presence = 0 ∧ t.member.refWant = 0 ∧
                t.member.slot =
                  some (match s.member.slot with | some (.demand _) => newestDemand t | _ => .presence)) ∧
            KeepsStanding s t ∧ KeepsShedding s t ∧ LineFrame s t) ∧
        (s.member.st = .leaving → s.member.slot = some .leave → s.member.heldOver = none →
          ∃ t, exec c s = .next t ∧
            t.member = { s.member with inFlight := false } ∧ t.framer.st = .waiting ∧ t.table = s.table ∧
            t.faults = s.faults ∧ t.share.allowance = 0 ∧ KeepsShedding s t ∧ LineFrame s t) ∧
        (s.member.st = .isolated ∨ s.member.st = .duplicate → s.member.slot = none → s.member.heldOver = none →
          ∃ t, exec c s = .next t ∧
            t =
              { s with
                framer := t.framer
                member :=
                  { s.member with
                    inFlight := false
                    lineFree := if s.member.st = .isolated then false else s.member.lineFree } } ∧
            t.framer.st = .listen ∧ t.framer.reception = none ∧ t.framer.idleHold = some 12)

/-- FRAME_DISCARDED, the end of a frame that is no notice, changes no entry; it refreshes a waiting notice with the newest figures,
and with an empty slot it does nothing to the sharing; after a lost arbitration it applies the held-over load (R63, R93, R104, R106,
R107). -/
def Obligations.DiscardRefreshesSlot : Prop :=
  ∀ (s : State),
    Live s → s.framer.st = .listen ∨ s.framer.st = .waiting ∨ s.framer.st = .receiving →
      (s.member.heldOver = none → s.member.slot = none →
          ∃ t, exec .frameDiscarded s = .next t ∧
            t =
              { s with
                framer := t.framer
                member :=
                  { s.member with
                    inFlight := false
                    lineFree := if s.member.st = .isolated then false else s.member.lineFree } } ∧
            t.framer.st = .listen ∧ t.framer.reception = none ∧ t.framer.failures = s.framer.failures ∧
            t.framer.idleHold = some 12) ∧
        (∀ a, s.member.heldOver = none → s.member.slot = some (.demand a) →
          ∃ t, exec .frameDiscarded s = .next t ∧
            t.member.slot = some (newestDemand t) ∧ t.member.refWant = s.request.want ∧ t.member.inFlight = false ∧
            t.share.raiseReady = none ∧ t.share.grant = grantOf s ∧ t.share.allowance ≤ grantOf s ∧
            t.framer.st = .waiting ∧ t.framer.failures = s.framer.failures ∧ t.table = s.table ∧
            t.faults = s.faults ∧ KeepsShedding s t ∧ LineFrame s t) ∧
        (s.member.heldOver.isSome = true → SlotFits s →
          ∃ t, exec .frameDiscarded s = .next t ∧
            HeldLoaded s t ∧ t.member.st = s.member.st ∧ t.framer.st = .waiting ∧ t.framer.failures = s.framer.failures ∧
            t.table = s.table ∧ t.faults = s.faults ∧ KeepsShedding s t ∧ LineFrame s t)

/-- NOTICE_COMPLETION by kind: each completion clears the failure count, records the claim, empties the slot
and sets the isolation limit; a DEMAND in MEMBER starts the raise-ready timer on its claim, a JOIN-ASK leads to JOIN_HOLD, a
JOIN-CONFIRM to MEMBER within its held value, a LEAVE to STANDBY and, with the return mark set, on to JOIN_LISTEN; a
held-over load is then loaded into the empty slot (R92, R94, R96, R107, R108, R112, R113, R118, R133). -/
def Obligations.CompletionActsByKind : Prop :=
  ∀ (n : Notice) (x : Sending) (s : State),
    Live s → s.framer.st = .sending → s.framer.marking = false → s.framer.sending = some x → x.notice = n →
        (∀ a, n = .demand a → s.member.st = .member → s.member.heldOver = none →
            exec .noticeCompletion s =
              .next
                { s with
                  framer := { s.framer with
                    st := .listen, failures := 0, reception := none, sending := none, lost := false, drive := none }
                  member := { s.member with lastClaim := a.claim, slot := none, inFlight := false }
                  share :=
                    { s.share with
                      limit := some a.claim, limitTimer := some 45000, raiseReady := some ⟨1000, a.claim⟩ } }) ∧
          (n = .presence → s.member.st = .member → s.member.heldOver = none →
            exec .noticeCompletion s =
              .next
                { s with
                  framer := { s.framer with
                    st := .listen, failures := 0, reception := none, sending := none, lost := false, drive := none }
                  member := { s.member with lastClaim := 0, slot := none, inFlight := false }
                  share := { s.share with limit := some 0, limitTimer := some 45000 } }) ∧
          (∀ k, n = .joinAsk k → s.member.st = .joinAsk → s.member.heldOver = none →
            ∃ t, exec .noticeCompletion s = .next t ∧
              t.member =
                { s.member with st := .joinHold, slot := none, inFlight := false, periodCount := 0, lastClaim := 0 } ∧
              t.share.allowance = min s.request.want s.straps.aIso ∧ t.share.limit = some 0 ∧
              t.share.limitTimer = some 45000 ∧ t.framer.st = .listen ∧ t.framer.failures = 0 ∧ t.table = s.table ∧
              t.faults = s.faults ∧ LineFrame s t) ∧
          (∀ k held, n = .joinConfirm k held → s.member.st = .joinConfirm → s.member.heldOver = none →
            FaultsOrdered s.faults → RequestFresh s → LockWatched s →
              ∃ t, exec .noticeCompletion s = .next t ∧
                t.member.st = .member ∧ t.member.joinNonce = none ∧ t.member.presence = 7 ∧ t.member.lastClaim = held ∧
                t.share.allowance ≤ held ∧ t.share.allowance ≤ s.share.allowance ∧ t.share.limit = some held ∧
                t.faults.holds .lineIsolated = false ∧ t.framer.failures = 0 ∧
                t.member.slot = (if 0 < s.request.want then some (newestDemand t) else none) ∧
                t.member.refWant = s.request.want ∧ t.table = s.table ∧ LineFrame s t) ∧
          (n = .leave → s.member.st = .leaving → FaultsOrdered s.faults → RequestFresh s → LockWatched s →
              ∃ t, exec .noticeCompletion s = .next t ∧
                LeftFor s t ∧ t.member.lastClaim = 0 ∧ t.framer.failures = 0 ∧ LineFrame s t) ∧
          (s.member.heldOver.isSome = true → SlotFits s → n ≠ .leave →
            ∃ t, exec .noticeCompletion s = .next t ∧
              HeldLoaded { s with member := { s.member with slot := none } } t ∧ t.member.st = s.member.st ∧
              t.member.lastClaim = (match n with | .demand a => a.claim | .joinConfirm _ held => held | _ => 0) ∧
              t.share.limit = some t.member.lastClaim ∧ t.share.limitTimer = some 45000 ∧ t.framer.st = .waiting ∧
              t.framer.failures = 0 ∧ t.framer.sending = none ∧ t.framer.drive = none ∧ t.table = s.table ∧
              t.faults = s.faults ∧ LineFrame s t)

/-- ATTEMPT_FAILED counts one failure and keeps the notice, refreshed; the eighth in a row, and LINE_STUCK, take a joining station or a
member to ISOLATED with an empty slot and a leaving one to STANDBY; in ISOLATED LINE_STUCK clears line free and leaves the dwell
running. In LEAVING a set return mark leads on to JOIN_LISTEN. A failure below the limit applies a held-over load. LINE_STUCK_RELEASE
lets the framer listen again (R104, R107, R118, R119, R132, R134, R135). That both timers of the framer are stopped in STUCK is the
model's choice (log entry 25); that the framer of a station that LINE_STUCK takes through STANDBY to JOIN_LISTEN listens afresh, the
line still dominant, is log entry 18's. -/
def Obligations.FailureLimitAndStuckLine : Prop :=
  ∀ (x : Sending) (a : Announce) (s : State),
    Live s → FaultsOrdered s.faults → RequestFresh s → LockWatched s →
      (s.framer.st = .sending → s.framer.marking = false → s.framer.sending = some x → s.member.heldOver = none →
          s.member.slot = some (.demand a) → s.framer.failures < 7 →
            ∃ t, exec .attemptFailed s = .next t ∧
              t.framer.failures = s.framer.failures + 1 ∧ t.framer.st = .waiting ∧ t.framer.sending = none ∧
              t.framer.drive = none ∧
              t.member.slot = some (newestDemand t) ∧ t.member.inFlight = false ∧ t.member.st = s.member.st ∧
              t.member.lastClaim = s.member.lastClaim ∧ t.table = s.table ∧ t.faults = s.faults ∧ KeepsShedding s t ∧
              LineFrame s t) ∧
        (s.framer.st = .sending → s.framer.marking = false → s.framer.sending = some x → s.framer.failures = 7 →
          s.member.st = .joinAsk ∨ s.member.st = .joinConfirm ∨ s.member.st = .member →
            ∃ t, exec .attemptFailed s = .next t ∧
              t.framer.failures = 8 ∧ t.framer.st = .listen ∧ t.member.st = .isolated ∧ t.member.slot = none ∧
              t.member.heldOver = none ∧ t.member.joinNonce = none ∧ t.member.dwell = some 5000 ∧
              t.member.lineFree = false ∧ t.faults.holds .lineIsolated = true ∧
              (s.member.st = .member → t.share.raiseReady = none) ∧
              t.share.allowance = t.share.grant ∧ t.share.allowance ≤ s.straps.aIso ∧ t.table = s.table ∧
              KeepsShedding s t ∧ LineFrame s t) ∧
        (s.framer.st ≠ .silent →
          s.member.st = .joinListen ∨ s.member.st = .joinAsk ∨ s.member.st = .joinHold ∨ s.member.st = .joinConfirm ∨
              s.member.st = .member →
            ∃ t, exec .lineStuck s = .next t ∧
              t.framer.st = .stuck ∧ t.framer.sending = none ∧ t.framer.reception = none ∧ t.framer.drive = none ∧
              t.framer.idleHold = none ∧
              t.framer.lineFreed = none ∧ t.framer.failures = s.framer.failures ∧ t.member.st = .isolated ∧
              t.member.slot = none ∧ t.member.dwell = some 5000 ∧ t.member.lineFree = false ∧
              t.faults.holds .lineIsolated = true ∧ t.share.allowance = t.share.grant ∧
              (∀ l, s.share.limit = some l → t.share.allowance ≤ l) ∧ t.share.allowance ≤ s.straps.aIso ∧
              t.table = s.table ∧ KeepsShedding s t ∧ LineFrame s t) ∧
        (s.framer.st = .sending → s.framer.marking = false → s.framer.sending = some x →
          s.member.heldOver.isSome = true → SlotFits s → s.framer.failures < 7 →
            ∃ t, exec .attemptFailed s = .next t ∧
              HeldLoaded s t ∧ t.framer.failures = s.framer.failures + 1 ∧ t.framer.st = .waiting ∧
              t.framer.sending = none ∧ t.framer.drive = none ∧ t.member.st = s.member.st ∧
              t.member.lastClaim = s.member.lastClaim ∧ t.table = s.table ∧ t.faults = s.faults ∧ KeepsShedding s t ∧
              LineFrame s t) ∧
        (s.framer.st = .sending → s.framer.marking = false → s.framer.sending = some x → s.framer.failures = 7 →
          s.member.st = .leaving →
            ∃ t, exec .attemptFailed s = .next t ∧
              LeftFor s t ∧ t.framer.failures = (if s.member.returnMark then 0 else 8) ∧
              t.member.lastClaim = s.member.lastClaim ∧
              t.faults.holds .lineIsolated = s.faults.holds .lineIsolated ∧ LineFrame s t) ∧
        (s.framer.st ≠ .silent → s.member.st = .isolated ∨ s.member.st = .duplicate →
          ∃ t, exec .lineStuck s = .next t ∧
            t =
              { s with
                framer := t.framer
                member :=
                  { s.member with
                    inFlight := false
                    lineFree := if s.member.st = .isolated then false else s.member.lineFree } } ∧
            t.framer.st = .stuck ∧ t.framer.sending = none ∧ t.framer.reception = none ∧ t.framer.drive = none ∧
            t.framer.idleHold = none ∧ t.framer.lineFreed = none ∧ t.framer.failures = s.framer.failures) ∧
        (s.framer.st ≠ .silent → s.member.st = .leaving →
          ∃ t, exec .lineStuck s = .next t ∧
            LeftFor s t ∧ t.framer.failures = (if s.member.returnMark then 0 else s.framer.failures) ∧
            t.member.lastClaim = s.member.lastClaim ∧
            t.faults.holds .lineIsolated = s.faults.holds .lineIsolated ∧ LineFrame s t) ∧
        (s.framer.st = .stuck →
          exec .lineStuckRelease s =
            .next
              { s with
                framer :=
                  { s.framer with
                    st := if s.member.slot.isSome then .waiting else .listen, idleHold := some 12, holdDone := false
                    lineFreed := some 100 } })

/-- SHED_MARK_SEEN: a peer's mark starts or restarts the shed hold at 3 and brings the allowance within the isolated allowance; the
station's own, one of which it drove any part, starts nothing more. Either ends the frame on the line, received or its own, with no
failure counted and no entry changed, releases the driver, and has the notice of that frame kept and refreshed, or the load held
over behind it applied (R98, R104, R106, R107, R136, R147); that the driven mark makes an interval own whatever the
operand says is log entry 12's, and that the hold of a peer's mark starts before the refresh, so that the refreshed DEMAND carries a
claim within the isolated allowance, is the model's choice between the two orders of R100 (log entry 9). -/
def Obligations.ShedMarkTightensAllowance : Prop :=
  ∀ (ownPulse inFrame : Bool) (s : State),
    Live s → s.framer.st = .listen ∨ s.framer.st = .waiting ∨ s.framer.st = .receiving ∨ s.framer.st = .sending →
      (s.framer.marking = false → ownPulse = false → s.member.st ≠ .standby →
          ∃ t, exec (.shedMarkSeen ownPulse inFrame) s = .next t ∧
            t.share.hold = 3 ∧ t.share.arm = s.share.arm ∧ t.share.allowance ≤ s.straps.aIso ∧
            (s.member.st = .member → t.share.allowance ≤ s.share.allowance) ∧ t.member.st = s.member.st ∧
            t.framer.failures = s.framer.failures ∧
            (s.framer.st = .receiving ∨ s.framer.st = .sending →
              t.framer.st = (if t.member.slot.isSome then .waiting else .listen) ∧ t.framer.drive = none ∧
                t.framer.reception = none ∧ t.framer.sending = none) ∧
            (∀ a, s.member.slot = some (.demand a) → s.member.heldOver = none →
              (s.member.inFlight = true ∨ s.framer.st = .receiving ∨ inFrame = true) →
                t.member.slot = some (newestDemand t) ∧ t.member.inFlight = false ∧
                  t.member.refWant = s.request.want ∧ t.share.raiseReady = none) ∧
            (s.member.heldOver.isSome = true → SlotFits s → HeldLoaded s t) ∧
            t.table = s.table ∧ t.faults = s.faults ∧ LineFrame s t) ∧
        (s.framer.marking = true ∨ ownPulse = true →
          ∃ t, exec (.shedMarkSeen ownPulse inFrame) s = .next t ∧
            KeepsShedding s t ∧ t.member.st = s.member.st ∧
            (s.member.st = .member → t.share.allowance ≤ s.share.allowance) ∧
            t.framer.failures = s.framer.failures ∧ t.table = s.table ∧ t.faults = s.faults ∧ LineFrame s t ∧
            (s.framer.st = .receiving ∨ s.framer.st = .sending →
              t.framer.st = (if t.member.slot.isSome then .waiting else .listen) ∧ t.framer.drive = none ∧
                t.framer.reception = none ∧ t.framer.sending = none) ∧
            (s.member.slot = none → s.member.heldOver = none →
              t.share = s.share ∧ t.framer.drive = none ∧ t.framer.idleHold = some 12 ∧ t.framer.lineFreed = some 100 ∧
                t.cycle = s.cycle ∧ t.loads = s.loads ∧ t.panel = s.panel) ∧
            (∀ a, s.member.slot = some (.demand a) → s.member.heldOver = none →
              (s.member.inFlight = true ∨ s.framer.st = .receiving ∨ inFrame = true) →
                t.member.slot = some (newestDemand t) ∧ t.member.inFlight = false ∧
                  t.member.refWant = s.request.want ∧ t.share.raiseReady = none) ∧
            (s.member.heldOver.isSome = true → SlotFits s → HeldLoaded s t) ∧
            (s.member.inFlight = false → inFrame = false → s.framer.st = .listen ∨ s.framer.st = .waiting →
              t.member.slot = s.member.slot ∧ t.share = s.share))

/-- ISOLATED is left for JOIN_LISTEN at the first moment at which the dwell has expired and the line is free: at
ISOLATION_DWELL_EXPIRY with line free set, or at LINE_FREED after it; before that each only makes its mark (R62, R120, R135). That
line free is clear after the exit is the model's choice (log entry 16). -/
def Obligations.IsolationEndsOnFreeLine : Prop :=
  ∀ (s : State),
    Live s → s.member.st = .isolated → FaultsOrdered s.faults → RequestFresh s → LockWatched s →
      (s.member.dwell.isSome = true → s.member.lineFree = false →
          exec .isolationDwellExpiry s = .next { s with member := { s.member with dwell := none } }) ∧
        (s.framer.st ≠ .silent → s.framer.lineFreed.isSome = true → s.member.dwell.isSome = true →
          exec .lineFreed s =
            .next
              { s with framer := { s.framer with lineFreed := none }, member := { s.member with lineFree := true } }) ∧
        (s.member.dwell.isSome = true → s.member.lineFree = true →
          ∃ t, exec .isolationDwellExpiry s = .next t ∧
            t.member.st = .joinListen ∧ t.member.dwell = none ∧ t.member.lineFree = false ∧ t.member.periodCount = 0 ∧
            t.member.joinNonce = none ∧ t.table = emptyTable ∧ t.share.period = some s.straps.periodMs ∧
            t.share.allowance = 0 ∧ t.share.hold = s.share.hold ∧ t.framer.failures = 0 ∧
            t.faults.holds .lineIsolated = s.faults.holds .lineIsolated ∧ LineFrame s t) ∧
        (s.framer.st ≠ .silent → s.framer.lineFreed.isSome = true → s.member.dwell = none →
          ∃ t, exec .lineFreed s = .next t ∧
            t.member.st = .joinListen ∧ t.member.lineFree = false ∧ t.table = emptyTable ∧
            t.share.period = some s.straps.periodMs ∧ t.share.allowance = 0 ∧ t.framer.failures = 0 ∧ LineFrame s t)

/-! ## What every step keeps -/

/-- Every formed output stays as its inputs give it: fan and lock commands, levels, interlocks, draw, valve, starvation flag, lamps and
the counts of the running window. In every such state the allowance is divided steam first, at 8 units or more, the heater from
what is left, each within its part; a forced-off load is at 0; the starvation flag is set where a RUNNING phase lacks its treatment;
the fan runs by the table of R157, the proving drive in it; the lock command is the request, the valve opens by R159 and the counts
are lowered by R155; and the lamps are those of the table of R175, flashing in PAUSED and CANCEL_COOL, the WAIT lamp lit exactly
while RUNNING with the allowance below want (R21, R150, R151, R155, R157, R159, R160, R175). That a lamp that goes on flashing for
the same kind keeps its level and timer when the outputs are formed again is the model's choice (log entry 15). -/
def Obligations.StepKeepsOutputsSettled : Prop :=
  ∀ s, Settled s →
    (Live s → OutputsByRule s) ∧ ∀ t, step s = .next t → Settled t ∧ (Live t → OutputsByRule t)

/-- Want, class, boost and the fan, lock and valve requests stay what the cycle, the water level and Tmax give, row by row of the
tables: the steam and heater parts, the class of the phase kind, the fan level by cycle state, the lock in RUNNING and HELD of a
STEAM, SETTLE or FRESHEN phase, in CANCEL_COOL and at a Tmax of 50.0 °C or more, the valve in RUNNING of a STEAM or FRESHEN phase
(R22, R24, R25, R29 to R31). -/
def Obligations.StepKeepsRequestFresh : Prop :=
  ∀ s, RequestFresh s →
    (Live s → RequestTabled s) ∧ ∀ t, step s = .next t → RequestFresh t ∧ (Live t → RequestTabled t)

/-- Draw is the sum of the levels and within the allowance, each level is within its rating, and both are 0 with the door open, the
cycle neither RUNNING nor in CANCEL_COOL, or a class A or B fault active (R10, R11, R151). That they are 0 in reset too, where R149
releases the gates alone, is the model's choice (log entry 23). -/
def Obligations.StepKeepsLoadsSafe : Prop :=
  ∀ s t, RecordFromRom s → RequestInRange s.request → LoadsSafe s → step s = .next t →
    RecordFromRom t ∧ RequestInRange t.request ∧ LoadsSafe t

/-- The allowance never exceeds the most recently computed grant, and the grant never exceeds the want or the own ceiling (R90). -/
def Obligations.StepKeepsAllowanceInGrant : Prop :=
  ∀ s t, RecordFromRom s → RequestInRange s.request → AllowanceInGrant s → step s = .next t → AllowanceInGrant t

/-- The cycle's timers and context run in their states alone, a phase in hand has its record of the ROM, and the dry watch works in a
DRY phase that is RUNNING or HELD alone (R20, R37, R41, R53 to R57). -/
def Obligations.StepKeepsCycleFormed : Prop :=
  ∀ s t, RecordFromRom s → CycleFormed s → WatchFormed s → step s = .next t →
    RecordFromRom t ∧ CycleFormed t ∧ WatchFormed t

/-- At most one fault is active, each kind is held once, and none waits above the active one or out of the order of classes; the code
lines show the active fault or the history display (R164, R165). -/
def Obligations.StepKeepsFaultsOrdered : Prop :=
  ∀ s t, FaultsOrdered s.faults → CodeShown s → step s = .next t → FaultsOrdered t.faults ∧ CodeShown t

/-- In MEMBER the allowance never exceeds the claim of the last completed own notice, nor of a DEMAND loaded or being sent; and the
slot holds only what the membership state sends; a frame is being sent in SENDING alone (R94, R95, R102, R104, R107, R123,
R130). -/
def Obligations.StepKeepsClaimCovers : Prop :=
  ∀ s t, RequestFresh s → LockWatched s → MainsFormed s → BootQuiet s → SendingFits s → SlotFits s → ClaimCovers s →
    step s = .next t → SendingFits t ∧ SlotFits t ∧ ClaimCovers t

/-- The mains states hold what they need, MAINS_LOST throughout LOST and never in MAINS_RUNNING; until learning completes the station
stays in STANDBY; power is 0 where R89 gives none; under a shed hold, and outside MEMBER, the allowance stays within the
isolated allowance; and the strap pins are inputs while the strap window is open and outputs afterwards (R17, R89, R91, R98, R139
to R143, R172). -/
def Obligations.StepKeepsMainsAndIsoCap : Prop :=
  ∀ s t, FaultsOrdered s.faults → MainsFormed s → BootQuiet s → PowerlessOutside s → IsoCapped s → StrapsFormed s →
    step s = .next t → MainsFormed t ∧ BootQuiet t ∧ PowerlessOutside t ∧ IsoCapped t ∧ StrapsFormed t

/-- The fan is watched whenever it is commanded on, and its two outputs carry the command; the framer is SILENT in STANDBY and nowhere
else, and its driver drives a mark or the pulse at hand of the frame being sent alone (R118, R121 to R123, R130, R157, R158). That in
reset, where R149 releases the fan outputs alone, the fan command is off and unwatched is the model's choice (log entry 23). -/
def Obligations.StepKeepsFanAndSilence : Prop :=
  ∀ s t, FanWatched s → FanDriven s.loads → SilentInStandby s → DriverFits s → step s = .next t →
    FanWatched t ∧ FanDriven t.loads ∧ SilentInStandby t ∧ DriverFits t

/-- The lock-confirm timer runs, or LOCK_FAULT is held, exactly while sense and command differ (R160, R161). -/
def Obligations.StepKeepsLockWatched : Prop :=
  ∀ s t, FaultsOrdered s.faults → RequestFresh s → LockWatched s → step s = .next t → LockWatched t

/-- The Peer Table keeps sixteen entries, each within its ranges and with an age its state allows, a held reservation from the isolated
allowance up, and none for the own address (R61 to R63, R69); and every counter and store that the state tables of sections 2.1, 3.1,
5.1, 6.2, 7.2, 8.1 and 10.2 give a range stays within it, the history records with the codes 1 to 4 of class A faults among them
(R22, R47, R51, R96, R98, R108 to R111, R134, R140, R144, R164, R169). -/
def Obligations.StepKeepsRanges : Prop :=
  ∀ s t, FaultsOrdered s.faults → MainsFormed s → SilentInStandby s → BootQuiet s → TableFormed s → RecordFromRom s →
    RequestInRange s.request → CountsInRange s → step s = .next t → TableFormed t ∧ CountsInRange t
end

