-- ==== Sys2Proof/Laws/State.lean ====
section
/-! SUPPORT. State laws: one lemma for each field of each named update, so that no later proof unfolds a record update. An update
of the whole state has a lemma for each block it leaves alone. -/

namespace Sys2Proof.Machine

/-! ## Updates of the framer -/

@[simp] theorem touchLine_st (f : Framer) : (touchLine f).st = f.st := rfl
@[simp] theorem touchLine_idleHold (f : Framer) : (touchLine f).idleHold = some 12 := rfl
@[simp] theorem touchLine_holdDone (f : Framer) : (touchLine f).holdDone = false := rfl
@[simp] theorem touchLine_lineFreed (f : Framer) : (touchLine f).lineFreed = some 100 := rfl
@[simp] theorem touchLine_failures (f : Framer) : (touchLine f).failures = f.failures := rfl
@[simp] theorem touchLine_reception (f : Framer) : (touchLine f).reception = f.reception := rfl
@[simp] theorem touchLine_sending (f : Framer) : (touchLine f).sending = f.sending := rfl
@[simp] theorem touchLine_lost (f : Framer) : (touchLine f).lost = f.lost := rfl
@[simp] theorem touchLine_drive (f : Framer) : (touchLine f).drive = f.drive := rfl
@[simp] theorem framerSilent_st (f : Framer) : (framerSilent f).st = .silent := rfl
@[simp] theorem framerSilent_idleHold (f : Framer) : (framerSilent f).idleHold = none := rfl
@[simp] theorem framerSilent_holdDone (f : Framer) : (framerSilent f).holdDone = false := rfl
@[simp] theorem framerSilent_lineFreed (f : Framer) : (framerSilent f).lineFreed = none := rfl
@[simp] theorem framerSilent_failures (f : Framer) : (framerSilent f).failures = f.failures := rfl
@[simp] theorem framerSilent_reception (f : Framer) : (framerSilent f).reception = none := rfl
@[simp] theorem framerSilent_sending (f : Framer) : (framerSilent f).sending = none := rfl
@[simp] theorem framerSilent_lost (f : Framer) : (framerSilent f).lost = false := rfl
@[simp] theorem framerSilent_drive (f : Framer) : (framerSilent f).drive = none := rfl
@[simp] theorem framerStuck_st (f : Framer) : (framerStuck f).st = .stuck := rfl
@[simp] theorem framerStuck_idleHold (f : Framer) : (framerStuck f).idleHold = none := rfl
@[simp] theorem framerStuck_holdDone (f : Framer) : (framerStuck f).holdDone = false := rfl
@[simp] theorem framerStuck_lineFreed (f : Framer) : (framerStuck f).lineFreed = none := rfl
@[simp] theorem framerStuck_failures (f : Framer) : (framerStuck f).failures = f.failures := rfl
@[simp] theorem framerStuck_reception (f : Framer) : (framerStuck f).reception = none := rfl
@[simp] theorem framerStuck_sending (f : Framer) : (framerStuck f).sending = none := rfl
@[simp] theorem framerStuck_lost (f : Framer) : (framerStuck f).lost = false := rfl
@[simp] theorem framerStuck_drive (f : Framer) : (framerStuck f).drive = none := rfl
@[simp] theorem Framer.stopFrame_st (f : Framer) : (Framer.stopFrame f).st = f.st := rfl
@[simp] theorem Framer.stopFrame_idleHold (f : Framer) : (Framer.stopFrame f).idleHold = f.idleHold := rfl
@[simp] theorem Framer.stopFrame_holdDone (f : Framer) : (Framer.stopFrame f).holdDone = f.holdDone := rfl
@[simp] theorem Framer.stopFrame_lineFreed (f : Framer) : (Framer.stopFrame f).lineFreed = f.lineFreed := rfl
@[simp] theorem Framer.stopFrame_failures (f : Framer) : (Framer.stopFrame f).failures = f.failures := rfl
@[simp] theorem Framer.stopFrame_reception (f : Framer) : (Framer.stopFrame f).reception = f.reception := rfl
@[simp] theorem Framer.stopFrame_sending (f : Framer) : (Framer.stopFrame f).sending = none := rfl
@[simp] theorem Framer.stopFrame_lost (f : Framer) : (Framer.stopFrame f).lost = false := rfl
@[simp] theorem Framer.stopFrame_drive (f : Framer) : (Framer.stopFrame f).drive = f.drive.filter Drive.isMark := rfl
@[simp] theorem touchLine_marking (f : Framer) : (touchLine f).marking = f.marking := rfl
@[simp] theorem framerSilent_marking (f : Framer) : (framerSilent f).marking = false := rfl
@[simp] theorem framerStuck_marking (f : Framer) : (framerStuck f).marking = false := rfl
theorem stopFrame_marking (f : Framer) : f.stopFrame.marking = f.marking := by
  unfold Framer.marking Framer.stopFrame
  rcases f.drive with _ | (_ | _ | _) <;> rfl

/-- A released driver drives no mark. -/
theorem marking_of_released {f : Framer} (h : f.drive = none) : f.marking = false := by simp [Framer.marking, h]

/-- With no mark driven, giving up the frame releases the driver. -/
theorem stopFrame_drive_of_unmarked {f : Framer} (h : f.marking = false) : f.stopFrame.drive = none := by
  revert h
  unfold Framer.marking Framer.stopFrame
  rcases f.drive with _ | (_ | _ | _) <;> simp [Drive.isMark]

/-- What the framer drives next after the pulse at its index (R130). -/
@[simp] theorem nextPulse_drive (x : Sending) (f : Framer) :
    (nextPulse x f).drive = ({ x with index := x.index + 1 } : Sending).drive := rfl

/-! ## Updates of the cycle and the dry watch -/

@[simp] theorem putAway_st (c : Cycle) (st : CycleState) : (c.putAway st).st = st := rfl
@[simp] theorem putAway_programme (c : Cycle) (st : CycleState) : (c.putAway st).programme = c.programme := rfl
@[simp] theorem putAway_index (c : Cycle) (st : CycleState) : (c.putAway st).index = c.index := rfl
@[simp] theorem putAway_record (c : Cycle) (st : CycleState) : (c.putAway st).record = c.record := rfl
@[simp] theorem putAway_remaining (c : Cycle) (st : CycleState) : (c.putAway st).remaining = c.remaining := rfl
@[simp] theorem putAway_second (c : Cycle) (st : CycleState) : (c.putAway st).second = none := rfl
@[simp] theorem putAway_starved (c : Cycle) (st : CycleState) : (c.putAway st).starved = false := rfl
@[simp] theorem putAway_starvedSecs (c : Cycle) (st : CycleState) : (c.putAway st).starvedSecs = 0 := rfl
@[simp] theorem putAway_boost (c : Cycle) (st : CycleState) : (c.putAway st).boost = 0 := rfl
@[simp] theorem putAway_latch (c : Cycle) (st : CycleState) : (c.putAway st).latch = false := rfl
@[simp] theorem putAway_context (c : Cycle) (st : CycleState) : (c.putAway st).context = none := rfl
@[simp] theorem putAway_pause (c : Cycle) (st : CycleState) : (c.putAway st).pause = none := rfl
@[simp] theorem putAway_cancelCool (c : Cycle) (st : CycleState) : (c.putAway st).cancelCool = none := rfl
@[simp] theorem watchOff_p0 (c : Climate) : (watchOff c).p0 = c.p0 := rfl
@[simp] theorem watchOff_p1 (c : Climate) : (watchOff c).p1 = c.p1 := rfl
@[simp] theorem watchOff_p2 (c : Climate) : (watchOff c).p2 = c.p2 := rfl
@[simp] theorem watchOff_invalid (c : Climate) : (watchOff c).invalid = c.invalid := rfl
@[simp] theorem watchOff_tr (c : Climate) : (watchOff c).tr = c.tr := rfl
@[simp] theorem watchOff_tmax (c : Climate) : (watchOff c).tmax = c.tmax := rfl
@[simp] theorem watchOff_roundTimer (c : Climate) : (watchOff c).roundTimer = c.roundTimer := rfl
@[simp] theorem watchOff_overTemp (c : Climate) : (watchOff c).overTemp = c.overTemp := rfl
@[simp] theorem watchOff_ring (c : Climate) : (watchOff c).ring = c.ring := rfl
@[simp] theorem watchOff_humidityValid (c : Climate) : (watchOff c).humidityValid = c.humidityValid := rfl
@[simp] theorem watchOff_sampleTimer (c : Climate) : (watchOff c).sampleTimer = c.sampleTimer := rfl
@[simp] theorem watchOff_watch (c : Climate) : (watchOff c).watch = .off := rfl
@[simp] theorem watchOff_drop (c : Climate) : (watchOff c).drop = none := rfl
@[simp] theorem watchOff_peak (c : Climate) : (watchOff c).peak = 0 := rfl
@[simp] theorem watchOff_warmUp (c : Climate) : (watchOff c).warmUp = none := rfl
@[simp] theorem watchOff_tracking (c : Climate) : (watchOff c).tracking = none := rfl
@[simp] theorem watchOff_dryPoint (c : Climate) : (watchOff c).dryPoint = false := rfl

/-! ## The straps and their pins -/

@[simp] theorem latchStraps_window (a : Fin 16) (c : Fin 8) (b : Fin 16) : (latchStraps a c b).window = none := rfl
@[simp] theorem latchStraps_pins (a : Fin 16) (c : Fin 8) (b : Fin 16) : (latchStraps a c b).pins = .output := rfl
@[simp] theorem latchStraps_latched (a : Fin 16) (c : Fin 8) (b : Fin 16) : (latchStraps a c b).latched = true := rfl
@[simp] theorem latchStraps_address (a : Fin 16) (c : Fin 8) (b : Fin 16) : (latchStraps a c b).address = a.val := rfl
@[simp] theorem latchStraps_capClass (a : Fin 16) (c : Fin 8) (b : Fin 16) : (latchStraps a c b).capClass = c.val := rfl
@[simp] theorem latchStraps_bank (a : Fin 16) (c : Fin 8) (b : Fin 16) : (latchStraps a c b).bank = b.val := rfl
@[simp] theorem latchStraps_bankSize (a : Fin 16) (c : Fin 8) (b : Fin 16) : (latchStraps a c b).bankSize = b.val + 1 := rfl
@[simp] theorem latchStraps_periodMs (a : Fin 16) (c : Fin 8) (b : Fin 16) :
    (latchStraps a c b).periodMs = 1880 + 16 * a.val := rfl

/-- As inputs the strap pins drive nothing. -/
theorem strapOutputs_of_input {s : State} (h : s.straps.pins = .input) : strapOutputs s = none := by simp [strapOutputs, h]

/-- As outputs the ADDR pins carry the code's four bits, the least significant first. -/
theorem strapOutputs_addr {s : State} (h : s.straps.pins = .output) :
    (strapOutputs s).map PinOutputs.addr =
      some [s.faults.code.testBit 0, s.faults.code.testBit 1, s.faults.code.testBit 2, s.faults.code.testBit 3] := by
  simp [strapOutputs, h, List.range, List.range.loop]

/-! ## Updates of the loads -/

@[simp] theorem driveFan_steamAssigned (n : Nat) (l : LoadOut) : (driveFan n l).steamAssigned = l.steamAssigned := rfl
@[simp] theorem driveFan_heaterAssigned (n : Nat) (l : LoadOut) : (driveFan n l).heaterAssigned = l.heaterAssigned := rfl
@[simp] theorem driveFan_heaterOff (n : Nat) (l : LoadOut) : (driveFan n l).heaterOff = l.heaterOff := rfl
@[simp] theorem driveFan_steamOff (n : Nat) (l : LoadOut) : (driveFan n l).steamOff = l.steamOff := rfl
@[simp] theorem driveFan_valveOff (n : Nat) (l : LoadOut) : (driveFan n l).valveOff = l.valveOff := rfl
@[simp] theorem driveFan_fanOff (n : Nat) (l : LoadOut) : (driveFan n l).fanOff = l.fanOff := rfl
@[simp] theorem driveFan_steamLevel (n : Nat) (l : LoadOut) : (driveFan n l).steamLevel = l.steamLevel := rfl
@[simp] theorem driveFan_heaterLevel (n : Nat) (l : LoadOut) : (driveFan n l).heaterLevel = l.heaterLevel := rfl
@[simp] theorem driveFan_draw (n : Nat) (l : LoadOut) : (driveFan n l).draw = l.draw := rfl
@[simp] theorem driveFan_position (n : Nat) (l : LoadOut) : (driveFan n l).position = l.position := rfl
@[simp] theorem driveFan_heaterCount (n : Nat) (l : LoadOut) : (driveFan n l).heaterCount = l.heaterCount := rfl
@[simp] theorem driveFan_steamCount (n : Nat) (l : LoadOut) : (driveFan n l).steamCount = l.steamCount := rfl
@[simp] theorem driveFan_heaterGate (n : Nat) (l : LoadOut) : (driveFan n l).heaterGate = l.heaterGate := rfl
@[simp] theorem driveFan_steamGate (n : Nat) (l : LoadOut) : (driveFan n l).steamGate = l.steamGate := rfl
@[simp] theorem driveFan_fan (n : Nat) (l : LoadOut) : (driveFan n l).fan = n := rfl
@[simp] theorem driveFan_fanFirst (n : Nat) (l : LoadOut) : (driveFan n l).fanFirst = decide (n = 1 ∨ n = 3) := rfl
@[simp] theorem driveFan_fanSecond (n : Nat) (l : LoadOut) : (driveFan n l).fanSecond = decide (n = 2 ∨ n = 3) := rfl
@[simp] theorem driveFan_tachConfirmed (n : Nat) (l : LoadOut) : (driveFan n l).tachConfirmed = l.tachConfirmed := rfl
@[simp] theorem driveFan_tachWatchdog (n : Nat) (l : LoadOut) : (driveFan n l).tachWatchdog = l.tachWatchdog := rfl
@[simp] theorem driveFan_lock (n : Nat) (l : LoadOut) : (driveFan n l).lock = l.lock := rfl
@[simp] theorem driveFan_lockConfirm (n : Nat) (l : LoadOut) : (driveFan n l).lockConfirm = l.lockConfirm := rfl
@[simp] theorem driveFan_valve (n : Nat) (l : LoadOut) : (driveFan n l).valve = l.valve := rfl
@[simp] theorem releaseLoads_steamAssigned (l : LoadOut) : (releaseLoads l).steamAssigned = l.steamAssigned := rfl
@[simp] theorem releaseLoads_heaterAssigned (l : LoadOut) : (releaseLoads l).heaterAssigned = l.heaterAssigned := rfl
@[simp] theorem releaseLoads_heaterOff (l : LoadOut) : (releaseLoads l).heaterOff = l.heaterOff := rfl
@[simp] theorem releaseLoads_steamOff (l : LoadOut) : (releaseLoads l).steamOff = l.steamOff := rfl
@[simp] theorem releaseLoads_valveOff (l : LoadOut) : (releaseLoads l).valveOff = l.valveOff := rfl
@[simp] theorem releaseLoads_fanOff (l : LoadOut) : (releaseLoads l).fanOff = l.fanOff := rfl
@[simp] theorem releaseLoads_steamLevel (l : LoadOut) : (releaseLoads l).steamLevel = l.steamLevel := rfl
@[simp] theorem releaseLoads_heaterLevel (l : LoadOut) : (releaseLoads l).heaterLevel = l.heaterLevel := rfl
@[simp] theorem releaseLoads_draw (l : LoadOut) : (releaseLoads l).draw = l.draw := rfl
@[simp] theorem releaseLoads_position (l : LoadOut) : (releaseLoads l).position = 0 := rfl
@[simp] theorem releaseLoads_heaterCount (l : LoadOut) : (releaseLoads l).heaterCount = 0 := rfl
@[simp] theorem releaseLoads_steamCount (l : LoadOut) : (releaseLoads l).steamCount = 0 := rfl
@[simp] theorem releaseLoads_heaterGate (l : LoadOut) : (releaseLoads l).heaterGate = false := rfl
@[simp] theorem releaseLoads_steamGate (l : LoadOut) : (releaseLoads l).steamGate = false := rfl
@[simp] theorem releaseLoads_fan (l : LoadOut) : (releaseLoads l).fan = l.fan := rfl
@[simp] theorem releaseLoads_fanFirst (l : LoadOut) : (releaseLoads l).fanFirst = l.fanFirst := rfl
@[simp] theorem releaseLoads_fanSecond (l : LoadOut) : (releaseLoads l).fanSecond = l.fanSecond := rfl
@[simp] theorem releaseLoads_tachConfirmed (l : LoadOut) : (releaseLoads l).tachConfirmed = l.tachConfirmed := rfl
@[simp] theorem releaseLoads_tachWatchdog (l : LoadOut) : (releaseLoads l).tachWatchdog = l.tachWatchdog := rfl
@[simp] theorem releaseLoads_lock (l : LoadOut) : (releaseLoads l).lock = l.lock := rfl
@[simp] theorem releaseLoads_lockConfirm (l : LoadOut) : (releaseLoads l).lockConfirm = l.lockConfirm := rfl
@[simp] theorem releaseLoads_valve (l : LoadOut) : (releaseLoads l).valve = l.valve := rfl

/-! ## Forming the outputs -/

@[simp] theorem formFan_cycle (s : State) : (formFan s).cycle = s.cycle := by unfold formFan; grind
@[simp] theorem formFan_request (s : State) : (formFan s).request = s.request := by unfold formFan; grind
@[simp] theorem formFan_climate (s : State) : (formFan s).climate = s.climate := by unfold formFan; grind
@[simp] theorem formFan_table (s : State) : (formFan s).table = s.table := by unfold formFan; grind
@[simp] theorem formFan_share (s : State) : (formFan s).share = s.share := by unfold formFan; grind
@[simp] theorem formFan_member (s : State) : (formFan s).member = s.member := by unfold formFan; grind
@[simp] theorem formFan_framer (s : State) : (formFan s).framer = s.framer := by unfold formFan; grind
@[simp] theorem formFan_feeder (s : State) : (formFan s).feeder = s.feeder := by unfold formFan; grind
@[simp] theorem formFan_faults (s : State) : (formFan s).faults = s.faults := by unfold formFan; grind
@[simp] theorem formFan_straps (s : State) : (formFan s).straps = s.straps := by unfold formFan; grind
@[simp] theorem formFan_panel (s : State) : (formFan s).panel = s.panel := by unfold formFan; grind
@[simp] theorem formFan_lines (s : State) : (formFan s).lines = s.lines := by unfold formFan; grind
@[simp] theorem formFan_inReset (s : State) : (formFan s).inReset = s.inReset := by unfold formFan; grind
@[simp] theorem formFan_nonceReads (s : State) : (formFan s).nonceReads = s.nonceReads := by unfold formFan; grind
@[simp] theorem formFan_line (s : State) : (formFan s).line = s.line := by unfold formFan; grind
@[simp] theorem formFan_pending (s : State) : (formFan s).pending = s.pending := by unfold formFan; grind
@[simp] theorem formLock_cycle (s : State) : (formLock s).cycle = s.cycle := by unfold formLock; grind
@[simp] theorem formLock_request (s : State) : (formLock s).request = s.request := by unfold formLock; grind
@[simp] theorem formLock_climate (s : State) : (formLock s).climate = s.climate := by unfold formLock; grind
@[simp] theorem formLock_table (s : State) : (formLock s).table = s.table := by unfold formLock; grind
@[simp] theorem formLock_share (s : State) : (formLock s).share = s.share := by unfold formLock; grind
@[simp] theorem formLock_member (s : State) : (formLock s).member = s.member := by unfold formLock; grind
@[simp] theorem formLock_framer (s : State) : (formLock s).framer = s.framer := by unfold formLock; grind
@[simp] theorem formLock_feeder (s : State) : (formLock s).feeder = s.feeder := by unfold formLock; grind
@[simp] theorem formLock_faults (s : State) : (formLock s).faults = s.faults := by unfold formLock; grind
@[simp] theorem formLock_straps (s : State) : (formLock s).straps = s.straps := by unfold formLock; grind
@[simp] theorem formLock_panel (s : State) : (formLock s).panel = s.panel := by unfold formLock; grind
@[simp] theorem formLock_lines (s : State) : (formLock s).lines = s.lines := by unfold formLock; grind
@[simp] theorem formLock_inReset (s : State) : (formLock s).inReset = s.inReset := by unfold formLock; grind
@[simp] theorem formLock_nonceReads (s : State) : (formLock s).nonceReads = s.nonceReads := by unfold formLock; grind
@[simp] theorem formLock_line (s : State) : (formLock s).line = s.line := by unfold formLock; grind
@[simp] theorem formLock_pending (s : State) : (formLock s).pending = s.pending := by unfold formLock; grind
@[simp] theorem formLevels_cycle (s : State) : (formLevels s).cycle = s.cycle := rfl
@[simp] theorem formLevels_request (s : State) : (formLevels s).request = s.request := rfl
@[simp] theorem formLevels_climate (s : State) : (formLevels s).climate = s.climate := rfl
@[simp] theorem formLevels_table (s : State) : (formLevels s).table = s.table := rfl
@[simp] theorem formLevels_share (s : State) : (formLevels s).share = s.share := rfl
@[simp] theorem formLevels_member (s : State) : (formLevels s).member = s.member := rfl
@[simp] theorem formLevels_framer (s : State) : (formLevels s).framer = s.framer := rfl
@[simp] theorem formLevels_feeder (s : State) : (formLevels s).feeder = s.feeder := rfl
@[simp] theorem formLevels_faults (s : State) : (formLevels s).faults = s.faults := rfl
@[simp] theorem formLevels_straps (s : State) : (formLevels s).straps = s.straps := rfl
@[simp] theorem formLevels_panel (s : State) : (formLevels s).panel = s.panel := rfl
@[simp] theorem formLevels_lines (s : State) : (formLevels s).lines = s.lines := rfl
@[simp] theorem formLevels_inReset (s : State) : (formLevels s).inReset = s.inReset := rfl
@[simp] theorem formLevels_nonceReads (s : State) : (formLevels s).nonceReads = s.nonceReads := rfl
@[simp] theorem formLevels_line (s : State) : (formLevels s).line = s.line := rfl
@[simp] theorem formLevels_pending (s : State) : (formLevels s).pending = s.pending := rfl
@[simp] theorem formStarved_request (s : State) : (formStarved s).request = s.request := rfl
@[simp] theorem formStarved_climate (s : State) : (formStarved s).climate = s.climate := rfl
@[simp] theorem formStarved_table (s : State) : (formStarved s).table = s.table := rfl
@[simp] theorem formStarved_share (s : State) : (formStarved s).share = s.share := rfl
@[simp] theorem formStarved_member (s : State) : (formStarved s).member = s.member := rfl
@[simp] theorem formStarved_framer (s : State) : (formStarved s).framer = s.framer := rfl
@[simp] theorem formStarved_feeder (s : State) : (formStarved s).feeder = s.feeder := rfl
@[simp] theorem formStarved_loads (s : State) : (formStarved s).loads = s.loads := rfl
@[simp] theorem formStarved_faults (s : State) : (formStarved s).faults = s.faults := rfl
@[simp] theorem formStarved_straps (s : State) : (formStarved s).straps = s.straps := rfl
@[simp] theorem formStarved_panel (s : State) : (formStarved s).panel = s.panel := rfl
@[simp] theorem formStarved_lines (s : State) : (formStarved s).lines = s.lines := rfl
@[simp] theorem formStarved_inReset (s : State) : (formStarved s).inReset = s.inReset := rfl
@[simp] theorem formStarved_nonceReads (s : State) : (formStarved s).nonceReads = s.nonceReads := rfl
@[simp] theorem formStarved_line (s : State) : (formStarved s).line = s.line := rfl
@[simp] theorem formStarved_pending (s : State) : (formStarved s).pending = s.pending := rfl
@[simp] theorem formLamps_cycle (s : State) : (formLamps s).cycle = s.cycle := rfl
@[simp] theorem formLamps_request (s : State) : (formLamps s).request = s.request := rfl
@[simp] theorem formLamps_climate (s : State) : (formLamps s).climate = s.climate := rfl
@[simp] theorem formLamps_table (s : State) : (formLamps s).table = s.table := rfl
@[simp] theorem formLamps_share (s : State) : (formLamps s).share = s.share := rfl
@[simp] theorem formLamps_member (s : State) : (formLamps s).member = s.member := rfl
@[simp] theorem formLamps_framer (s : State) : (formLamps s).framer = s.framer := rfl
@[simp] theorem formLamps_feeder (s : State) : (formLamps s).feeder = s.feeder := rfl
@[simp] theorem formLamps_loads (s : State) : (formLamps s).loads = s.loads := rfl
@[simp] theorem formLamps_faults (s : State) : (formLamps s).faults = s.faults := rfl
@[simp] theorem formLamps_straps (s : State) : (formLamps s).straps = s.straps := rfl
@[simp] theorem formLamps_lines (s : State) : (formLamps s).lines = s.lines := rfl
@[simp] theorem formLamps_inReset (s : State) : (formLamps s).inReset = s.inReset := rfl
@[simp] theorem formLamps_nonceReads (s : State) : (formLamps s).nonceReads = s.nonceReads := rfl
@[simp] theorem formLamps_line (s : State) : (formLamps s).line = s.line := rfl
@[simp] theorem formLamps_pending (s : State) : (formLamps s).pending = s.pending := rfl
@[simp] theorem settle_request (s : State) : (settle s).request = s.request := by simp [settle]
@[simp] theorem settle_climate (s : State) : (settle s).climate = s.climate := by simp [settle]
@[simp] theorem settle_table (s : State) : (settle s).table = s.table := by simp [settle]
@[simp] theorem settle_share (s : State) : (settle s).share = s.share := by simp [settle]
@[simp] theorem settle_member (s : State) : (settle s).member = s.member := by simp [settle]
@[simp] theorem settle_framer (s : State) : (settle s).framer = s.framer := by simp [settle]
@[simp] theorem settle_feeder (s : State) : (settle s).feeder = s.feeder := by simp [settle]
@[simp] theorem settle_faults (s : State) : (settle s).faults = s.faults := by simp [settle]
@[simp] theorem settle_straps (s : State) : (settle s).straps = s.straps := by simp [settle]
@[simp] theorem settle_lines (s : State) : (settle s).lines = s.lines := by simp [settle]
@[simp] theorem settle_inReset (s : State) : (settle s).inReset = s.inReset := by simp [settle]
@[simp] theorem settle_nonceReads (s : State) : (settle s).nonceReads = s.nonceReads := by simp [settle]
@[simp] theorem settle_line (s : State) : (settle s).line = s.line := by simp [settle]
@[simp] theorem settle_pending (s : State) : (settle s).pending = s.pending := by simp [settle]
@[simp] theorem settle_cycle_st (s : State) : (settle s).cycle.st = s.cycle.st := by simp [settle, formStarved]
@[simp] theorem settle_cycle_programme (s : State) :
    (settle s).cycle.programme = s.cycle.programme := by simp [settle, formStarved]
@[simp] theorem settle_cycle_index (s : State) : (settle s).cycle.index = s.cycle.index := by simp [settle, formStarved]
@[simp] theorem settle_cycle_record (s : State) : (settle s).cycle.record = s.cycle.record := by simp [settle, formStarved]
@[simp] theorem settle_cycle_remaining (s : State) :
    (settle s).cycle.remaining = s.cycle.remaining := by simp [settle, formStarved]
@[simp] theorem settle_cycle_second (s : State) : (settle s).cycle.second = s.cycle.second := by simp [settle, formStarved]
@[simp] theorem settle_cycle_boost (s : State) : (settle s).cycle.boost = s.cycle.boost := by simp [settle, formStarved]
@[simp] theorem settle_cycle_latch (s : State) : (settle s).cycle.latch = s.cycle.latch := by simp [settle, formStarved]
@[simp] theorem settle_cycle_context (s : State) : (settle s).cycle.context = s.cycle.context := by simp [settle, formStarved]
@[simp] theorem settle_cycle_pause (s : State) : (settle s).cycle.pause = s.cycle.pause := by simp [settle, formStarved]
@[simp] theorem settle_cycle_cancelCool (s : State) :
    (settle s).cycle.cancelCool = s.cycle.cancelCool := by simp [settle, formStarved]
@[simp] theorem settle_panel_start (s : State) : (settle s).panel.start = s.panel.start := by simp [settle, formLamps]
@[simp] theorem settle_panel_cancel (s : State) : (settle s).panel.cancel = s.panel.cancel := by simp [settle, formLamps]
@[simp] theorem settle_panel_power (s : State) : (settle s).panel.power = s.panel.power := by simp [settle, formLamps]
@[simp] theorem settle_panel_longPress (s : State) :
    (settle s).panel.longPress = s.panel.longPress := by simp [settle, formLamps]
@[simp] theorem settle_panel_buzzer (s : State) : (settle s).panel.buzzer = s.panel.buzzer := by simp [settle, formLamps]
@[simp] theorem settle_panel_display (s : State) : (settle s).panel.display = s.panel.display := by simp [settle, formLamps]
@[simp] theorem formFan_loads_position (s : State) :
    (formFan s).loads.position = s.loads.position := by unfold formFan driveFan; grind
@[simp] theorem formLock_loads_position (s : State) :
    (formLock s).loads.position = s.loads.position := by unfold formLock; grind
@[simp] theorem settle_loads_position (s : State) :
    (settle s).loads.position = s.loads.position := by
  simp [settle, formStarved, formLevels, formLamps]
@[simp] theorem formFan_loads_heaterGate (s : State) :
    (formFan s).loads.heaterGate = s.loads.heaterGate := by unfold formFan driveFan; grind
@[simp] theorem formLock_loads_heaterGate (s : State) :
    (formLock s).loads.heaterGate = s.loads.heaterGate := by unfold formLock; grind
@[simp] theorem settle_loads_heaterGate (s : State) :
    (settle s).loads.heaterGate = s.loads.heaterGate := by
  simp [settle, formStarved, formLevels, formLamps]
@[simp] theorem formFan_loads_steamGate (s : State) :
    (formFan s).loads.steamGate = s.loads.steamGate := by unfold formFan driveFan; grind
@[simp] theorem formLock_loads_steamGate (s : State) :
    (formLock s).loads.steamGate = s.loads.steamGate := by unfold formLock; grind
@[simp] theorem settle_loads_steamGate (s : State) :
    (settle s).loads.steamGate = s.loads.steamGate := by
  simp [settle, formStarved, formLevels, formLamps]

/-! ## The share computation -/

@[simp] theorem compute_request (s : State) : (compute s).request = s.request := by simp [compute]
@[simp] theorem compute_climate (s : State) : (compute s).climate = s.climate := by simp [compute]
@[simp] theorem compute_table (s : State) : (compute s).table = s.table := by simp [compute]
@[simp] theorem compute_member (s : State) : (compute s).member = s.member := by simp [compute]
@[simp] theorem compute_framer (s : State) : (compute s).framer = s.framer := by simp [compute]
@[simp] theorem compute_feeder (s : State) : (compute s).feeder = s.feeder := by simp [compute]
@[simp] theorem compute_faults (s : State) : (compute s).faults = s.faults := by simp [compute]
@[simp] theorem compute_straps (s : State) : (compute s).straps = s.straps := by simp [compute]
@[simp] theorem compute_lines (s : State) : (compute s).lines = s.lines := by simp [compute]
@[simp] theorem compute_inReset (s : State) : (compute s).inReset = s.inReset := by simp [compute]
@[simp] theorem compute_nonceReads (s : State) : (compute s).nonceReads = s.nonceReads := by simp [compute]
@[simp] theorem compute_line (s : State) : (compute s).line = s.line := by simp [compute]
@[simp] theorem compute_pending (s : State) : (compute s).pending = s.pending := by simp [compute]
@[simp] theorem compute_cycle_st (s : State) : (compute s).cycle.st = s.cycle.st := by simp [compute]
@[simp] theorem compute_cycle_programme (s : State) : (compute s).cycle.programme = s.cycle.programme := by simp [compute]
@[simp] theorem compute_cycle_index (s : State) : (compute s).cycle.index = s.cycle.index := by simp [compute]
@[simp] theorem compute_cycle_record (s : State) : (compute s).cycle.record = s.cycle.record := by simp [compute]
@[simp] theorem compute_cycle_remaining (s : State) : (compute s).cycle.remaining = s.cycle.remaining := by simp [compute]
@[simp] theorem compute_cycle_second (s : State) : (compute s).cycle.second = s.cycle.second := by simp [compute]
@[simp] theorem compute_cycle_boost (s : State) : (compute s).cycle.boost = s.cycle.boost := by simp [compute]
@[simp] theorem compute_cycle_latch (s : State) : (compute s).cycle.latch = s.cycle.latch := by simp [compute]
@[simp] theorem compute_cycle_context (s : State) : (compute s).cycle.context = s.cycle.context := by simp [compute]
@[simp] theorem compute_cycle_pause (s : State) : (compute s).cycle.pause = s.cycle.pause := by simp [compute]
@[simp] theorem compute_cycle_cancelCool (s : State) : (compute s).cycle.cancelCool = s.cycle.cancelCool := by simp [compute]
@[simp] theorem compute_panel_start (s : State) : (compute s).panel.start = s.panel.start := by simp [compute]
@[simp] theorem compute_panel_cancel (s : State) : (compute s).panel.cancel = s.panel.cancel := by simp [compute]
@[simp] theorem compute_panel_power (s : State) : (compute s).panel.power = s.panel.power := by simp [compute]
@[simp] theorem compute_panel_longPress (s : State) : (compute s).panel.longPress = s.panel.longPress := by simp [compute]
@[simp] theorem compute_panel_buzzer (s : State) : (compute s).panel.buzzer = s.panel.buzzer := by simp [compute]
@[simp] theorem compute_panel_display (s : State) : (compute s).panel.display = s.panel.display := by simp [compute]
@[simp] theorem compute_loads_position (s : State) : (compute s).loads.position = s.loads.position := by simp [compute]
@[simp] theorem compute_loads_heaterGate (s : State) : (compute s).loads.heaterGate = s.loads.heaterGate := by simp [compute]
@[simp] theorem compute_loads_steamGate (s : State) : (compute s).loads.steamGate = s.loads.steamGate := by simp [compute]
@[simp] theorem compute_share_grant (s : State) : (compute s).share.grant = grantOf s := by simp [compute]
@[simp] theorem compute_share_allowance (s : State) :
    (compute s).share.allowance = if s.member.st = .member then min s.share.allowance (grantOf s) else grantOf s := by
  simp [compute]
@[simp] theorem compute_share_period (s : State) : (compute s).share.period = s.share.period := by simp [compute]
@[simp] theorem compute_share_raiseReady (s : State) : (compute s).share.raiseReady = s.share.raiseReady := by simp [compute]
@[simp] theorem compute_share_hold (s : State) : (compute s).share.hold = s.share.hold := by simp [compute]
@[simp] theorem compute_share_arm (s : State) : (compute s).share.arm = s.share.arm := by simp [compute]
@[simp] theorem compute_share_limit (s : State) : (compute s).share.limit = s.share.limit := by simp [compute]
@[simp] theorem compute_share_limitTimer (s : State) : (compute s).share.limitTimer = s.share.limitTimer := by simp [compute]

/-! ## The framer's part in sending -/

@[simp] theorem beginSending_cycle (s : State) : (beginSending s).cycle = s.cycle := by unfold beginSending; grind
@[simp] theorem beginSending_request (s : State) : (beginSending s).request = s.request := by unfold beginSending; grind
@[simp] theorem beginSending_climate (s : State) : (beginSending s).climate = s.climate := by unfold beginSending; grind
@[simp] theorem beginSending_table (s : State) : (beginSending s).table = s.table := by unfold beginSending; grind
@[simp] theorem beginSending_share (s : State) : (beginSending s).share = s.share := by unfold beginSending; grind
@[simp] theorem beginSending_feeder (s : State) : (beginSending s).feeder = s.feeder := by unfold beginSending; grind
@[simp] theorem beginSending_loads (s : State) : (beginSending s).loads = s.loads := by unfold beginSending; grind
@[simp] theorem beginSending_faults (s : State) : (beginSending s).faults = s.faults := by unfold beginSending; grind
@[simp] theorem beginSending_straps (s : State) : (beginSending s).straps = s.straps := by unfold beginSending; grind
@[simp] theorem beginSending_panel (s : State) : (beginSending s).panel = s.panel := by unfold beginSending; grind
@[simp] theorem beginSending_lines (s : State) : (beginSending s).lines = s.lines := by unfold beginSending; grind
@[simp] theorem beginSending_inReset (s : State) : (beginSending s).inReset = s.inReset := by unfold beginSending; grind
@[simp] theorem beginSending_nonceReads (s : State) :
    (beginSending s).nonceReads = s.nonceReads := by unfold beginSending; grind
@[simp] theorem beginSending_line (s : State) : (beginSending s).line = s.line := by unfold beginSending; grind
@[simp] theorem beginSending_pending (s : State) : (beginSending s).pending = s.pending := by unfold beginSending; grind
@[simp] theorem beginSending_member_st (s : State) : (beginSending s).member.st = s.member.st := by unfold beginSending; grind
@[simp] theorem beginSending_member_slot (s : State) :
    (beginSending s).member.slot = s.member.slot := by unfold beginSending; grind
@[simp] theorem beginSending_member_heldOver (s : State) :
    (beginSending s).member.heldOver = s.member.heldOver := by unfold beginSending; grind
@[simp] theorem beginSending_member_periodCount (s : State) :
    (beginSending s).member.periodCount = s.member.periodCount := by unfold beginSending; grind
@[simp] theorem beginSending_member_nonceCounter (s : State) :
    (beginSending s).member.nonceCounter = s.member.nonceCounter := by unfold beginSending; grind
@[simp] theorem beginSending_member_joinNonce (s : State) :
    (beginSending s).member.joinNonce = s.member.joinNonce := by unfold beginSending; grind
@[simp] theorem beginSending_member_presence (s : State) :
    (beginSending s).member.presence = s.member.presence := by unfold beginSending; grind
@[simp] theorem beginSending_member_refWant (s : State) :
    (beginSending s).member.refWant = s.member.refWant := by unfold beginSending; grind
@[simp] theorem beginSending_member_lastClaim (s : State) :
    (beginSending s).member.lastClaim = s.member.lastClaim := by unfold beginSending; grind
@[simp] theorem beginSending_member_returnMark (s : State) :
    (beginSending s).member.returnMark = s.member.returnMark := by unfold beginSending; grind
@[simp] theorem beginSending_member_dwell (s : State) :
    (beginSending s).member.dwell = s.member.dwell := by unfold beginSending; grind
@[simp] theorem beginSending_member_lineFree (s : State) :
    (beginSending s).member.lineFree = s.member.lineFree := by unfold beginSending; grind
@[simp] theorem beginSending_framer_failures (s : State) :
    (beginSending s).framer.failures = s.framer.failures := by unfold beginSending; grind [touchLine]
@[simp] theorem beginSending_framer_reception (s : State) :
    (beginSending s).framer.reception = s.framer.reception := by unfold beginSending; grind [touchLine]
@[simp] theorem beginSending_framer_lost (s : State) :
    (beginSending s).framer.lost = s.framer.lost := by unfold beginSending; grind [touchLine]
@[simp] theorem handFramer_cycle (s : State) :
    (handFramer s).cycle = s.cycle := by unfold handFramer; split <;> (try split) <;> simp
@[simp] theorem handFramer_request (s : State) :
    (handFramer s).request = s.request := by unfold handFramer; split <;> (try split) <;> simp
@[simp] theorem handFramer_climate (s : State) :
    (handFramer s).climate = s.climate := by unfold handFramer; split <;> (try split) <;> simp
@[simp] theorem handFramer_table (s : State) :
    (handFramer s).table = s.table := by unfold handFramer; split <;> (try split) <;> simp
@[simp] theorem handFramer_share (s : State) :
    (handFramer s).share = s.share := by unfold handFramer; split <;> (try split) <;> simp
@[simp] theorem handFramer_feeder (s : State) :
    (handFramer s).feeder = s.feeder := by unfold handFramer; split <;> (try split) <;> simp
@[simp] theorem handFramer_loads (s : State) :
    (handFramer s).loads = s.loads := by unfold handFramer; split <;> (try split) <;> simp
@[simp] theorem handFramer_faults (s : State) :
    (handFramer s).faults = s.faults := by unfold handFramer; split <;> (try split) <;> simp
@[simp] theorem handFramer_straps (s : State) :
    (handFramer s).straps = s.straps := by unfold handFramer; split <;> (try split) <;> simp
@[simp] theorem handFramer_panel (s : State) :
    (handFramer s).panel = s.panel := by unfold handFramer; split <;> (try split) <;> simp
@[simp] theorem handFramer_lines (s : State) :
    (handFramer s).lines = s.lines := by unfold handFramer; split <;> (try split) <;> simp
@[simp] theorem handFramer_inReset (s : State) :
    (handFramer s).inReset = s.inReset := by unfold handFramer; split <;> (try split) <;> simp
@[simp] theorem handFramer_nonceReads (s : State) :
    (handFramer s).nonceReads = s.nonceReads := by unfold handFramer; split <;> (try split) <;> simp
@[simp] theorem handFramer_line (s : State) :
    (handFramer s).line = s.line := by unfold handFramer; split <;> (try split) <;> simp
@[simp] theorem handFramer_pending (s : State) :
    (handFramer s).pending = s.pending := by unfold handFramer; split <;> (try split) <;> simp
@[simp] theorem handFramer_member_st (s : State) :
    (handFramer s).member.st = s.member.st := by
  unfold handFramer; split <;> (try split) <;> simp
@[simp] theorem handFramer_member_slot (s : State) :
    (handFramer s).member.slot = s.member.slot := by
  unfold handFramer; split <;> (try split) <;> simp
@[simp] theorem handFramer_member_heldOver (s : State) :
    (handFramer s).member.heldOver = s.member.heldOver := by
  unfold handFramer; split <;> (try split) <;> simp
@[simp] theorem handFramer_member_periodCount (s : State) :
    (handFramer s).member.periodCount = s.member.periodCount := by
  unfold handFramer; split <;> (try split) <;> simp
@[simp] theorem handFramer_member_nonceCounter (s : State) :
    (handFramer s).member.nonceCounter = s.member.nonceCounter := by
  unfold handFramer; split <;> (try split) <;> simp
@[simp] theorem handFramer_member_joinNonce (s : State) :
    (handFramer s).member.joinNonce = s.member.joinNonce := by
  unfold handFramer; split <;> (try split) <;> simp
@[simp] theorem handFramer_member_presence (s : State) :
    (handFramer s).member.presence = s.member.presence := by
  unfold handFramer; split <;> (try split) <;> simp
@[simp] theorem handFramer_member_refWant (s : State) :
    (handFramer s).member.refWant = s.member.refWant := by
  unfold handFramer; split <;> (try split) <;> simp
@[simp] theorem handFramer_member_lastClaim (s : State) :
    (handFramer s).member.lastClaim = s.member.lastClaim := by
  unfold handFramer; split <;> (try split) <;> simp
@[simp] theorem handFramer_member_returnMark (s : State) :
    (handFramer s).member.returnMark = s.member.returnMark := by
  unfold handFramer; split <;> (try split) <;> simp
@[simp] theorem handFramer_member_dwell (s : State) :
    (handFramer s).member.dwell = s.member.dwell := by
  unfold handFramer; split <;> (try split) <;> simp
@[simp] theorem handFramer_member_lineFree (s : State) :
    (handFramer s).member.lineFree = s.member.lineFree := by
  unfold handFramer; split <;> (try split) <;> simp
@[simp] theorem handFramer_framer_marking (s : State) :
    (handFramer s).framer.marking = s.framer.marking := by
  unfold handFramer beginSending touchLine Framer.marking
  split
  · split
    · next h => split <;> simp [h.2, Drive.isMark]
    · rfl
  · rfl
@[simp] theorem handFramer_framer_failures (s : State) :
    (handFramer s).framer.failures = s.framer.failures := by
  unfold handFramer; split <;> (try split) <;> simp
@[simp] theorem handFramer_framer_reception (s : State) :
    (handFramer s).framer.reception = s.framer.reception := by
  unfold handFramer; split <;> (try split) <;> simp
@[simp] theorem handFramer_framer_lost (s : State) :
    (handFramer s).framer.lost = s.framer.lost := by
  unfold handFramer; split <;> (try split) <;> simp
@[simp] theorem framerRest_cycle (s : State) : (framerRest s).cycle = s.cycle := by unfold framerRest; split <;> rfl
@[simp] theorem framerRest_request (s : State) : (framerRest s).request = s.request := by unfold framerRest; split <;> rfl
@[simp] theorem framerRest_climate (s : State) : (framerRest s).climate = s.climate := by unfold framerRest; split <;> rfl
@[simp] theorem framerRest_table (s : State) : (framerRest s).table = s.table := by unfold framerRest; split <;> rfl
@[simp] theorem framerRest_share (s : State) : (framerRest s).share = s.share := by unfold framerRest; split <;> rfl
@[simp] theorem framerRest_member (s : State) : (framerRest s).member = s.member := by unfold framerRest; split <;> rfl
@[simp] theorem framerRest_feeder (s : State) : (framerRest s).feeder = s.feeder := by unfold framerRest; split <;> rfl
@[simp] theorem framerRest_loads (s : State) : (framerRest s).loads = s.loads := by unfold framerRest; split <;> rfl
@[simp] theorem framerRest_faults (s : State) : (framerRest s).faults = s.faults := by unfold framerRest; split <;> rfl
@[simp] theorem framerRest_straps (s : State) : (framerRest s).straps = s.straps := by unfold framerRest; split <;> rfl
@[simp] theorem framerRest_panel (s : State) : (framerRest s).panel = s.panel := by unfold framerRest; split <;> rfl
@[simp] theorem framerRest_lines (s : State) : (framerRest s).lines = s.lines := by unfold framerRest; split <;> rfl
@[simp] theorem framerRest_inReset (s : State) : (framerRest s).inReset = s.inReset := by unfold framerRest; split <;> rfl
@[simp] theorem framerRest_nonceReads (s : State) :
    (framerRest s).nonceReads = s.nonceReads := by unfold framerRest; split <;> rfl
@[simp] theorem framerRest_line (s : State) : (framerRest s).line = s.line := by unfold framerRest; split <;> rfl
@[simp] theorem framerRest_pending (s : State) : (framerRest s).pending = s.pending := by unfold framerRest; split <;> rfl
@[simp] theorem framerRest_framer_marking (s : State) :
    (framerRest s).framer.marking = s.framer.marking := by
  unfold framerRest; split
  · exact stopFrame_marking s.framer
  · rfl
@[simp] theorem framerRest_framer_idleHold (s : State) :
    (framerRest s).framer.idleHold = s.framer.idleHold := by unfold framerRest; split <;> rfl
@[simp] theorem framerRest_framer_holdDone (s : State) :
    (framerRest s).framer.holdDone = s.framer.holdDone := by unfold framerRest; split <;> rfl
@[simp] theorem framerRest_framer_lineFreed (s : State) :
    (framerRest s).framer.lineFreed = s.framer.lineFreed := by unfold framerRest; split <;> rfl
@[simp] theorem framerRest_framer_failures (s : State) :
    (framerRest s).framer.failures = s.framer.failures := by unfold framerRest; split <;> rfl

/-! ## The notice slot -/

@[simp] theorem fillSlot_request (k : NoticeKind) (s : State) : (fillSlot k s).request = s.request := by simp [fillSlot]
@[simp] theorem fillSlot_climate (k : NoticeKind) (s : State) : (fillSlot k s).climate = s.climate := by simp [fillSlot]
@[simp] theorem fillSlot_table (k : NoticeKind) (s : State) : (fillSlot k s).table = s.table := by simp [fillSlot]
@[simp] theorem fillSlot_feeder (k : NoticeKind) (s : State) : (fillSlot k s).feeder = s.feeder := by simp [fillSlot]
@[simp] theorem fillSlot_faults (k : NoticeKind) (s : State) : (fillSlot k s).faults = s.faults := by simp [fillSlot]
@[simp] theorem fillSlot_straps (k : NoticeKind) (s : State) : (fillSlot k s).straps = s.straps := by simp [fillSlot]
@[simp] theorem fillSlot_lines (k : NoticeKind) (s : State) : (fillSlot k s).lines = s.lines := by simp [fillSlot]
@[simp] theorem fillSlot_inReset (k : NoticeKind) (s : State) : (fillSlot k s).inReset = s.inReset := by simp [fillSlot]
@[simp] theorem fillSlot_nonceReads (k : NoticeKind) (s : State) :
    (fillSlot k s).nonceReads = s.nonceReads := by simp [fillSlot]
@[simp] theorem fillSlot_line (k : NoticeKind) (s : State) : (fillSlot k s).line = s.line := by simp [fillSlot]
@[simp] theorem fillSlot_pending (k : NoticeKind) (s : State) : (fillSlot k s).pending = s.pending := by simp [fillSlot]
@[simp] theorem fillSlot_cycle_st (k : NoticeKind) (s : State) : (fillSlot k s).cycle.st = s.cycle.st := by simp [fillSlot]
@[simp] theorem fillSlot_cycle_programme (k : NoticeKind) (s : State) :
    (fillSlot k s).cycle.programme = s.cycle.programme := by simp [fillSlot]
@[simp] theorem fillSlot_cycle_index (k : NoticeKind) (s : State) :
    (fillSlot k s).cycle.index = s.cycle.index := by simp [fillSlot]
@[simp] theorem fillSlot_cycle_record (k : NoticeKind) (s : State) :
    (fillSlot k s).cycle.record = s.cycle.record := by simp [fillSlot]
@[simp] theorem fillSlot_cycle_remaining (k : NoticeKind) (s : State) :
    (fillSlot k s).cycle.remaining = s.cycle.remaining := by simp [fillSlot]
@[simp] theorem fillSlot_cycle_second (k : NoticeKind) (s : State) :
    (fillSlot k s).cycle.second = s.cycle.second := by simp [fillSlot]
@[simp] theorem fillSlot_cycle_boost (k : NoticeKind) (s : State) :
    (fillSlot k s).cycle.boost = s.cycle.boost := by simp [fillSlot]
@[simp] theorem fillSlot_cycle_latch (k : NoticeKind) (s : State) :
    (fillSlot k s).cycle.latch = s.cycle.latch := by simp [fillSlot]
@[simp] theorem fillSlot_cycle_context (k : NoticeKind) (s : State) :
    (fillSlot k s).cycle.context = s.cycle.context := by simp [fillSlot]
@[simp] theorem fillSlot_cycle_pause (k : NoticeKind) (s : State) :
    (fillSlot k s).cycle.pause = s.cycle.pause := by simp [fillSlot]
@[simp] theorem fillSlot_cycle_cancelCool (k : NoticeKind) (s : State) :
    (fillSlot k s).cycle.cancelCool = s.cycle.cancelCool := by simp [fillSlot]
@[simp] theorem fillSlot_member_heldOver (k : NoticeKind) (s : State) :
    (fillSlot k s).member.heldOver = s.member.heldOver := by simp [fillSlot]
@[simp] theorem fillSlot_member_periodCount (k : NoticeKind) (s : State) :
    (fillSlot k s).member.periodCount = s.member.periodCount := by simp [fillSlot]
@[simp] theorem fillSlot_member_nonceCounter (k : NoticeKind) (s : State) :
    (fillSlot k s).member.nonceCounter = s.member.nonceCounter := by simp [fillSlot]
@[simp] theorem fillSlot_member_joinNonce (k : NoticeKind) (s : State) :
    (fillSlot k s).member.joinNonce = s.member.joinNonce := by simp [fillSlot]
@[simp] theorem fillSlot_member_presence (k : NoticeKind) (s : State) :
    (fillSlot k s).member.presence = s.member.presence := by simp [fillSlot]
@[simp] theorem fillSlot_member_lastClaim (k : NoticeKind) (s : State) :
    (fillSlot k s).member.lastClaim = s.member.lastClaim := by simp [fillSlot]
@[simp] theorem fillSlot_member_returnMark (k : NoticeKind) (s : State) :
    (fillSlot k s).member.returnMark = s.member.returnMark := by simp [fillSlot]
@[simp] theorem fillSlot_member_dwell (k : NoticeKind) (s : State) :
    (fillSlot k s).member.dwell = s.member.dwell := by simp [fillSlot]
@[simp] theorem fillSlot_member_lineFree (k : NoticeKind) (s : State) :
    (fillSlot k s).member.lineFree = s.member.lineFree := by simp [fillSlot]
@[simp] theorem fillSlot_member_st (k : NoticeKind) (s : State) : (fillSlot k s).member.st = s.member.st := by simp [fillSlot]
@[simp] theorem fillSlot_framer_failures (k : NoticeKind) (s : State) :
    (fillSlot k s).framer.failures = s.framer.failures := by simp [fillSlot]
@[simp] theorem fillSlot_framer_reception (k : NoticeKind) (s : State) :
    (fillSlot k s).framer.reception = s.framer.reception := by simp [fillSlot]
@[simp] theorem fillSlot_framer_lost (k : NoticeKind) (s : State) :
    (fillSlot k s).framer.lost = s.framer.lost := by simp [fillSlot]
@[simp] theorem fillSlot_framer_marking (k : NoticeKind) (s : State) :
    (fillSlot k s).framer.marking = s.framer.marking := by simp [fillSlot]
@[simp] theorem fillSlot_share_period (k : NoticeKind) (s : State) :
    (fillSlot k s).share.period = s.share.period := by simp [fillSlot]
@[simp] theorem fillSlot_share_hold (k : NoticeKind) (s : State) :
    (fillSlot k s).share.hold = s.share.hold := by simp [fillSlot]
@[simp] theorem fillSlot_share_arm (k : NoticeKind) (s : State) : (fillSlot k s).share.arm = s.share.arm := by simp [fillSlot]
@[simp] theorem fillSlot_share_limit (k : NoticeKind) (s : State) :
    (fillSlot k s).share.limit = s.share.limit := by simp [fillSlot]
@[simp] theorem fillSlot_share_limitTimer (k : NoticeKind) (s : State) :
    (fillSlot k s).share.limitTimer = s.share.limitTimer := by simp [fillSlot]
@[simp] theorem fillSlot_loads_position (k : NoticeKind) (s : State) :
    (fillSlot k s).loads.position = s.loads.position := by simp [fillSlot]
@[simp] theorem fillSlot_loads_heaterGate (k : NoticeKind) (s : State) :
    (fillSlot k s).loads.heaterGate = s.loads.heaterGate := by simp [fillSlot]
@[simp] theorem fillSlot_loads_steamGate (k : NoticeKind) (s : State) :
    (fillSlot k s).loads.steamGate = s.loads.steamGate := by simp [fillSlot]
@[simp] theorem fillSlot_panel_start (k : NoticeKind) (s : State) :
    (fillSlot k s).panel.start = s.panel.start := by simp [fillSlot]
@[simp] theorem fillSlot_panel_cancel (k : NoticeKind) (s : State) :
    (fillSlot k s).panel.cancel = s.panel.cancel := by simp [fillSlot]
@[simp] theorem fillSlot_panel_power (k : NoticeKind) (s : State) :
    (fillSlot k s).panel.power = s.panel.power := by simp [fillSlot]
@[simp] theorem fillSlot_panel_longPress (k : NoticeKind) (s : State) :
    (fillSlot k s).panel.longPress = s.panel.longPress := by simp [fillSlot]
@[simp] theorem fillSlot_panel_buzzer (k : NoticeKind) (s : State) :
    (fillSlot k s).panel.buzzer = s.panel.buzzer := by simp [fillSlot]
@[simp] theorem fillSlot_panel_display (k : NoticeKind) (s : State) :
    (fillSlot k s).panel.display = s.panel.display := by simp [fillSlot]
@[simp] theorem fillSlot_share_raiseReady (k : NoticeKind) (s : State) :
    (fillSlot k s).share.raiseReady = none := by simp [fillSlot]

/-! ## The panel -/

@[simp] theorem sound_cycle (p : Pattern) (s : State) : (sound p s).cycle = s.cycle := rfl
@[simp] theorem sound_request (p : Pattern) (s : State) : (sound p s).request = s.request := rfl
@[simp] theorem sound_climate (p : Pattern) (s : State) : (sound p s).climate = s.climate := rfl
@[simp] theorem sound_table (p : Pattern) (s : State) : (sound p s).table = s.table := rfl
@[simp] theorem sound_share (p : Pattern) (s : State) : (sound p s).share = s.share := rfl
@[simp] theorem sound_member (p : Pattern) (s : State) : (sound p s).member = s.member := rfl
@[simp] theorem sound_framer (p : Pattern) (s : State) : (sound p s).framer = s.framer := rfl
@[simp] theorem sound_feeder (p : Pattern) (s : State) : (sound p s).feeder = s.feeder := rfl
@[simp] theorem sound_loads (p : Pattern) (s : State) : (sound p s).loads = s.loads := rfl
@[simp] theorem sound_faults (p : Pattern) (s : State) : (sound p s).faults = s.faults := rfl
@[simp] theorem sound_straps (p : Pattern) (s : State) : (sound p s).straps = s.straps := rfl
@[simp] theorem sound_lines (p : Pattern) (s : State) : (sound p s).lines = s.lines := rfl
@[simp] theorem sound_inReset (p : Pattern) (s : State) : (sound p s).inReset = s.inReset := rfl
@[simp] theorem sound_nonceReads (p : Pattern) (s : State) : (sound p s).nonceReads = s.nonceReads := rfl
@[simp] theorem sound_line (p : Pattern) (s : State) : (sound p s).line = s.line := rfl
@[simp] theorem sound_pending (p : Pattern) (s : State) : (sound p s).pending = s.pending := rfl
@[simp] theorem sound_buzzer (p : Pattern) (s : State) : (sound p s).panel.buzzer = requestSound p s.panel.buzzer := rfl
@[simp] theorem sound_panel_start (p : Pattern) (s : State) : (sound p s).panel.start = s.panel.start := rfl
@[simp] theorem sound_panel_cancel (p : Pattern) (s : State) : (sound p s).panel.cancel = s.panel.cancel := rfl
@[simp] theorem sound_panel_power (p : Pattern) (s : State) : (sound p s).panel.power = s.panel.power := rfl
@[simp] theorem sound_panel_longPress (p : Pattern) (s : State) : (sound p s).panel.longPress = s.panel.longPress := rfl
@[simp] theorem sound_panel_phaseLamp (p : Pattern) (s : State) : (sound p s).panel.phaseLamp = s.panel.phaseLamp := rfl
@[simp] theorem sound_panel_flash (p : Pattern) (s : State) : (sound p s).panel.flash = s.panel.flash := rfl
@[simp] theorem sound_panel_doneLamp (p : Pattern) (s : State) : (sound p s).panel.doneLamp = s.panel.doneLamp := rfl
@[simp] theorem sound_panel_waitLamp (p : Pattern) (s : State) : (sound p s).panel.waitLamp = s.panel.waitLamp := rfl
@[simp] theorem sound_panel_display (p : Pattern) (s : State) : (sound p s).panel.display = s.panel.display := rfl
@[simp] theorem endDisplay_cycle (s : State) : (endDisplay s).cycle = s.cycle := rfl
@[simp] theorem endDisplay_request (s : State) : (endDisplay s).request = s.request := rfl
@[simp] theorem endDisplay_climate (s : State) : (endDisplay s).climate = s.climate := rfl
@[simp] theorem endDisplay_table (s : State) : (endDisplay s).table = s.table := rfl
@[simp] theorem endDisplay_share (s : State) : (endDisplay s).share = s.share := rfl
@[simp] theorem endDisplay_member (s : State) : (endDisplay s).member = s.member := rfl
@[simp] theorem endDisplay_framer (s : State) : (endDisplay s).framer = s.framer := rfl
@[simp] theorem endDisplay_feeder (s : State) : (endDisplay s).feeder = s.feeder := rfl
@[simp] theorem endDisplay_loads (s : State) : (endDisplay s).loads = s.loads := rfl
@[simp] theorem endDisplay_straps (s : State) : (endDisplay s).straps = s.straps := rfl
@[simp] theorem endDisplay_lines (s : State) : (endDisplay s).lines = s.lines := rfl
@[simp] theorem endDisplay_inReset (s : State) : (endDisplay s).inReset = s.inReset := rfl
@[simp] theorem endDisplay_nonceReads (s : State) : (endDisplay s).nonceReads = s.nonceReads := rfl
@[simp] theorem endDisplay_line (s : State) : (endDisplay s).line = s.line := rfl
@[simp] theorem endDisplay_pending (s : State) : (endDisplay s).pending = s.pending := rfl
@[simp] theorem endDisplay_panel_start (s : State) : (endDisplay s).panel.start = s.panel.start := rfl
@[simp] theorem endDisplay_panel_cancel (s : State) : (endDisplay s).panel.cancel = s.panel.cancel := rfl
@[simp] theorem endDisplay_panel_power (s : State) : (endDisplay s).panel.power = s.panel.power := rfl
@[simp] theorem endDisplay_panel_longPress (s : State) : (endDisplay s).panel.longPress = s.panel.longPress := rfl
@[simp] theorem endDisplay_panel_phaseLamp (s : State) : (endDisplay s).panel.phaseLamp = s.panel.phaseLamp := rfl
@[simp] theorem endDisplay_panel_flash (s : State) : (endDisplay s).panel.flash = s.panel.flash := rfl
@[simp] theorem endDisplay_panel_doneLamp (s : State) : (endDisplay s).panel.doneLamp = s.panel.doneLamp := rfl
@[simp] theorem endDisplay_panel_waitLamp (s : State) : (endDisplay s).panel.waitLamp = s.panel.waitLamp := rfl
@[simp] theorem endDisplay_panel_buzzer (s : State) : (endDisplay s).panel.buzzer = s.panel.buzzer := rfl
@[simp] theorem endDisplay_panel_display (s : State) : (endDisplay s).panel.display = none := rfl
@[simp] theorem endDisplay_faults_active (s : State) : (endDisplay s).faults.active = s.faults.active := rfl
@[simp] theorem endDisplay_faults_waiting (s : State) : (endDisplay s).faults.waiting = s.faults.waiting := rfl
@[simp] theorem endDisplay_faults_history (s : State) : (endDisplay s).faults.history = s.faults.history := rfl
@[simp] theorem endDisplay_faults_code (s : State) : (endDisplay s).faults.code = s.faults.activeCode := rfl

/-! ## Commands -/

/-- A part that takes events acts on one by its effect. -/
theorem live_of_live {s : State} (h : Live s) (f : State → State) : live f s = .next (f s) := by simp [live, h]

/-- A part held in reset takes no event. -/
theorem live_of_reset {s : State} (h : s.inReset = true) (f : State → State) : live f s = .next s := by simp [live, h]

end Sys2Proof.Machine
end

