-- ==== Sys2Proof/Laws/Bits.lean ====
section
/-! SUPPORT. Bit laws: a field of bits reads back as the number it was written from, and the lengths of the frames (R125, R127). -/

namespace Sys2Proof.Machine

@[simp] theorem bitsOf_length (w v : Nat) : (bitsOf w v).length = w := by
  induction w with
  | zero => rfl
  | succ w ih => simp [bitsOf, ih]

/-- Reading bits on from a number already read. -/
theorem valueOf_from (acc : Nat) (bits : List Bool) :
    bits.foldl (fun acc b => 2 * acc + b.toNat) acc = acc * 2 ^ bits.length + valueOf bits := by
  induction bits generalizing acc with
  | nil => simp [valueOf]
  | cons b l ih =>
    rw [List.foldl_cons, ih]
    have h : valueOf (b :: l) = b.toNat * 2 ^ l.length + valueOf l := by
      unfold valueOf; rw [List.foldl_cons, ih]; simp [valueOf]
    rw [h, List.length_cons, pow_succ]; ring

theorem valueOf_cons (b : Bool) (l : List Bool) : valueOf (b :: l) = b.toNat * 2 ^ l.length + valueOf l := by
  have h := valueOf_from b.toNat l
  simpa [valueOf] using h

/-- A field of `w` bits holds a number modulo `2 ^ w`. -/
theorem valueOf_bitsOf (w v : Nat) : valueOf (bitsOf w v) = v % 2 ^ w := by
  induction w with
  | zero => simp [bitsOf, valueOf, Nat.mod_one]
  | succ w ih =>
    rw [bitsOf, valueOf_cons, bitsOf_length, ih, Nat.mod_pow_succ, Nat.testBit_eq_decide_div_mod_eq]
    rcases Nat.mod_two_eq_zero_or_one (v / 2 ^ w) with h | h <;> (simp [h]; try ring)

/-- A field that follows `a` bits and precedes others reads as it was written. -/
theorem fieldAt_append (a b c : List Bool) : fieldAt (a ++ (b ++ c)) a.length b.length = valueOf b := by simp [fieldAt]

/-- The frame lengths of R127. -/
theorem frameBits_length (addr : Nat) (n : Notice) : frameLength n.kind.code = some (frameBits addr n).length := by
  cases n <;> simp [frameBits, frameFields, Notice.kind, NoticeKind.code, frameLength]

/-- The check field of a frame agrees with its other bits. -/
theorem checkAgrees_frameBits (addr : Nat) (n : Notice) : checkAgrees (frameBits addr n) = true := by
  have h : (crc8 (frameFields addr n)).toNat % 256 = (crc8 (frameFields addr n)).toNat :=
    Nat.mod_eq_of_lt (crc8 (frameFields addr n)).isLt
  have e : valueOf (bitsOf 8 (crc8 (frameFields addr n)).toNat) = (crc8 (frameFields addr n)).toNat := by
    rw [valueOf_bitsOf]; exact h
  unfold checkAgrees frameBits fieldAt
  simp only [List.length_append, bitsOf_length, Nat.add_sub_cancel, List.take_left', List.drop_left']
  rw [List.take_of_length_le (by simp), e]
  simp

end Sys2Proof.Machine
end

