-- ==== Sys2Proof/Laws/Frames.lean ====
section
/-! SUPPORT. Frame laws: for each shared operation, what it leaves as it was, in the frames of Safety.lean. A claim about a command
composes these with `trans`, and never unfolds an operation. -/

namespace Sys2Proof.Machine

/-! ## The frames compose -/

theorem KeepsInputs.refl (s : State) : KeepsInputs s s := ⟨rfl, rfl, rfl, rfl, rfl, rfl⟩

theorem KeepsInputs.trans {s t u : State} (h : KeepsInputs s t) (g : KeepsInputs t u) : KeepsInputs s u := by
  unfold KeepsInputs at *; grind

theorem KeepsPhase.refl (s : State) : KeepsPhase s s := rfl

theorem KeepsPhase.trans {s t u : State} (h : KeepsPhase s t) (g : KeepsPhase t u) : KeepsPhase s u := by
  unfold KeepsPhase at *; rw [g, h]

theorem KeepsReadings.refl (s : State) : KeepsReadings s s := by simp [KeepsReadings]

theorem KeepsReadings.trans {s t u : State} (h : KeepsReadings s t) (g : KeepsReadings t u) : KeepsReadings s u := by
  unfold KeepsReadings at *; grind

theorem KeepsStanding.refl (s : State) : KeepsStanding s s := rfl

theorem KeepsStanding.trans {s t u : State} (h : KeepsStanding s t) (g : KeepsStanding t u) : KeepsStanding s u := by
  unfold KeepsStanding at *; rw [g, h]

theorem KeepsShedding.refl (s : State) : KeepsShedding s s := ⟨rfl, rfl, rfl, rfl, rfl⟩

theorem KeepsShedding.trans {s t u : State} (h : KeepsShedding s t) (g : KeepsShedding t u) : KeepsShedding s u := by
  unfold KeepsShedding at *; grind

theorem KeepsGates.refl (s : State) : KeepsGates s s := ⟨rfl, rfl, rfl⟩

theorem KeepsGates.trans {s t u : State} (h : KeepsGates s t) (g : KeepsGates t u) : KeepsGates s u := by
  unfold KeepsGates at *; grind

theorem CabinetFrame.refl (s : State) : CabinetFrame s s :=
  ⟨.refl s, rfl, rfl, .refl s, .refl s, .refl s, rfl, rfl, rfl⟩

theorem CabinetFrame.trans {s t u : State} (h : CabinetFrame s t) (g : CabinetFrame t u) : CabinetFrame s u := by
  obtain ⟨h1, h2, h3, h4, h5, h6, h7, h8, h9⟩ := h
  obtain ⟨g1, g2, g3, g4, g5, g6, g7, g8, g9⟩ := g
  exact ⟨h1.trans g1, g2.trans h2, g3.trans h3, h4.trans g4, h5.trans g5, h6.trans g6, g7.trans h7, g8.trans h8, g9.trans h9⟩

theorem LineFrame.refl (s : State) : LineFrame s s :=
  ⟨.refl s, rfl, .refl s, rfl, .refl s, rfl, rfl, rfl, rfl, rfl, rfl⟩

theorem LineFrame.trans {s t u : State} (h : LineFrame s t) (g : LineFrame t u) : LineFrame s u := by
  obtain ⟨h1, h2, h3, h4, h5, h6, h7, h8, h9, h10, h11⟩ := h
  obtain ⟨g1, g2, g3, g4, g5, g6, g7, g8, g9, g10, g11⟩ := g
  exact ⟨h1.trans g1, g2.trans h2, h3.trans g3, g4.trans h4, h5.trans g5, g6.trans h6, g7.trans h7, g8.trans h8,
    g9.trans h9, g10.trans h10, g11.trans h11⟩

/-- A phase is kept when every item but the starvation flag and seconds is. -/
theorem keepsPhase_iff (s t : State) :
    KeepsPhase s t ↔
      t.cycle.st = s.cycle.st ∧ t.cycle.programme = s.cycle.programme ∧ t.cycle.index = s.cycle.index ∧
        t.cycle.record = s.cycle.record ∧ t.cycle.remaining = s.cycle.remaining ∧ t.cycle.second = s.cycle.second ∧
        t.cycle.boost = s.cycle.boost ∧ t.cycle.latch = s.cycle.latch ∧ t.cycle.context = s.cycle.context ∧
        t.cycle.pause = s.cycle.pause ∧ t.cycle.cancelCool = s.cycle.cancelCool := by
  unfold KeepsPhase
  generalize s.cycle = c
  generalize t.cycle = d
  cases c; cases d; simp

/-- The standing is kept when the eight items that make it are. -/
theorem keepsStanding_iff (s t : State) :
    KeepsStanding s t ↔
      t.member.st = s.member.st ∧ t.member.periodCount = s.member.periodCount ∧
        t.member.nonceCounter = s.member.nonceCounter ∧ t.member.joinNonce = s.member.joinNonce ∧
        t.member.lastClaim = s.member.lastClaim ∧ t.member.returnMark = s.member.returnMark ∧
        t.member.dwell = s.member.dwell ∧ t.member.lineFree = s.member.lineFree := by
  unfold KeepsStanding
  generalize s.member = m
  generalize t.member = n
  cases m; cases n; simp

/-! ## Forming the outputs and the share computation -/

theorem settle_keepsPhase (s : State) : KeepsPhase s (settle s) := by
  unfold KeepsPhase; simp [settle, formStarved, formLamps]

theorem compute_keepsPhase (s : State) : KeepsPhase s (compute s) := settle_keepsPhase _

theorem fillSlot_keepsPhase (k : NoticeKind) (s : State) : KeepsPhase s (fillSlot k s) := by
  unfold fillSlot KeepsPhase; simp only [handFramer_cycle]; exact compute_keepsPhase _

theorem settle_cabinetFrame (s : State) : CabinetFrame s (settle s) := by
  simp [CabinetFrame, KeepsInputs, KeepsStanding, KeepsShedding, KeepsGates]

theorem compute_cabinetFrame (s : State) : CabinetFrame s (compute s) := by
  simp [CabinetFrame, KeepsInputs, KeepsStanding, KeepsShedding, KeepsGates]

theorem settle_lineFrame (s : State) : LineFrame s (settle s) := by
  simp [LineFrame, KeepsInputs, KeepsGates, settle_keepsPhase]

theorem compute_lineFrame (s : State) : LineFrame s (compute s) := by
  simp [LineFrame, KeepsInputs, KeepsGates, compute_keepsPhase]

/-! ## The notice slot -/

theorem fillSlot_cabinetFrame (k : NoticeKind) (s : State) : CabinetFrame s (fillSlot k s) := by
  simp [CabinetFrame, keepsStanding_iff, KeepsInputs, KeepsShedding, KeepsGates]

theorem fillSlot_lineFrame (k : NoticeKind) (s : State) : LineFrame s (fillSlot k s) := by
  simp [LineFrame, keepsPhase_iff, KeepsInputs, KeepsGates]

theorem loadNotice_cabinetFrame (k : NoticeKind) (s : State) : CabinetFrame s (loadNotice k s) := by
  unfold loadNotice
  split
  · exact ⟨.refl s, rfl, rfl, rfl, .refl s, .refl s, rfl, rfl, rfl⟩
  · refine CabinetFrame.trans ?_ (fillSlot_cabinetFrame _ _)
    unfold noteLoad
    split <;> (try split) <;> exact ⟨.refl s, rfl, rfl, rfl, .refl s, .refl s, rfl, rfl, rfl⟩

theorem loadNotice_lineFrame (k : NoticeKind) (s : State) : LineFrame s (loadNotice k s) := by
  unfold loadNotice
  split
  · exact .refl s
  · exact LineFrame.trans (.refl s) (fillSlot_lineFrame _ _)

theorem refreshSlot_cabinetFrame (s : State) : CabinetFrame s (refreshSlot s) := by
  unfold refreshSlot; split
  · exact .refl s
  · exact fillSlot_cabinetFrame _ s

theorem refreshSlot_lineFrame (s : State) : LineFrame s (refreshSlot s) := by
  unfold refreshSlot; split
  · exact .refl s
  · exact fillSlot_lineFrame _ s

theorem endAttempt_cabinetFrame (s : State) : CabinetFrame s (endAttempt s) := by
  unfold endAttempt; dsimp only; split
  · exact CabinetFrame.trans ⟨.refl s, rfl, rfl, rfl, .refl s, .refl s, rfl, rfl, rfl⟩ (loadNotice_cabinetFrame _ _)
  · exact CabinetFrame.trans ⟨.refl s, rfl, rfl, rfl, .refl s, .refl s, rfl, rfl, rfl⟩ (refreshSlot_cabinetFrame _)

theorem endAttempt_lineFrame (s : State) : LineFrame s (endAttempt s) := by
  unfold endAttempt; dsimp only; split
  · exact LineFrame.trans (.refl s) (loadNotice_lineFrame _ _)
  · exact LineFrame.trans (.refl s) (refreshSlot_lineFrame _)

theorem emptySlot_lineFrame (s : State) : LineFrame s (emptySlot s) := .refl s

theorem framerRest_lineFrame (s : State) : LineFrame s (framerRest s) := by
  unfold framerRest; split <;> exact .refl s

theorem startHold_lineFrame (b : Bool) (s : State) : LineFrame s (startHold b s) := by
  unfold startHold; split
  · exact .refl s
  · exact LineFrame.trans (.refl s) (compute_lineFrame _)

theorem setMember_lineFrame (m : MemberState) (s : State) : LineFrame s (setMember m s) := by
  unfold setMember; dsimp only
  refine LineFrame.trans ?_ (compute_lineFrame _)
  exact .refl s

theorem enterJoinListen_lineFrame (s : State) : LineFrame s (enterJoinListen s) := by
  unfold enterJoinListen
  refine LineFrame.trans ?_ (setMember_lineFrame _ _)
  exact .refl s

theorem clearLineFree_lineFrame (s : State) : LineFrame s (clearLineFree s) := by
  unfold clearLineFree; split <;> exact .refl s

theorem frameSeen_lineFrame (s : State) : LineFrame s (frameSeen s) := by
  unfold frameSeen
  refine LineFrame.trans ?_ (clearLineFree_lineFrame _)
  exact .refl s

/-! ## Handing over the requests -/

theorem wantRise_cabinetFrame (w : Nat) (s : State) : CabinetFrame s (wantRise w s) := by
  unfold wantRise; split
  · exact loadNotice_cabinetFrame _ s
  · exact .refl s

/-- Handing over forms the requests from the state it is called in. -/
@[simp] theorem handOver_request (s : State) : (handOver s).request = formRequest s := by
  unfold handOver wantRise; dsimp only; split
  · simp
  · split
    · rw [(loadNotice_lineFrame _ _).2.2.2.2.2.1]; simp
    · simp

theorem handOver_keepsPhase (s : State) : KeepsPhase s (handOver s) := by
  unfold handOver; dsimp only; split
  · exact settle_keepsPhase { s with request := formRequest s }
  · unfold wantRise; split
    · exact KeepsPhase.trans (compute_keepsPhase { s with request := formRequest s }) (loadNotice_lineFrame _ _).2.2.1
    · exact compute_keepsPhase { s with request := formRequest s }

theorem handOver_cabinetFrame (s : State) : CabinetFrame s (handOver s) := by
  have h : CabinetFrame s { s with request := formRequest s } := ⟨.refl s, rfl, rfl, rfl, .refl s, .refl s, rfl, rfl, rfl⟩
  unfold handOver; dsimp only; split
  · exact h.trans (settle_cabinetFrame _)
  · exact h.trans ((compute_cabinetFrame _).trans (wantRise_cabinetFrame _ _))

/-- Handing over leaves the readings, the dry watch, the faults and the panel's keys, buzzer and display. -/
theorem handOver_keeps (s : State) :
    (handOver s).climate = s.climate ∧ (handOver s).faults = s.faults ∧ (handOver s).panel.start = s.panel.start ∧
      (handOver s).panel.cancel = s.panel.cancel ∧ (handOver s).panel.power = s.panel.power ∧
      (handOver s).panel.longPress = s.panel.longPress ∧ (handOver s).panel.buzzer = s.panel.buzzer ∧
      (handOver s).panel.display = s.panel.display := by
  unfold handOver wantRise loadNotice
  dsimp only
  split
  · simp
  · split
    · split <;> simp
    · simp

/-- With the requests already as the state gives them, handing over only forms the outputs afresh. -/
theorem handOver_of_fresh {s : State} (h : s.request = formRequest s) : handOver s = settle s := by
  unfold handOver; simp [← h]

/-! ## Cycle, faults and phases -/

theorem sound_cabinetFrame (p : Pattern) (s : State) : CabinetFrame s (sound p s) :=
  ⟨.refl s, rfl, rfl, rfl, .refl s, .refl s, rfl, rfl, rfl⟩

theorem endDisplay_cabinetFrame (s : State) : CabinetFrame s (endDisplay s) :=
  ⟨.refl s, rfl, rfl, rfl, .refl s, .refl s, rfl, rfl, rfl⟩

theorem leaveTo_cabinetFrame (st : CycleState) (s : State) : CabinetFrame s (leaveTo st s) := by
  unfold leaveTo; dsimp only; split <;> exact ⟨.refl s, rfl, rfl, rfl, .refl s, .refl s, rfl, rfl, rfl⟩

theorem holdCycle_cabinetFrame (s : State) : CabinetFrame s (holdCycle s) :=
  CabinetFrame.trans ⟨.refl s, rfl, rfl, rfl, .refl s, .refl s, rfl, rfl, rfl⟩ (handOver_cabinetFrame _)

theorem haltCycle_cabinetFrame (s : State) : CabinetFrame s (haltCycle s) :=
  (leaveTo_cabinetFrame _ s).trans (handOver_cabinetFrame _)

theorem activate_cabinetFrame (s : State) : CabinetFrame s (activate s) := by
  unfold activate; dsimp only; split
  · exact endDisplay_cabinetFrame s
  · split
    · exact (endDisplay_cabinetFrame s).trans ⟨.refl s, rfl, rfl, rfl, .refl s, .refl s, rfl, rfl, rfl⟩
    · exact endDisplay_cabinetFrame s

theorem cycleOnClass_cabinetFrame (s : State) : CabinetFrame s (cycleOnClass s) := by
  unfold cycleOnClass
  split
  · split <;> first | exact haltCycle_cabinetFrame s | exact handOver_cabinetFrame s
  · split
    · exact holdCycle_cabinetFrame s
    · exact handOver_cabinetFrame s
  · exact handOver_cabinetFrame s
  · exact handOver_cabinetFrame s

theorem raiseFault_cabinetFrame (k : FaultKind) (s : State) : CabinetFrame s (raiseFault k s) := by
  have h : CabinetFrame s { s with faults := raiseInto k s.faults } := ⟨.refl s, rfl, rfl, rfl, .refl s, .refl s, rfl, rfl, rfl⟩
  unfold raiseFault; dsimp only; split
  · exact h.trans (settle_cabinetFrame _)
  · exact h.trans ((activate_cabinetFrame _).trans (cycleOnClass_cabinetFrame _))

theorem checkWater_cabinetFrame (s : State) : CabinetFrame s (checkWater s) := by
  unfold checkWater; split
  · exact raiseFault_cabinetFrame _ s
  · exact .refl s

theorem enterPhase_cabinetFrame (i : Nat) (r : Record) (s : State) : CabinetFrame s (enterPhase i r s) := by
  unfold enterPhase
  refine CabinetFrame.trans ?_ ((handOver_cabinetFrame _).trans (checkWater_cabinetFrame _))
  exact ⟨.refl s, rfl, rfl, rfl, .refl s, .refl s, rfl, rfl, rfl⟩

theorem completeCycle_cabinetFrame (s : State) : CabinetFrame s (completeCycle s) :=
  (leaveTo_cabinetFrame _ s).trans ((handOver_cabinetFrame _).trans (sound_cabinetFrame _ _))

theorem endPhase_cabinetFrame (s : State) : CabinetFrame s (endPhase s) := by
  unfold endPhase; split
  · exact enterPhase_cabinetFrame _ _ s
  · exact completeCycle_cabinetFrame s

theorem checkDryPoint_cabinetFrame (s : State) : CabinetFrame s (checkDryPoint s) := by
  unfold checkDryPoint; split
  · exact endPhase_cabinetFrame s
  · exact .refl s

theorem returnToRunning_cabinetFrame (s : State) : CabinetFrame s (returnToRunning s) := by
  unfold returnToRunning
  refine CabinetFrame.trans ?_
    ((handOver_cabinetFrame _).trans ((checkDryPoint_cabinetFrame _).trans (checkWater_cabinetFrame _)))
  exact ⟨.refl s, rfl, rfl, rfl, .refl s, .refl s, rfl, rfl, rfl⟩

theorem cycleOnFall_cabinetFrame (b : Option FaultClass) (s : State) : CabinetFrame s (cycleOnFall b s) := by
  unfold cycleOnFall; split
  · exact returnToRunning_cabinetFrame s
  · exact cycleOnClass_cabinetFrame s

theorem withdrawCore_cabinetFrame (k : FaultKind) (s : State) : CabinetFrame s (withdrawCore k s) := by
  have h : CabinetFrame s { s with faults := withdrawFrom k s.faults } :=
    ⟨.refl s, rfl, rfl, rfl, .refl s, .refl s, rfl, rfl, rfl⟩
  unfold withdrawCore; dsimp only; split
  · exact h.trans (settle_cabinetFrame _)
  · exact h.trans ((activate_cabinetFrame _).trans (cycleOnFall_cabinetFrame _ _))

theorem checkLock_cabinetFrame (s : State) : CabinetFrame s (checkLock s) := by
  unfold checkLock; split
  · exact withdrawCore_cabinetFrame _ s
  · exact .refl s

theorem withdrawFault_cabinetFrame (k : FaultKind) (s : State) : CabinetFrame s (withdrawFault k s) :=
  (withdrawCore_cabinetFrame k s).trans (checkLock_cabinetFrame _)

theorem reportFault_cabinetFrame (k : FaultKind) (b : Bool) (s : State) : CabinetFrame s (reportFault k b s) := by
  unfold reportFault; split
  · exact .refl s
  · split
    · exact (raiseFault_cabinetFrame k s).trans (checkLock_cabinetFrame _)
    · exact withdrawFault_cabinetFrame k s

theorem evalOverTemp_cabinetFrame (s : State) : CabinetFrame s (evalOverTemp s) :=
  CabinetFrame.trans ⟨.refl s, rfl, rfl, rfl, .refl s, .refl s, rfl, rfl, rfl⟩ (reportFault_cabinetFrame _ _ _)

theorem climateUpdate_cabinetFrame (s : State) : CabinetFrame s (climateUpdate s) := by
  unfold climateUpdate; dsimp only
  refine CabinetFrame.trans ?_ ((handOver_cabinetFrame _).trans (checkLock_cabinetFrame _))
  split
  · exact CabinetFrame.trans ⟨.refl s, rfl, rfl, rfl, .refl s, .refl s, rfl, rfl, rfl⟩ (leaveTo_cabinetFrame _ _)
  · exact ⟨.refl s, rfl, rfl, rfl, .refl s, .refl s, rfl, rfl, rfl⟩

end Sys2Proof.Machine
end

