-- ==== Sys2Proof/Laws/Settle.lean ====
section
/-! SUPPORT. Settling laws: forming the outputs twice is forming them once, and what the outputs depend on. -/

namespace Sys2Proof.Machine

/-! ## The values formed -/

@[simp] theorem formLock_loads_fan (s : State) : (formLock s).loads.fan = s.loads.fan := by unfold formLock; grind
@[simp] theorem formLock_loads_tachConfirmed (s : State) : (formLock s).loads.tachConfirmed = s.loads.tachConfirmed := by
  unfold formLock; grind
@[simp] theorem formLock_loads_tachWatchdog (s : State) : (formLock s).loads.tachWatchdog = s.loads.tachWatchdog := by
  unfold formLock; grind
@[simp] theorem formFan_loads_fan (s : State) : (formFan s).loads.fan = fanCommand s := by
  unfold formFan driveFan; grind

/-- The fan outputs once the command is formed (R157). -/
theorem formFan_fanDriven (s : State) : FanDriven (formFan s).loads := by
  unfold formFan driveFan FanDriven; dsimp only; split
  · exact ⟨rfl, rfl⟩
  · split <;> exact ⟨rfl, rfl⟩

theorem formLock_fanOuts (s : State) :
    (formLock s).loads.fanFirst = s.loads.fanFirst ∧ (formLock s).loads.fanSecond = s.loads.fanSecond := by
  unfold formLock; grind
@[simp] theorem formLock_loads_lock (s : State) : (formLock s).loads.lock = s.request.lock := by unfold formLock; grind

@[simp] theorem settle_loads_fan (s : State) : (settle s).loads.fan = fanCommand s := by
  simp [settle, formStarved, formLevels, formLamps]

@[simp] theorem settle_loads_lock (s : State) : (settle s).loads.lock = s.request.lock := by
  simp [settle, formStarved, formLevels, formLamps]

theorem settle_loads_tachConfirmed (s : State) : (settle s).loads.tachConfirmed = (formFan s).loads.tachConfirmed := by
  simp [settle, formStarved, formLevels, formLamps]

theorem settle_loads_tachWatchdog (s : State) : (settle s).loads.tachWatchdog = (formFan s).loads.tachWatchdog := by
  simp [settle, formStarved, formLevels, formLamps]

/-- The fan outputs carry the command whenever the outputs are formed (R157). -/
theorem settle_fanDriven (s : State) : FanDriven (settle s).loads := by
  have h := formFan_fanDriven s
  simp only [FanDriven, settle, formStarved, formLevels, formLamps, formLock_loads_fan, formLock_fanOuts] at h ⊢
  exact h

/-- Draw is the sum of the two levels once the outputs are formed (R150, R151). -/
theorem settle_draw (s : State) : (settle s).loads.draw = (settle s).loads.steamLevel + (settle s).loads.heaterLevel := rfl

/-! ## Forming twice -/

theorem formFan_of_formed {s : State} (h : s.loads.fan = fanCommand s) (hd : FanDriven s.loads)
    (h0 : s.loads.fan = 0 → s.loads.tachConfirmed = false ∧ s.loads.tachWatchdog = none) : formFan s = s := by
  have e : driveFan (fanCommand s) s.loads = s.loads := by simp [driveFan, ← h, ← hd.1, ← hd.2]
  unfold formFan
  rw [e]
  dsimp only
  split
  · next hz => obtain ⟨a, b⟩ := h0 hz; simp [← a, ← b]
  · next hz => simp

theorem formLock_of_formed {s : State} (h : s.loads.lock = s.request.lock) : formLock s = s := by
  unfold formLock; simp [h]

theorem fanCommand_settle (s : State) : fanCommand (settle s) = fanCommand s := by simp [fanCommand]

theorem loadsForced_settle (s : State) : loadsForced (settle s) = loadsForced (formLock (formFan s)) := by
  simp [loadsForced, settle_loads_tachConfirmed]

theorem formFan_settle (s : State) : formFan (settle s) = settle s := by
  refine formFan_of_formed (by simp [fanCommand_settle]) (settle_fanDriven s) ?_
  rw [settle_loads_fan, settle_loads_tachConfirmed, settle_loads_tachWatchdog]
  intro h; unfold formFan driveFan; simp [h]

theorem formLevels_settle (s : State) : formLevels (settle s) = settle s := by
  have h := loadsForced_settle s
  unfold formLevels
  simp only [h, settle_share, settle_request, settle_lines, settle_feeder]
  simp [settle, formLamps, formStarved, formLevels]

theorem formStarved_settle (s : State) : formStarved (settle s) = settle s := by
  have h : starvation (settle s) = starvation (formLevels (formLock (formFan s))) := by
    simp [starvation, settle, formLamps, formStarved, Cycle.kind]
  unfold formStarved
  rw [h]
  simp [settle, formLamps, formStarved]
  grind

theorem formLamps_formLamps (s : State) : formLamps (formLamps s) = formLamps s := by
  have hc : (formLamps s).cycle = s.cycle := rfl
  unfold formLamps
  dsimp only
  generalize phaseLampFor s.cycle = target
  by_cases h : target.flashes = none
  · simp [h]
  · by_cases g : target.flashes = s.panel.phaseLamp.flashes <;> (simp [h, g]; try grind)

/-- Forming the outputs of formed outputs changes nothing. -/
theorem settle_settle (s : State) : settle (settle s) = settle s := by
  show formLamps (formStarved (formLevels (formLock (formFan (settle s))))) = settle s
  rw [formFan_settle, formLock_of_formed (by simp), formLevels_settle, formStarved_settle]
  exact formLamps_formLamps _

/-! ## What forming the outputs gives -/

/-- Forming the outputs divides the allowance (R150, R151). -/
theorem loadsDivided_settle (s : State) : LoadsDivided (settle s) := by
  have hb : ∀ f : FaultUnit, f.blocking = true ↔ f.activeClass = some .a ∨ f.activeClass = some .b := by
    intro f; simp [FaultUnit.blocking]
  refine ⟨?_, ?_, ?_, ?_, ?_, ?_, ?_, ?_⟩
  all_goals simp [settle, formLamps, formStarved, formLevels, assignedSteam, assignedHeater, steamMinimum, loadsForced, hb]
  all_goals grind

/-- Forming the outputs sets the starvation flag where the phase is starved (R21). -/
theorem starvedWhere_settle (s : State) : StarvedWhere (settle s) := by
  unfold StarvedWhere
  simp only [settle, formLamps, formStarved]
  unfold starvation dryMinimum
  have hk : (formLevels (formLock (formFan s))).cycle = s.cycle := by simp
  simp only [Cycle.kind, hk]
  generalize s.cycle.record.map Record.kind = k
  cases k with
  | none => simp
  | some k => cases k <;> simp

/-- Forming the outputs forms the fan command by the table of R157. -/
theorem fanByTable_settle (s : State) : FanByTable (settle s) := by
  refine ⟨?_, ?_, settle_fanDriven s⟩
  all_goals
    have hc : (settle s).cycle.st = s.cycle.st := by simp [settle, formLamps, formStarved, formLevels]
    simp only [settle_loads_fan, fanCommand, settle_lines, settle_request, settle_faults, hc]
    grind

/-- Forming the outputs forms lock command, valve and counts (R155, R159, R160). -/
theorem gatesFollow_settle (s : State) : GatesFollow (settle s) := by
  refine ⟨by simp, ?_, ?_, ?_⟩
  · simp [settle, formLamps, formStarved, formLevels, steamMinimum]; grind
  · simp [settle, formLamps, formStarved, formLevels, firingCount, heaterRating]
  · simp [settle, formLamps, formStarved, formLevels, firingCount, steamRating]

/-- Forming the outputs sets a phase lamp that is not to flash as the cycle asks, and one that is flashes for its kind (R175). -/
theorem settle_phaseLamp (s : State) :
    ((phaseLampFor s.cycle).flashes = none → (settle s).panel.phaseLamp = phaseLampFor s.cycle) ∧
      ∀ k, phaseLampFor s.cycle = .flashing k true → ∃ on, (settle s).panel.phaseLamp = .flashing k on := by
  have hl : (settle s).panel.phaseLamp =
      if (phaseLampFor s.cycle).flashes ≠ none ∧ (phaseLampFor s.cycle).flashes = s.panel.phaseLamp.flashes then
        s.panel.phaseLamp else phaseLampFor s.cycle := by
    simp [settle, formLamps, phaseLampFor, formStarved, formLevels, Cycle.kind]
  refine ⟨fun h => by rw [hl, if_neg (by simp [h])], fun k h => ?_⟩
  rw [hl, h]
  cases hs : s.panel.phaseLamp <;> simp [PhaseLamp.flashes]
  grind

/-- Forming the outputs forms the lamps by the table of R175. -/
theorem lampsByTable_settle (s : State) : LampsByTable (settle s) := by
  have hst : (settle s).cycle.st = s.cycle.st := by simp [settle, formLamps, formStarved, formLevels]
  have hk : (settle s).cycle.kind = s.cycle.kind := by simp [settle, formLamps, formStarved, formLevels, Cycle.kind]
  refine ⟨?_, by simp [settle, formLamps, formStarved, formLevels], by simp [settle, formLamps, formStarved, formLevels]⟩
  obtain ⟨h1, h2⟩ := settle_phaseLamp s
  rw [hst, hk]
  unfold phaseLampFor at h1 h2
  cases hc : s.cycle.st <;> cases hr : s.cycle.kind <;> simp [hc, hr, PhaseLamp.flashes] at h1 h2 ⊢ <;> assumption

/-- Forming the outputs gives each by its rule. -/
theorem outputsByRule_settle (s : State) : OutputsByRule (settle s) :=
  ⟨loadsDivided_settle s, starvedWhere_settle s, fanByTable_settle s, gatesFollow_settle s, lampsByTable_settle s⟩

/-- Requests as the cycle forms them are those of the tables (R22, R24, R25, R29 to R31). -/
theorem requestTabled_of_formed {s : State} (h : s.request = formRequest s) : RequestTabled s := by
  obtain ⟨⟨st, _, _, record, _, _, _, _, _, latch, _, _, _⟩, req⟩ := s
  dsimp only at h
  rw [h]
  cases record with
  | none =>
    cases st <;> simp [RequestTabled, formRequest, steamPart, heaterPart, classOf, fanRequest, lockRequest, Cycle.steaming,
      Cycle.kind] <;> simp [lockTemp]
  | some r =>
    cases st <;> cases hk : r.kind <;> simp [RequestTabled, formRequest, steamPart, heaterPart, classOf, fanRequest, lockRequest,
      Cycle.steaming, Cycle.kind, hk, PhaseKind.usesSteam, PhaseKind.needsLock, PhaseKind.cls] <;> simp [lockTemp]

/-! ## What the outputs depend on -/

/-- The two states agree in all that the outputs are formed from, and in the outputs. -/
structure SameOutputs (s t : State) : Prop where
  cycle : t.cycle = s.cycle
  request : t.request = s.request
  lines : t.lines = s.lines
  loads : t.loads = s.loads
  allowance : t.share.allowance = s.share.allowance
  window : t.feeder.window = s.feeder.window
  active : t.faults.active = s.faults.active
  waiting : t.faults.waiting = s.faults.waiting
  phaseLamp : t.panel.phaseLamp = s.panel.phaseLamp
  flash : t.panel.flash = s.panel.flash
  doneLamp : t.panel.doneLamp = s.panel.doneLamp
  waitLamp : t.panel.waitLamp = s.panel.waitLamp

theorem SameOutputs.fanLoads {s t : State} (h : SameOutputs s t) : (formFan t).loads = (formFan s).loads := by
  have e : fanCommand t = fanCommand s := by
    simp [fanCommand, FaultUnit.holds, h.lines, h.cycle, h.request, h.active, h.waiting]
  unfold formFan
  rw [e, h.loads]
  grind

theorem SameOutputs.lockLoads {s t : State} (h : SameOutputs s t) :
    (formLock (formFan t)).loads = (formLock (formFan s)).loads := by
  unfold formLock
  simp only [formFan_request, formFan_lines, h.request, h.lines, h.fanLoads]
  split <;> simp [h.fanLoads]

theorem SameOutputs.forced {s t : State} (h : SameOutputs s t) :
    loadsForced (formLock (formFan t)) = loadsForced (formLock (formFan s)) := by
  simp [loadsForced, FaultUnit.blocking, FaultUnit.activeClass, h.lockLoads, h.lines, h.cycle, h.active]

theorem SameOutputs.levelLoads {s t : State} (h : SameOutputs s t) :
    (formLevels (formLock (formFan t))).loads = (formLevels (formLock (formFan s))).loads := by
  simp [formLevels, h.forced, h.lockLoads, h.lines, h.request, h.allowance, h.window]

theorem SameOutputs.starvedCycle {s t : State} (h : SameOutputs s t) :
    (formStarved (formLevels (formLock (formFan t)))).cycle =
      (formStarved (formLevels (formLock (formFan s)))).cycle := by
  simp [formStarved, starvation, h.levelLoads, h.cycle, h.request]

/-- Formed outputs stay formed in a state that agrees in all they depend on: whatever changes only membership, framer, Peer Table,
readings, straps, keys, buzzer, history or queue leaves them formed. -/
theorem SameOutputs.settled {s t : State} (h : SameOutputs s t) (hs : settle s = s) : settle t = t := by
  have hl : (settle t).loads = t.loads := by
    rw [h.loads, ← congrArg State.loads hs]; exact h.levelLoads
  have hc : (settle t).cycle = t.cycle := by
    rw [h.cycle, ← congrArg State.cycle hs]; exact h.starvedCycle
  have hp : (settle t).panel = t.panel := by
    have e := congrArg State.panel hs
    have c := h.starvedCycle
    simp only [settle, formLamps, c, formStarved_panel, formStarved_share, formStarved_request, formLevels_panel,
      formLevels_share, formLevels_request, formLock_panel, formLock_share, formLock_request, formFan_panel, formFan_share,
      formFan_request, h.phaseLamp, h.flash, h.allowance, h.request] at e ⊢
    have e1 := congrArg Panel.phaseLamp e
    have e2 := congrArg Panel.flash e
    have e3 := congrArg Panel.doneLamp e
    have e4 := congrArg Panel.waitLamp e
    simp only at e1 e2 e3 e4
    rw [e1, e2, e3, e4, ← h.phaseLamp, ← h.flash, ← h.doneLamp, ← h.waitLamp]
  have he : settle t = { t with cycle := (settle t).cycle, loads := (settle t).loads, panel := (settle t).panel } := by
    simp [settle, formLamps, formStarved, formLevels]
  rw [he, hl, hc, hp]

end Sys2Proof.Machine
end

