-- ==== Sys2Proof/Laws/Faults.lean ====
section
/-! SUPPORT. Fault Unit laws: what a raise and a withdraw do to the faults held and to their order (R163, R165, R166), and what a
class C fault leaves alone (R168). -/

namespace Sys2Proof.Machine

/-! ## Membership in the pending list -/

theorem mem_joinWaiting (j k : FaultKind) (l : List FaultKind) : j ∈ joinWaiting k l ↔ j = k ∨ j ∈ l := by
  induction l with
  | nil => simp [joinWaiting]
  | cons x l ih => unfold joinWaiting; split <;> (simp [ih]; try grind)

theorem mem_preemptWaiting (j k : FaultKind) (l : List FaultKind) : j ∈ preemptWaiting k l ↔ j = k ∨ j ∈ l := by
  induction l with
  | nil => simp [preemptWaiting]
  | cons x l ih => unfold preemptWaiting; split <;> (simp [ih]; try grind)

theorem holds_iff (f : FaultUnit) (k : FaultKind) : f.holds k = true ↔ f.active = some k ∨ k ∈ f.waiting := by
  simp [FaultUnit.holds]

/-- After a raise the kind is held with all that was held before (R165). -/
theorem raiseInto_holds (j k : FaultKind) (f : FaultUnit) :
    (raiseInto k f).holds j = true ↔ j = k ∨ f.holds j = true := by
  unfold raiseInto
  split
  · next h => grind
  · split
    · next h => simp [holds_iff, h]; grind
    · next x h =>
      split <;> simp [holds_iff, h, mem_preemptWaiting, mem_joinWaiting] <;> grind

/-! ## The order of the list -/

theorem joinWaiting_ordered {k : FaultKind} {l : List FaultKind} (hk : k ∉ l) (hn : l.Nodup)
    (hp : l.Pairwise fun a b => a.rank ≤ b.rank) :
    (joinWaiting k l).Nodup ∧ (joinWaiting k l).Pairwise fun a b => a.rank ≤ b.rank := by
  induction l with
  | nil => simp [joinWaiting]
  | cons x l ih =>
    simp only [List.mem_cons, not_or, List.nodup_cons, List.pairwise_cons] at hk hn hp
    obtain ⟨i1, i2⟩ := ih hk.2 hn.2 hp.2
    unfold joinWaiting; split
    · next hx =>
      refine ⟨List.nodup_cons.2 ⟨?_, i1⟩, List.pairwise_cons.2 ⟨?_, i2⟩⟩
      · rw [mem_joinWaiting]; grind
      · intro b hb; rw [mem_joinWaiting] at hb; grind
    · next hx =>
      refine ⟨?_, List.pairwise_cons.2 ⟨?_, List.pairwise_cons.2 hp⟩⟩
      · simp only [List.nodup_cons, List.mem_cons]; grind
      · intro b hb
        rcases List.mem_cons.1 hb with rfl | hb
        · omega
        · have := hp.1 b hb; omega

theorem preemptWaiting_ordered {k : FaultKind} {l : List FaultKind} (hk : k ∉ l) (hn : l.Nodup)
    (hp : l.Pairwise fun a b => a.rank ≤ b.rank) :
    (preemptWaiting k l).Nodup ∧ (preemptWaiting k l).Pairwise fun a b => a.rank ≤ b.rank := by
  induction l with
  | nil => simp [preemptWaiting]
  | cons x l ih =>
    simp only [List.mem_cons, not_or, List.nodup_cons, List.pairwise_cons] at hk hn hp
    obtain ⟨i1, i2⟩ := ih hk.2 hn.2 hp.2
    unfold preemptWaiting; split
    · next hx =>
      refine ⟨List.nodup_cons.2 ⟨?_, i1⟩, List.pairwise_cons.2 ⟨?_, i2⟩⟩
      · rw [mem_preemptWaiting]; grind
      · intro b hb; rw [mem_preemptWaiting] at hb; rcases hb with rfl | hb
        · omega
        · exact hp.1 b hb
    · next hx =>
      refine ⟨?_, List.pairwise_cons.2 ⟨?_, List.pairwise_cons.2 hp⟩⟩
      · simp only [List.nodup_cons, List.mem_cons]; grind
      · intro b hb
        rcases List.mem_cons.1 hb with rfl | hb
        · omega
        · have := hp.1 b hb; omega

/-- A raise keeps the order (R165). -/
theorem raiseInto_ordered {k : FaultKind} {f : FaultUnit} (h : FaultsOrdered f) : FaultsOrdered (raiseInto k f) := by
  unfold raiseInto
  split
  · exact h
  · next hh =>
    obtain ⟨hn, hp, ha⟩ := h
    rw [Bool.not_eq_true, ← Bool.not_eq_true, holds_iff, not_or] at hh
    split
    · next e => rw [e] at ha; exact ⟨hn, hp, by simp [ha]⟩
    · next x e =>
      rw [e] at ha hh
      split
      · next lt =>
        obtain ⟨p1, p2⟩ := preemptWaiting_ordered ha.1 hn hp
        refine ⟨p1, p2, ?_, ?_⟩
        · show k ∉ preemptWaiting x f.waiting
          rw [mem_preemptWaiting]; grind
        · intro j hj
          rw [mem_preemptWaiting] at hj
          rcases hj with rfl | hj
          · omega
          · have := ha.2 j hj; omega
      · next ge =>
        obtain ⟨p1, p2⟩ := joinWaiting_ordered hh.2 hn hp
        refine ⟨p1, p2, ?_⟩
        simp only [e]
        constructor
        · rw [mem_joinWaiting]; grind
        · intro j hj
          rw [mem_joinWaiting] at hj
          rcases hj with rfl | hj
          · omega
          · exact ha.2 j hj

/-- A withdraw keeps the order (R166). -/
theorem withdrawFrom_ordered {k : FaultKind} {f : FaultUnit} (h : FaultsOrdered f) : FaultsOrdered (withdrawFrom k f) := by
  obtain ⟨hn, hp, ha⟩ := h
  unfold withdrawFrom
  split
  · next e =>
    split
    · next w => exact ⟨by simp [w], by simp [w], w⟩
    · next j rest w =>
      rw [w] at hn hp
      simp only [List.nodup_cons, List.pairwise_cons] at hn hp
      exact ⟨hn.2, hp.2, hn.1, hp.1⟩
  · next e =>
    refine ⟨hn.filter _, hp.filter _, ?_⟩
    cases ea : f.active with
    | none => rw [ea] at ha; simp only at ha; simp [ha]
    | some x =>
      rw [ea] at ha; simp only at ha ⊢
      exact ⟨fun hm => ha.1 (List.mem_filter.1 hm).1, fun j hj => ha.2 j (List.mem_filter.1 hj).1⟩

/-- After a withdraw from an ordered list all is held but the kind withdrawn (R166). -/
theorem withdrawFrom_holds {f : FaultUnit} (h : FaultsOrdered f) (j k : FaultKind) :
    (withdrawFrom k f).holds j = true ↔ j ≠ k ∧ f.holds j = true := by
  obtain ⟨hn, hp, ha⟩ := h
  unfold withdrawFrom
  split
  · next e =>
    rw [e] at ha
    split
    · next w => simp [holds_iff, w, e]; grind
    · next x rest w => simp only [holds_iff, w, e] at ha ⊢; grind
  · next e => simp only [holds_iff, List.mem_filter]; grind

/-! ## What reaches the cycle -/

@[simp] theorem cycleOnClass_of_calm {s : State} (ha : s.faults.blocking = false) : cycleOnClass s = handOver s := by
  unfold cycleOnClass
  cases h : s.faults.activeClass with
  | none => rfl
  | some x => cases x <;> simp_all [FaultUnit.blocking]

theorem activate_faults (s : State) :
    (activate s).faults.active = s.faults.active ∧ (activate s).faults.waiting = s.faults.waiting := by
  unfold activate; dsimp only; split
  · exact ⟨rfl, rfl⟩
  · split <;> exact ⟨rfl, rfl⟩

/-- Where the cycle takes the class, only the cycle's own effects follow: the faults stay. -/
theorem cycleOnClass_faults (s : State) :
    (cycleOnClass s).faults.active = s.faults.active ∧ (cycleOnClass s).faults.waiting = s.faults.waiting ∧
      (cycleOnClass s).faults.history = s.faults.history := by
  have hl : ∀ t : State, (leaveTo .halted t).faults.active = t.faults.active ∧
      (leaveTo .halted t).faults.waiting = t.faults.waiting ∧ (leaveTo .halted t).faults.history = t.faults.history := by
    intro t; unfold leaveTo; dsimp only; split <;> exact ⟨rfl, rfl, rfl⟩
  unfold cycleOnClass haltCycle holdCycle
  split
  · split <;> simp [handOver_keeps, hl]
  · split <;> simp [handOver_keeps]
  · simp [handOver_keeps]
  · simp [handOver_keeps]

/-- After a raise the Fault Unit holds what `raiseInto` gives (R165). -/
theorem raiseFault_faults (k : FaultKind) (s : State) :
    (raiseFault k s).faults.active = (raiseInto k s.faults).active ∧
      (raiseFault k s).faults.waiting = (raiseInto k s.faults).waiting := by
  unfold raiseFault; dsimp only; split
  · simp
  · obtain ⟨a, b, -⟩ := cycleOnClass_faults (activate { s with faults := raiseInto k s.faults })
    obtain ⟨c, d⟩ := activate_faults { s with faults := raiseInto k s.faults }
    exact ⟨a.trans c, b.trans d⟩

/-! ## A class C fault -/

theorem formRequest_congr {s t : State} (hc : t.cycle = s.cycle) (hl : t.lines = s.lines) (hm : t.climate = s.climate) :
    formRequest t = formRequest s := by
  simp [formRequest, hc, hl, hm]

theorem activate_keeps (s : State) :
    (activate s).cycle = s.cycle ∧ (activate s).lines = s.lines ∧ (activate s).climate = s.climate ∧
      (activate s).request = s.request := by
  unfold activate; dsimp only; split
  · simp
  · split <;> simp [sound]

theorem activate_lineFrame_of_classC {s : State} (h : s.faults.activeClass = some .c ∨ s.faults.activeClass = none) :
    LineFrame s (activate s) := by
  unfold activate; dsimp only; split
  · exact .refl s
  · next k e =>
    split
    · next ha =>
      rw [endDisplay_faults_active] at e
      simp [FaultUnit.activeClass, e, ha] at h
    · exact .refl s

/-- Where the new active fault is of class C, or there is none, and the requests stand, the change only forms the outputs and the
code lines afresh. -/
theorem cycleOnClass_activate_lineFrame {s : State} (hr : s.request = formRequest s)
    (h : s.faults.activeClass = some .c ∨ s.faults.activeClass = none) :
    LineFrame s (cycleOnClass (activate s)) ∧ cycleOnClass (activate s) = settle (activate s) := by
  obtain ⟨a1, a2, a3, a4⟩ := activate_keeps s
  have hb : (activate s).faults.blocking = false := by
    unfold FaultUnit.blocking FaultUnit.activeClass at *
    rw [(activate_faults s).1]
    rcases h with h | h <;> simp [h]
  have e : cycleOnClass (activate s) = settle (activate s) := by
    rw [cycleOnClass_of_calm hb, handOver_of_fresh]
    rw [a4, hr, formRequest_congr a1 a2 a3]
  exact ⟨by rw [e]; exact (activate_lineFrame_of_classC h).trans (settle_lineFrame _), e⟩

theorem rank_two_iff (k : FaultKind) : k.rank = 2 ↔ k.cls = .c := by cases k <;> simp [FaultKind.rank, FaultKind.cls, FaultClass.rank]

theorem rank_le_two (k : FaultKind) : k.rank ≤ 2 := by cases k <;> simp [FaultKind.rank, FaultKind.cls, FaultClass.rank]

/-- A raise of a class C kind touches nothing of the cycle (R168). -/
theorem raiseFault_lineFrame_of_classC {k : FaultKind} (hk : k.cls = .c) {s : State} (hr : s.request = formRequest s) :
    LineFrame s (raiseFault k s) ∧ (raiseFault k s).loads.lock = s.request.lock := by
  unfold raiseFault; dsimp only; split
  · exact ⟨LineFrame.trans (.refl s) (settle_lineFrame _), by simp⟩
  · next hne =>
    have hc : ({ s with faults := raiseInto k s.faults } : State).faults.activeClass = some .c := by
      simp only
      revert hne
      unfold raiseInto FaultUnit.activeClass
      split
      · simp
      · split
        · simp [hk]
        · next x e =>
          have := rank_le_two x
          have := (rank_two_iff k).2 hk
          split
          · omega
          · simp
    obtain ⟨l, e⟩ := cycleOnClass_activate_lineFrame (s := { s with faults := raiseInto k s.faults })
      (hr.trans (formRequest_congr rfl rfl rfl).symm) (.inl hc)
    refine ⟨LineFrame.trans ?_ l, ?_⟩
    · exact .refl s
    · rw [e, settle_loads_lock, (activate_keeps _).2.2.2]

/-- A withdraw of a class C kind touches nothing of the cycle (R168). -/
theorem withdrawCore_lineFrame_of_classC {k : FaultKind} (hk : k.cls = .c) {s : State} (hf : FaultsOrdered s.faults)
    (hr : s.request = formRequest s) :
    LineFrame s (withdrawCore k s) ∧ (withdrawCore k s).loads.lock = s.request.lock ∧
      (withdrawCore k s).faults.active = (withdrawFrom k s.faults).active ∧
      (withdrawCore k s).faults.waiting = (withdrawFrom k s.faults).waiting := by
  unfold withdrawCore; dsimp only; split
  · refine ⟨LineFrame.trans (.refl s) (settle_lineFrame _), ?_, ?_, ?_⟩ <;> simp
  · next hne =>
    have ha : s.faults.active = some k := by
      by_contra h; simp [withdrawFrom, h] at hne
    have hb : s.faults.activeClass = some .c := by simp [FaultUnit.activeClass, ha, hk]
    have hc : (withdrawFrom k s.faults).activeClass = some .c ∨ (withdrawFrom k s.faults).activeClass = none := by
      obtain ⟨-, -, h3⟩ := hf
      rw [ha] at h3
      unfold withdrawFrom FaultUnit.activeClass
      rw [if_pos ha]
      split
      · simp
      · next j rest w =>
        have hj := h3.2 j (by simp [w])
        have := rank_le_two j
        have := (rank_two_iff k).2 hk
        left; simp [(rank_two_iff j).1 (by omega)]
    obtain ⟨l, e⟩ := cycleOnClass_activate_lineFrame (s := { s with faults := withdrawFrom k s.faults })
      (hr.trans (formRequest_congr rfl rfl rfl).symm) hc
    have hfall : cycleOnFall s.faults.activeClass (activate { s with faults := withdrawFrom k s.faults }) =
        cycleOnClass (activate { s with faults := withdrawFrom k s.faults }) := by
      unfold cycleOnFall; rw [if_neg]; simp [hb]
    rw [hfall]
    refine ⟨LineFrame.trans ?_ l, ?_, ?_, ?_⟩
    · exact .refl s
    · rw [e, settle_loads_lock, (activate_keeps _).2.2.2]
    · exact (cycleOnClass_faults _).1.trans (activate_faults _).1
    · exact (cycleOnClass_faults _).2.1.trans (activate_faults _).2

/-- With the lock watched, no withdraw of LOCK_FAULT is due while sense and command stand. -/
theorem checkLock_of_watched {s t : State} (hs : s.inReset = false) (hw : LockWatched s) (hlock : t.loads.lock = s.loads.lock)
    (hl : t.lines = s.lines) (hh : t.faults.holds .lockFault = true → s.faults.holds .lockFault = true) : checkLock t = t := by
  unfold checkLock
  rw [if_neg]
  rintro ⟨e, g⟩
  rw [hl, hlock] at e
  exact ((hw hs).2.1 (.inr (hh g))) e

/-- A report of a class C kind, either way, touches nothing of the cycle (R168). -/
theorem reportFault_lineFrame_of_classC {k : FaultKind} (hk : k.cls = .c) (b : Bool) {s : State} (hs : s.inReset = false)
    (hf : FaultsOrdered s.faults) (hr : s.request = formRequest s) (hw : LockWatched s) :
    LineFrame s (reportFault k b s) ∧ (reportFault k b s).faults.holds k = b := by
  have hne : FaultKind.lockFault ≠ k := by rintro rfl; cases hk
  have hlk := (hw hs).1
  unfold reportFault
  split
  · next e => exact ⟨.refl s, e.symm⟩
  · next e =>
    split
    · next hb =>
      obtain ⟨l, m⟩ := raiseFault_lineFrame_of_classC hk hr
      obtain ⟨fa, fw⟩ := raiseFault_faults k s
      have hold : ∀ j, (raiseFault k s).faults.holds j = true ↔ (raiseInto k s.faults).holds j = true := by
        intro j; simp [holds_iff, fa, fw]
      rw [checkLock_of_watched hs hw (by rw [m, hlk]) l.1.2.1
        (fun g => by
          have := (raiseInto_holds .lockFault k s.faults).1 ((hold _).1 g)
          exact this.resolve_left hne)]
      exact ⟨l, by rw [hb, hold, raiseInto_holds]; exact .inl rfl⟩
    · next hb =>
      obtain ⟨l, m, fa, fw⟩ := withdrawCore_lineFrame_of_classC hk hf hr
      have hold : ∀ j, (withdrawCore k s).faults.holds j = true ↔ (withdrawFrom k s.faults).holds j = true := by
        intro j; simp [holds_iff, fa, fw]
      unfold withdrawFault
      rw [checkLock_of_watched hs hw (by rw [m, hlk]) l.1.2.1
        (fun g => ((withdrawFrom_holds hf .lockFault k).1 ((hold _).1 g)).2)]
      refine ⟨l, ?_⟩
      rw [Bool.not_eq_true] at hb
      rw [hb, ← Bool.not_eq_true, hold, withdrawFrom_holds hf]
      simp

end Sys2Proof.Machine
end

