-- ==== Sys2Proof/Laws/Line.lean ====
section
/-! SUPPORT. Laws of the framer pulse by pulse: what one observation of the Share Line can do to the state. -/

namespace Sys2Proof.Machine

/-- What an observation can make of the framer: nothing, its timers restarted, the own frame's next pulse, a frame in reception
opened, or one more bit in it (R124, R125, R130). -/
def FramerReads (f g : Framer) : Prop :=
  g = f ∨ g = touchLine f ∨ (∃ x, f.st = .sending ∧ f.sending = some x ∧ g = nextPulse x f) ∨
    ((f.st = .listen ∨ f.st = .waiting ∨ f.st = .receiving) ∧
      g = touchLine { f with st := .receiving, reception := some { bits := [], expected := none } }) ∨
    ∃ r b, f.st = .receiving ∧ f.reception = some r ∧ g = touchLine { f with reception := some (r.push b) }

/-- A state that an observation can leave: only framer, line and queue may differ, the framer as `FramerReads` has it, and commands
are only added at the queue's end. -/
def Reads (s t : State) : Prop :=
  t = { s with framer := t.framer, line := t.line, pending := t.pending } ∧ FramerReads s.framer t.framer ∧
    ∃ cmds, t.pending = s.pending ++ cmds

theorem Reads.refl (s : State) : Reads s s := ⟨rfl, .inl rfl, [], by simp⟩

theorem reads_report (cmds : List Instr) (s : State) : Reads s (report cmds s) := ⟨rfl, .inl rfl, cmds, rfl⟩

theorem reads_report_touched (cmds : List Instr) (s : State) : Reads s (report cmds (touched s)) :=
  ⟨rfl, .inr (.inl rfl), cmds, rfl⟩

theorem reads_again {s t : State} (a b : Nat) (h : Reads s t) : Reads s (again a b t) := by
  obtain ⟨h1, h2, h3⟩ := h
  refine ⟨?_, h2, h3⟩
  unfold again; rw [h1]

theorem reads_outsidePulse {s : State} (c : PulseClass)
    (h : s.framer.st = .listen ∨ s.framer.st = .waiting ∨ s.framer.st = .receiving) : Reads s (outsidePulse c s) := by
  unfold outsidePulse
  split
  · exact ⟨rfl, .inr (.inr (.inr (.inl ⟨h, rfl⟩))), [], by simp⟩
  · exact reads_report_touched _ s

theorem reads_receivingPulse {s : State} {r : Reception} (a b : Nat) (c : PulseClass) (h : s.framer.st = .receiving)
    (hr : s.framer.reception = some r) : Reads s (receivingPulse a b c r s) := by
  unfold receivingPulse
  split
  · exact reads_again _ _ (reads_report _ s)
  · split
    · exact reads_report_touched _ s
    · exact ⟨rfl, .inr (.inr (.inr (.inr ⟨r, _, h, hr, rfl⟩))), [], by simp⟩

theorem reads_sendingPulse {s : State} {x : Sending} (a b : Nat) (c : PulseClass) (h : s.framer.st = .sending)
    (hx : s.framer.sending = some x) : Reads s (sendingPulse a b c x s) := by
  have hn : Reads s { s with framer := nextPulse x s.framer } := ⟨rfl, .inr (.inr (.inl ⟨x, h, hx, rfl⟩)), [], by simp⟩
  unfold sendingPulse
  dsimp only
  repeat' split
  all_goals first
    | exact hn
    | exact reads_report_touched _ s
    | exact reads_again _ _ (reads_report_touched _ s)

theorem reads_framePulse (a b : Nat) (c : PulseClass) (s : State) : Reads s (framePulse a b c s) := by
  unfold framePulse
  split
  · exact .refl s
  · exact .refl s
  · exact reads_outsidePulse c (.inl ‹_›)
  · exact reads_outsidePulse c (.inr (.inl ‹_›))
  · split
    · exact reads_outsidePulse c (.inr (.inr ‹_›))
    · exact reads_receivingPulse a b c ‹_› ‹_›
  · split
    · exact .refl s
    · exact reads_sendingPulse a b c ‹_› ‹_›

theorem reads_observePulse (own : Bool) (a b : Nat) (s : State) : Reads s (observePulse own a b s) := by
  unfold observePulse
  repeat' split
  all_goals first
    | exact .refl s
    | exact reads_report _ s
    | exact reads_again _ _ (reads_report _ s)
    | exact reads_framePulse a b _ s

theorem reads_observeQuiet (a : Nat) (s : State) : Reads s (observeQuiet a s) := by
  unfold observeQuiet
  repeat' split
  all_goals first
    | exact .refl s
    | exact reads_report _ s

/-- What an observation of the Share Line can do. -/
theorem reads_observe (o : LineObs) (s : State) : Reads s (observe o s) := by
  have base : ∀ (l : List LineObs) (t : State), Reads { s with line := l } t → Reads s t := fun l t h => h
  unfold observe
  split
  · exact .refl s
  · dsimp only
    split
    · exact base _ _ (.refl _)
    · exact base _ _ (reads_observePulse _ _ _ _)
    · exact base _ _ (reads_observeQuiet _ _)

/-- What an idle step can do. -/
theorem reads_idle (s : State) : Reads s (idle s) := by
  unfold idle
  split
  · exact .refl s
  · next o rest _ => exact (reads_observe o { s with line := rest } : Reads { s with line := rest } _)

/-! ## The wired-OR -/

/-- An interval keeps its leading edge, ends no sooner, and what is left of the observations begins after it. -/
theorem absorb_spec (obs : List LineObs) (i : Interval) :
    (absorb i obs).1.start = i.start ∧ i.stop ≤ (absorb i obs).1.stop ∧
      ∀ since length rest, (absorb i obs).2 = .pulse since length :: rest →
        (absorb i obs).1.stop < (absorb i obs).1.ref + since := by
  induction obs generalizing i with
  | nil => simp [absorb]
  | cons o obs ih =>
    cases o with
    | quiet since =>
      unfold absorb; split
      · exact ih i
      · simp
    | pulse since length =>
      unfold absorb; dsimp only; split
      · exact (ih _).imp id (And.imp (Nat.le_trans (Nat.le_max_left _ _)) id)
      · next h =>
        refine ⟨rfl, le_refl _, ?_⟩
        intro a b r hr
        cases hr
        exact Nat.lt_of_not_le h

/-- Counted from the edge they are counted from already, observations stay as they are. -/
theorem retime_self (r : Nat) (l : List LineObs) : retime r r l = l := by
  induction l with
  | nil => rfl
  | cons o l ih => cases o <;> simp [retime, ih]

/-- With its driver released the station drives no part of what the line shows. -/
theorem wired_own_of_released {f : Framer} (h : f.drive = none) (o : LineObs) (rest : List LineObs) :
    (wired f o rest).own = false := by
  cases o <;> simp [wired, shown, h]

/-! ## The classes of pulses, by length (R124) -/

theorem classify_glitch {n : Nat} : classify n = .glitch ↔ n < 80 := by unfold classify; grind
theorem classify_one {n : Nat} : classify n = .one ↔ 80 ≤ n ∧ n < 400 := by unfold classify; grind
theorem classify_zero {n : Nat} : classify n = .zero ↔ 400 ≤ n ∧ n < 900 := by unfold classify; grind
theorem classify_start {n : Nat} : classify n = .start ↔ 1500 ≤ n ∧ n < 2500 := by unfold classify; grind
theorem classify_bad {n : Nat} : classify n = .bad ↔ (900 ≤ n ∧ n < 1500) ∨ (2500 ≤ n ∧ n < 8000) := by
  unfold classify; grind
theorem classify_mark {n : Nat} : classify n = .mark ↔ 8000 ≤ n ∧ n < 20000 := by unfold classify; grind
theorem classify_stuck {n : Nat} : classify n = .stuck ↔ 20000 ≤ n := by unfold classify; grind

/-! ## What an observation leaves of the framer -/

theorem FramerReads.failures {f g : Framer} (h : FramerReads f g) : g.failures = f.failures := by
  obtain rfl | rfl | ⟨x, -, -, rfl⟩ | ⟨-, rfl⟩ | ⟨r, b, -, -, rfl⟩ := h <;> rfl

theorem FramerReads.silent {f g : Framer} (h : FramerReads f g) : g.st = .silent ↔ f.st = .silent := by
  obtain rfl | rfl | ⟨x, -, -, rfl⟩ | ⟨hs, rfl⟩ | ⟨r, b, -, -, rfl⟩ := h
  · rfl
  · rfl
  · rfl
  · obtain hs | hs | hs := hs <;> simp [touchLine, hs]
  · rfl

/-- The notice being sent stays the same from pulse to pulse. -/
theorem FramerReads.sending {f g : Framer} (h : FramerReads f g) :
    g.sending.map Sending.notice = f.sending.map Sending.notice := by
  obtain rfl | rfl | ⟨x, -, hx, rfl⟩ | ⟨-, rfl⟩ | ⟨r, b, -, -, rfl⟩ := h
  · rfl
  · rfl
  · rw [hx]; rfl
  · rfl
  · rfl

/-- The driver is as it was, or drives the next pulse of the frame being sent. -/
theorem FramerReads.drive {f g : Framer} (h : FramerReads f g) :
    g.drive = f.drive ∨ (g.st = .sending ∧ g.drive = g.sending.bind Sending.drive) := by
  obtain rfl | rfl | ⟨x, hs, -, rfl⟩ | ⟨-, rfl⟩ | ⟨r, b, -, -, rfl⟩ := h
  · exact .inl rfl
  · exact .inl rfl
  · exact .inr ⟨hs, rfl⟩
  · exact .inl rfl
  · exact .inl rfl

/-! ## Keys -/

/-- A press or a release without its debounce running changes nothing (R174, log entry 8). -/
theorem keyRelease_of_unsettled {k : Key} {s : State} (h : (keyOf k s.panel).settles false = false) : keyRelease k s = s := by
  simp [keyRelease, h]

end Sys2Proof.Machine
end

