-- ==== Sys2Proof/Laws/Sharing.lean ====
section
/-! SUPPORT. Sharing laws: bounds of the grant, the Peer Table at one address, and the frames of the membership operations. -/

namespace Sys2Proof.Machine

/-! ## Bounds of the grant -/

theorem baseGrant_le_want (s : State) : baseGrant s ≤ s.request.want := by
  unfold baseGrant; split <;> omega

/-- The grant is within the want (R88, R89). -/
theorem grantOf_le_want (s : State) : grantOf s ≤ s.request.want := by
  have := baseGrant_le_want s
  unfold grantOf; split <;> omega

/-- Under a shed hold the grant is within the isolated allowance (R88). -/
theorem grantOf_le_iso_of_hold {s : State} (h : 0 < s.share.hold) : grantOf s ≤ s.straps.aIso := by
  unfold grantOf; rw [if_pos h]; omega

/-- Outside MEMBER the grant is within the isolated allowance (R89). -/
theorem grantOf_le_iso_of_not_member {s : State} (h : s.member.st ≠ .member) : grantOf s ≤ s.straps.aIso := by
  have hb : baseGrant s ≤ s.straps.aIso := by unfold baseGrant; split <;> first | contradiction | omega
  unfold grantOf; split <;> omega

/-- The grant reads the table, the straps, the requests, the membership state, the shed hold and the isolation limit, and nothing
else. -/
theorem grantOf_congr {s t : State} (h1 : t.table = s.table) (h2 : t.straps = s.straps) (h3 : t.request = s.request)
    (h4 : t.member.st = s.member.st) (h5 : t.share.hold = s.share.hold) (h6 : t.share.limit = s.share.limit) :
    grantOf t = grantOf s := by
  simp [grantOf, baseGrant, ownShare, headroom, h1, h2, h3, h4, h5, h6]

/-- A computation leaves the allowance within the grant (R90). -/
theorem compute_allowance_le (s : State) : (compute s).share.allowance ≤ (compute s).share.grant := by
  rw [compute_share_allowance, compute_share_grant]; split <;> omega

/-! ## The Peer Table -/

/-- An entry set at an address stands there. -/
theorem entryAt_set_self {t : List Entry} {i : Nat} (h : i < t.length) (e : Entry) : entryAt (t.set i e) i = e := by
  simp [entryAt, h]

/-- An entry set at an address leaves every other. -/
theorem entryAt_set_ne {t : List Entry} {i j : Nat} (h : i ≠ j) (e : Entry) : entryAt (t.set i e) j = entryAt t j := by
  simp [entryAt, List.getD_eq_getElem?_getD, List.getElem?_set_ne h]

/-- Aging acts entry by entry (R69). -/
theorem entryAt_aged (t : List Entry) (i : Nat) : entryAt (t.map Entry.aged) i = (entryAt t i).aged := by
  simp only [entryAt, List.getD_eq_getElem?_getD, List.getElem?_map]
  cases t[i]? <;> rfl

/-! ## What a filled slot holds -/

/-- A filled slot is empty in no field it carries: it stands there whole, with the kind asked for (R104). -/
theorem fillSlot_slot (k : NoticeKind) (s : State) :
    (fillSlot k s).member.slot =
      some (formNotice k (compute { s with share := { s.share with raiseReady := none } })) := by
  simp [fillSlot]

theorem formNotice_kind (k : NoticeKind) (s : State) : (formNotice k s).kind = k := by cases k <;> rfl

/-- A filled slot computes the share first (R81, R93). -/
theorem fillSlot_grant (k : NoticeKind) (s : State) : (fillSlot k s).share.grant = grantOf s := by
  simp only [fillSlot, handFramer_share, compute_share_grant]
  exact grantOf_congr rfl rfl rfl rfl rfl rfl

theorem fillSlot_refWant (k : NoticeKind) (s : State) :
    (fillSlot k s).member.refWant = if k = .demand then s.request.want else s.member.refWant := by
  simp [fillSlot]

/-! ## Membership operations -/

@[simp] theorem setMember_st (m : MemberState) (s : State) : (setMember m s).member.st = m := by simp [setMember]

/-- In the states that R89 gives no power, no power is left. -/
theorem setMember_powerless {m : MemberState} (h : Powerless m) (s : State) :
    (setMember m s).share.grant = 0 ∧ (setMember m s).share.allowance = 0 := by
  rcases h with rfl | rfl | rfl | rfl | rfl <;> simp [setMember, grantOf, baseGrant]

/-- A change of the Peer Table touches nothing of the cycle (R74, R75). -/
theorem setTable_lineFrame {s : State} (t : List Entry) (hs : s.inReset = false) (hf : FaultsOrdered s.faults)
    (hr : s.request = formRequest s) (hw : LockWatched s) : LineFrame s (setTable t s) := by
  unfold setTable
  refine LineFrame.trans ?_ (compute_lineFrame _)
  have h := reportFault_lineFrame_of_classC (k := .bankOverflow) (s := { s with table := t }) rfl
    (overflows s.straps.bankSize t) hs hf hr hw
  exact LineFrame.trans (.refl s) h.1

/-- After a change of the Peer Table it is the new one, and the computation has read it (R75). -/
theorem setTable_table (t : List Entry) (s : State) :
    (setTable t s).table = t ∧ (setTable t s).share.grant = grantOf (setTable t s) := by
  have h := (reportFault_cabinetFrame .bankOverflow (overflows s.straps.bankSize t) { s with table := t }).2.1
  unfold setTable
  refine ⟨by simpa using h, ?_⟩
  rw [compute_share_grant]
  exact (grantOf_congr (by simp) (by simp) (by simp) (by simp) (by simp) (by simp)).symm

end Sys2Proof.Machine
end

