-- ==== Sys2Proof/Tests/Slice0.lean ====
section
/-! SUPPORT. Tests: the operand bounds, the manual's worked examples, one step of each command, and for each obligation with
hypotheses a concrete state and operands that meet them together, clause by clause. Expected values come from the manual; each
test names its source. -/

namespace Sys2Proof.Tests

open Sys2Proof.Machine

/-! ## Operand bounds -/

theorem test_wf_arbitrationLost_refused : WellFormed (.arbitrationLost 38) = false := by decide
theorem test_wf_arbitrationLost_last : WellFormed (.arbitrationLost 37) = true := by decide
theorem test_wf_zeroCross_refused : WellFormed (.zeroCross 10000 20001) = false := by decide
theorem test_wf_zeroCross_last : WellFormed (.zeroCross 10000 20000) = true := by decide
theorem test_no_word_spells_a_command : decodeTableWord 8 5 = none := by decide

/-! ## Worked examples -/

/-- The state a step leaves. -/
def after (o : Host.Outcome State Fault Refusal) : State :=
  match o with
  | .next s => s
  | .fault _ => State.reset
  | .refused _ => State.reset

/-- Section 7.9: the check field of a PRESENCE from address 5 is 172. -/
theorem test_check_field_of_presence : (crc8 (frameFields 5 .presence)).toNat = 172 := by decide

/-- Section 7.9: the fifteen bits of that frame. -/
theorem test_frame_of_presence :
    frameBits 5 .presence =
      [true, false, true, false, true, false, true, true, false, true, false, true, true, false, false] := by decide

/-- R121: a frame of 15 bits takes 20.5 ms, one of 38 bits 43.5 ms. -/
theorem test_frame_durations : frameDurationUs 15 = 20500 ∧ frameDurationUs 38 = 43500 := by decide

/-- Section 5.12, contention: the table of the station at address 2. -/
def contended : List Entry :=
  ((emptyTable.set 0 (.active ⟨3, 0, 26, 26, 26⟩ 0)).set 5 (.active ⟨2, 0, 30, 20, 20⟩ 0)).set 9 (.stale ⟨2, 0, 30, 10, 10⟩ 3)

/-- Section 5.12, contention: A_iso 17, the pool 51, the shares 22, 17 and 12, the headroom 5. -/
theorem test_contention_shares :
    (latchStraps 2 5 3).aIso = 17 ∧ pool (latchStraps 2 5 3) contended = 51 ∧
      fill 51 [⟨2, 5, 30⟩, ⟨0, 4, 26⟩, ⟨5, 3, 30⟩] = [(2, 22), (0, 17), (5, 12)] ∧
      headroom (latchStraps 2 5 3) contended = 5 := by decide

/-- Section 5.12, satisfaction in rounds: 12, 8, 12 and 12. -/
theorem test_satisfaction_in_rounds :
    (fun a => shareOf a (fill 44 [⟨6, 3, 30⟩, ⟨1, 2, 8⟩, ⟨3, 4, 12⟩, ⟨10, 3, 16⟩])) <$> [6, 1, 3, 10] = [12, 8, 12, 12] := by
  decide

/-- Section 5.12, leftover units: 9, 9 and 5, and 8, 8 and 7 once the weights are equal. -/
theorem test_leftover_units :
    fill 23 [⟨4, 3, 30⟩, ⟨2, 3, 30⟩, ⟨9, 2, 14⟩] = [(4, 9), (2, 9), (9, 5)] ∧
      fill 23 [⟨4, 3, 30⟩, ⟨2, 3, 30⟩, ⟨9, 3, 14⟩] = [(4, 8), (2, 8), (9, 7)] := by decide

/-- R46: the rows of its table, with the negative one rounded down. -/
theorem test_mean_rounds_down :
    meanReading [102, 105, 107] = 104 ∧ meanReading [102, 105] = 103 ∧ meanReading [100, 101, 102] = 101 ∧
      meanReading [-3, -2] = -3 := by decide

/-- R150: a steam part of 12 with A of 10 gives steam 10 and heater 0; with A of 7 steam 0 and the heater its part of the 7. -/
theorem test_division :
    assignedSteam 10 12 = 10 ∧ assignedHeater 10 12 4 = 0 ∧ assignedSteam 7 12 = 0 ∧ assignedHeater 7 12 4 = 4 ∧
      assignedHeater 7 12 30 = 7 := by decide

/-- Section 8.6: with a nominal peak of 812 a peak of 714 is low and one of 715 is not. -/
theorem test_low_peak : lowPeak 714 812 = true ∧ lowPeak 715 812 = false := by decide

/-- Section 9.3, a mid-window lowering: 33 of the first 50, 6 of the next 20 and 9 of the last 30. -/
theorem test_mid_window_lowering :
    firingCount (some 100) 20 heaterRating = 66 ∧ firingCount (some 100) 9 heaterRating = 30 ∧
      ((List.range 50).filter (fires 66 100)).length = 33 ∧
      (((List.range 70).drop 50).filter (fires 30 100)).length = 6 ∧
      (((List.range 100).drop 70).filter (fires 30 100)).length = 9 := by decide

/-! ## Small states -/

/-- A quiet member at address 3 of a bank of six on a feeder of 56 units (section 4.8), IDLE, its mains learned. -/
def station : State :=
  { State.reset with
    climate := { Climate.reset with tr := 50, tmax := 60, ring := [100] }
    request := { Request.reset with lock := false }
    share := { LoadShare.reset with period := some 1928 }
    member := { Membership.reset with st := .member }
    framer := { Framer.reset with st := .listen, idleHold := some 12, lineFreed := some 100 }
    feeder :=
      { Feeder.reset with
        st := .running, window := some 100, nominal := some 812, crossed := true, halfOpen := true, peak := 812
        watchdog := some 40 }
    loads := { LoadOut.reset with lock := false, lockConfirm := none }
    straps := latchStraps 3 3 5 }

/-- The cycle of a Daily Care in its DRY phase, 1320 s to go, boost 1 (section 2.8's worked sequence). -/
def dryCycle : Cycle :=
  { Cycle.reset with
    st := .running, programme := 1, index := 2, record := readRom 1 2, remaining := 1320, second := some 1000, boost := 1
    latch := true }

/-- A member drying on an allowance of 20 units, its fan confirmed. -/
def drying : State :=
  settle
    { station with
      cycle := dryCycle
      request := { steam := 0, heater := 30, cls := 2, boost := 1, fan := 2, lock := false, valve := false }
      climate :=
        { Climate.reset with
          tr := 90, tmax := 96, ring := List.replicate 61 144, watch := .testing, drop := some 20, peak := 156 }
      share := { LoadShare.reset with period := some 1928, grant := 20, allowance := 20 }
      member := { Membership.reset with st := .member, refWant := 30, lastClaim := 20 }
      loads :=
        { LoadOut.reset with fan := 2, tachConfirmed := true, tachWatchdog := some 3000, lock := false, lockConfirm := none } }

/-- A member steaming in Daily Care on an allowance of 26 units, locked. -/
def steaming : State :=
  settle
    { station with
      cycle :=
        { Cycle.reset with
          st := .running, programme := 1, index := 0, record := readRom 1 0, remaining := 720, second := some 1000
          latch := true }
      request := { steam := 20, heater := 6, cls := 3, boost := 0, fan := 1, lock := true, valve := true }
      share := { LoadShare.reset with period := some 1928, grant := 26, allowance := 26 }
      member := { Membership.reset with st := .member, refWant := 26, lastClaim := 26 }
      loads :=
        { LoadOut.reset with fan := 1, tachConfirmed := true, tachWatchdog := some 3000, lock := true, lockConfirm := none }
      lines := { Lines.reset with locked := true } }

/-- Every key of the panel about to settle pressed, its debounce running (R174). -/
def pressing (s : State) : State :=
  { s with
    panel := { s.panel with start := ⟨true, false, some 30⟩, cancel := ⟨true, false, some 30⟩, power := ⟨true, false, some 30⟩ } }

/-- Every key of the panel about to settle released. -/
def releasing (s : State) : State :=
  { s with
    panel := { s.panel with start := ⟨false, true, some 30⟩, cancel := ⟨false, true, some 30⟩, power := ⟨false, true, some 30⟩ } }

/-- The drying station with the door opened on it. -/
def paused : State := after (exec .doorOpen drying)

/-- A station whose DEMAND is on the line. -/
def sendingDemand : State :=
  { drying with
    member := { drying.member with slot := some (.demand ⟨2, 1, 30, 20, 20⟩), inFlight := true }
    framer :=
      { Framer.reset with
        st := .sending, idleHold := some 12, lineFreed := some 100
        sending := some ⟨.demand ⟨2, 1, 30, 20, 20⟩, frameBits 3 (.demand ⟨2, 1, 30, 20, 20⟩), 4⟩
        drive := some (.bit false) } }

/-! ## One step of each command -/

/-- R44, R50: the first round at a power-on reset forms Tr and Tmax. -/
theorem test_powerOnReset :
    let t := after (exec (.powerOnReset 42 44 47 110) drying)
    t.climate.tr = 44 ∧ t.climate.tmax = 47 ∧ t.climate.ring = [110] ∧ t.straps.latched = false := by decide
/-- R50, R164, R167: no fault outlives a reset, ADDRESS_CONFLICT included; those of the first readings and the trip line stand. -/
theorem test_powerOnReset_faults :
    let t :=
      after
        (exec (.powerOnReset 221 221 40 201)
          { station with
            lines := { station.lines with trip := true }
            faults := { active := some .addressConflict, waiting := [.lineIsolated], history := [], code := 4 } })
    t.faults.active = some .probeFault ∧ t.faults.waiting = [.overTemp, .probeDegraded, .humidityFault] ∧
      t.climate.tr = 40 ∧ t.climate.ring = [] := by decide
/-- R149: the gates and the solenoid are released. -/
theorem test_resetPinAssert :
    let t := after (exec .resetPinAssert steaming)
    t.loads.lock = false ∧ t.loads.valve = false ∧ t.framer.st = .silent ∧ t.straps = steaming.straps := by decide
/-- R139, R173: what is learned is kept, and the station joins. -/
theorem test_resetPinRelease :
    let t := after (exec (.resetPinRelease 42 44 47 110) drying)
    t.member.st = .joinListen ∧ t.feeder.window = some 100 ∧ t.straps.address = 3 ∧ t.cycle.st = .idle := by decide
/-- R172: section 4.8's station has A_iso 8 and a period of 1928 ms. -/
theorem test_strapWindowEnd :
    let t := after (exec (.strapWindowEnd 3 3 5) State.reset)
    t.straps.aIso = 8 ∧ t.straps.periodMs = 1928 ∧ t.straps.capacity = 56 ∧ t.feeder.st = .learning := by decide
/-- R172: PROBE_FAULT raised at the release, code 2, shows on ADDR bit 1 from the window's end, and the lamps start dark. -/
theorem test_strapWindowEnd_pins :
    let s := after (exec (.powerOnReset 221 221 40 100) station)
    strapOutputs s = none ∧
      strapOutputs (after (exec (.strapWindowEnd 3 3 5) s)) =
        some ⟨[false, true, false, false], [false, false, false], [false, false, false, false]⟩ := by decide
/-- R174: a changed line starts a debounce of 30 ms. -/
theorem test_keyLineChange :
    (after (exec (.keyLineChange .cancel true) station)).panel.cancel = ⟨true, false, some 30⟩ := by decide
/-- R12, R13, R18: select lines 0, 0, 1 start Daily Care, 12 minutes of steam at want 26; beside five missing peers at 8 units
each the claim is 52 − 40 = 12 (R83, R88). -/
theorem test_startPress :
    let t := after (exec (.startPress false false true) (pressing station))
    t.cycle.programme = 1 ∧ t.cycle.remaining = 720 ∧ t.request.want = 26 ∧ t.member.slot = some (.demand ⟨3, 0, 26, 12, 0⟩) := by
  decide
/-- R40: cancelled at a Tmax of 48.0 °C, the cycle cools. -/
theorem test_cancelPress_hot :
    let t := after (exec .cancelPress (pressing drying))
    t.cycle.st = .cancelCool ∧ t.cycle.cancelCool = some 600000 ∧ t.loads.fan = 3 := by decide
/-- R117: a POWER press in MEMBER loads a LEAVE. -/
theorem test_powerPress :
    let t := after (exec .powerPress (pressing station))
    t.cycle.st = .standby ∧ t.member.st = .leaving ∧ t.member.slot = some .leave := by decide
/-- R174: a raw change that returned within the 30 ms is lost, and a key already pressed presses no more. -/
theorem test_press_lost :
    (after (exec .powerPress (after (exec (.keyLineChange .power false) (pressing station))))).cycle.st = .idle ∧
      (after (exec .cancelPress (releasing station))).panel = (releasing station).panel := by decide
/-- R174: a release of CANCEL stops the long-press timer. -/
theorem test_keyRelease :
    (after
        (exec (.keyRelease .cancel)
          (releasing { station with panel := { Panel.reset with longPress := some 5000 } }))).panel.longPress =
      none := by decide
/-- R170: the newest record's code shows first. -/
theorem test_longPress :
    let t :=
      after
        (exec .longPress
          { station with
            panel := { Panel.reset with longPress := some 5000 }, faults := { FaultUnit.reset with history := [⟨3, 1, 2⟩] } })
    t.faults.code = 3 ∧ t.panel.display = some ⟨⟨3, 1, 2⟩, [], .code, 1000⟩ := by decide
/-- R170: after the code comes 8 + programme. -/
theorem test_historyDisplayStep :
    (after
        (exec .historyDisplayStep
          { station with panel := { Panel.reset with display := some ⟨⟨3, 1, 2⟩, [], .code, 1000⟩ } })).faults.code = 9 := by
  decide
/-- Section 2.8, a door opened during drying: PAUSED with context 2, 1320 s, boost 1 and the peak. -/
theorem test_doorOpen :
    paused.cycle.st = .paused ∧ paused.cycle.context = some ⟨2, 1320, 1, some 156⟩ ∧ paused.request.want = 0 ∧
      paused.cycle.boost = 0 := by decide
/-- R157, R175: the proving drive in IDLE; the DRY lamp lit in RUNNING and flashing, lit first, in PAUSED; the WAIT lamp lit with 20
units allowed of 30 wanted, and dark in HELD. -/
theorem test_fan_and_lamp_tables :
    (settle { station with faults := { FaultUnit.reset with active := some .fanStall, code := 6 } }).loads.fan = 1 ∧
      drying.panel.phaseLamp = .lit .dry ∧ drying.panel.waitLamp = true ∧ paused.panel.phaseLamp = .flashing .dry true ∧
      paused.panel.flash = some 500 ∧ paused.panel.waitLamp = false := by decide
/-- R157: the fan comes back with the door closed, at level 2 on its second output alone. -/
theorem test_doorClose :
    let t := after (exec .doorClose { drying with lines := { drying.lines with doorOpen := true } })
    t.loads.fan = 2 ∧ t.loads.fanFirst = false ∧ t.loads.fanSecond = true := by decide
/-- R26, R32: the tank runs low in a STEAM phase. -/
theorem test_waterLevelChange :
    let t := after (exec (.waterLevelChange false) steaming)
    t.cycle.st = .held ∧ t.faults.active = some .waterEmpty ∧ t.loads.draw = 0 := by decide
/-- R151, R159: the valve closes with the lock sense. -/
theorem test_lockSenseChange :
    steaming.loads.valve = true ∧ (after (exec (.lockSenseChange false) steaming)).loads.valve = false ∧
      (after (exec (.lockSenseChange false) steaming)).loads.lockConfirm = some 2000 := by decide
/-- R158: a pulse restarts the watchdog and confirms the fan. -/
theorem test_tachPulse :
    (after (exec .tachPulse { drying with loads := { drying.loads with tachConfirmed := false } })).loads.heaterLevel = 20 := by
  decide
/-- R49: an active trip line sets the latch. -/
theorem test_tripLineChange :
    let t := after (exec (.tripLineChange true) drying)
    t.climate.overTemp = true ∧ t.cycle.st = .halted ∧ t.faults.code = 1 ∧ t.faults.history = [⟨1, 1, 2⟩] := by decide
/-- R154: at position 0 with level 20 the count is 66 and the first half-cycle is withheld. -/
theorem test_zeroCross :
    let t := after (exec (.zeroCross 10000 0) drying)
    t.loads.heaterCount = 66 ∧ t.loads.heaterGate = false ∧ t.loads.position = 1 := by decide
/-- R138: a zero-cross 4.999 ms after the last is ignored. -/
theorem test_zeroCross_ignored : after (exec (.zeroCross 4999 0) drying) = drying := by decide
/-- Section 8.7: the watchdog's expiry loses the mains. -/
theorem test_zeroCrossWatchdogExpiry :
    let t := after (exec .zeroCrossWatchdogExpiry drying)
    t.feeder.st = .lost ∧ t.cycle.st = .halted ∧ t.faults.code = 3 := by decide
/-- Section 8.7: the resume timer's expiry brings MAINS_RUNNING. -/
theorem test_resumeTimerExpiry :
    (after
        (exec .resumeTimerExpiry
          { station with feeder := { station.feeder with st := .lost, resume := some 1000 } })).feeder.st = .running := by decide
/-- R23: Tr at the target of 50.0 °C turns the latch off, and the want falls to 0. -/
theorem test_probeRound :
    let t := after (exec (.probeRound 100 100 101) drying)
    t.climate.tr = 100 ∧ t.climate.tmax = 101 ∧ t.cycle.latch = false ∧ t.request.want = 0 := by decide
/-- R55, R27: peak 78.0 %, drop 10 %: a sample of 68.0 % four half-percents below the one of a minute before ends the phase. -/
theorem test_humiditySample :
    let t :=
      after (exec (.humiditySample 136) { drying with climate := { drying.climate with ring := List.replicate 61 140 } })
    t.cycle.index = 3 ∧ t.cycle.kind = some .cool ∧ t.request.want = 0 := by decide
/-- R55: with a fall of 2.5 % over the minute the test fails. -/
theorem test_humiditySample_fast :
    let t :=
      after (exec (.humiditySample 136) { drying with climate := { drying.climate with ring := List.replicate 61 141 } })
    t.cycle.index = 2 ∧ t.climate.watch = .testing := by decide
/-- R54. -/
theorem test_warmUpExpiry :
    (after
        (exec .warmUpExpiry
          { drying with climate := { drying.climate with watch := .warmUp, warmUp := some 120000 } })).climate.tracking =
      some 60000 := by decide
/-- R55. -/
theorem test_trackingExpiry :
    (after
        (exec .trackingExpiry
          { drying with climate := { drying.climate with watch := .tracking, tracking := some 60000 } })).climate.watch =
      .testing := by decide
/-- R20: a second off the phase. -/
theorem test_secondTimerExpiry : (after (exec .secondTimerExpiry drying)).cycle.remaining = 1319 := by decide
/-- R22: the sixtieth starved second raises the boost. -/
theorem test_secondTimerExpiry_starved :
    let t := after (exec .secondTimerExpiry { drying with cycle := { drying.cycle with starved := true, starvedSecs := 59 } })
    t.cycle.boost = 2 ∧ t.cycle.remaining = 1320 := by decide
/-- R39: programme and phase index keep their values. -/
theorem test_pauseTimerExpiry :
    let t := after (exec .pauseTimerExpiry paused)
    t.cycle.st = .idle ∧ t.cycle.programme = 1 ∧ t.cycle.index = 2 ∧ t.panel.buzzer = some ⟨.abandon, 0, 1500⟩ := by decide
/-- R41. -/
theorem test_cancelCoolTimerExpiry :
    (after (exec .cancelCoolTimerExpiry (after (exec .cancelPress (pressing drying))))).cycle.st = .idle := by decide
/-- R69, R109: an entry of age 2 goes STALE; the member's DEMAND is loaded. -/
theorem test_sharePeriodExpiry :
    let t :=
      after (exec .sharePeriodExpiry { drying with table := emptyTable.set 7 (.active ⟨2, 0, 30, 12, 10⟩ 2) })
    entryAt t.table 7 = .stale ⟨2, 0, 30, 12, 10⟩ 3 ∧ t.member.slot.isSome = true := by decide
/-- R107, R109: in flight the load of an active expiry is held over, and the notice stands. -/
theorem test_sharePeriodExpiry_inFlight :
    let t := after (exec .sharePeriodExpiry sendingDemand)
    t.member.heldOver = some .demand ∧ t.member.slot = some (.demand ⟨2, 1, 30, 20, 20⟩) ∧ t.framer.st = .sending ∧
      t.member.inFlight = true := by decide
/-- R94: A becomes the lesser of the target claim and G. -/
theorem test_raiseReadyExpiry :
    (after
        (exec .raiseReadyExpiry { drying with share := { drying.share with raiseReady := some ⟨1000, 5⟩ } })).share.allowance =
      5 := by decide
/-- Section 5.12, isolation and its limit: G rises from 5 to 8 when the limit is lifted. -/
theorem test_isolationLimitExpiry :
    let s :=
      { drying with
        member := { drying.member with st := .isolated }
        share := { drying.share with limit := some 5, grant := 5, allowance := 5 } }
    grantOf s = 5 ∧ (after (exec .isolationLimitExpiry s)).share.allowance = 8 := by decide
/-- R120. -/
theorem test_isolationDwellExpiry :
    (after
        (exec .isolationDwellExpiry
          { station with
            member := { station.member with st := .isolated, dwell := some 5000, lineFree := true } })).member.st =
      .joinListen := by decide
/-- R158, R32. -/
theorem test_tachWatchdogExpiry :
    let t := after (exec .tachWatchdogExpiry drying)
    t.cycle.st = .held ∧ t.loads.heaterLevel = 0 ∧ t.faults.code = 6 := by decide
/-- R161. -/
theorem test_lockConfirmExpiry :
    (after
        (exec .lockConfirmExpiry
          { steaming with
            lines := { steaming.lines with locked := false }
            loads := { steaming.loads with lockConfirm := some 2000 } })).faults.code = 7 := by decide
/-- R176: after a tone of 300 ms a gap of 200 ms. -/
theorem test_buzzerStep :
    (after (exec .buzzerStep { station with panel := { Panel.reset with buzzer := some ⟨.doneTones, 0, 300⟩ } })).panel.buzzer =
      some ⟨.doneTones, 1, 200⟩ := by decide
/-- R175: the lamp of a paused DRY phase flashes. -/
theorem test_lampFlashToggle :
    paused.panel.phaseLamp = .flashing .dry true ∧
      (after (exec .lampFlashToggle paused)).panel.phaseLamp = .flashing .dry false := by decide
/-- R129, R130. -/
theorem test_idleHoldExpiry :
    let t :=
      after
        (exec .idleHoldExpiry
          { station with member := { station.member with slot := some .presence }, framer := { station.framer with st := .waiting } })
    t.framer.st = .sending ∧ t.member.inFlight = true ∧ t.framer.sending.map Sending.bits = some (frameBits 3 .presence) := by
  decide
/-- R128: a want of 49 is taken as 48. -/
theorem test_receiveDemand :
    entryAt (after (exec (.receiveDemand 0 3 0 49 17 17) station)).table 0 = .active ⟨3, 0, 48, 17, 17⟩ 0 := by decide
/-- R65. -/
theorem test_receivePresence :
    entryAt (after (exec (.receivePresence 4) station)).table 4 = .quiet ⟨0, 0, 0, 0, 0⟩ 0 := by decide
/-- Section 4.8, the join: the JOIN-ASK from 11 reserves A_iso = 8. -/
theorem test_receiveJoinAsk :
    entryAt (after (exec (.receiveJoinAsk 11 90) station)).table 11 = .joining 8 0 := by decide
/-- Section 4.8, the confirm. -/
theorem test_receiveJoinConfirm :
    entryAt (after (exec (.receiveJoinConfirm 11 90 8) station)).table 11 = .active ⟨0, 0, 0, 8, 8⟩ 0 := by decide
/-- R68. -/
theorem test_receiveLeave :
    entryAt (after (exec (.receiveLeave 0) { station with table := contended })).table 0 = .empty := by decide
/-- R114: a LEAVE with the own address sends a member to DUPLICATE. -/
theorem test_receiveLeave_own :
    let t := after (exec (.receiveLeave 3) station)
    t.member.st = .duplicate ∧ t.faults.code = 4 := by decide
/-- R106: the waiting DEMAND takes the newest figures. -/
theorem test_frameDiscarded :
    (after
        (exec .frameDiscarded
          { drying with
            member := { drying.member with slot := some (.demand ⟨0, 0, 9, 9, 9⟩) }
            framer := { drying.framer with st := .waiting } })).member.slot =
      some (.demand ⟨2, 1, 30, 12, 12⟩) := by decide
/-- R131: lost on the first bit of a PRESENCE, the framer receives on from a 0. -/
theorem test_arbitrationLost :
    let t :=
      after
        (exec (.arbitrationLost 0)
          { station with
            framer := { station.framer with st := .sending, sending := some ⟨.presence, frameBits 3 .presence, 1⟩, drive := some (.bit true) } })
    t.framer.st = .receiving ∧ t.framer.reception = some ⟨[false], none⟩ ∧ t.framer.failures = 0 := by decide
/-- R94, R96, R133. -/
theorem test_noticeCompletion :
    let t := after (exec .noticeCompletion sendingDemand)
    t.member.slot = none ∧ t.member.lastClaim = 20 ∧ t.share.raiseReady = some ⟨1000, 20⟩ ∧ t.share.limit = some 20 := by decide
/-- R134: the eighth failure isolates. -/
theorem test_attemptFailed :
    let t :=
      after (exec .attemptFailed { sendingDemand with framer := { sendingDemand.framer with failures := 7 } })
    t.member.st = .isolated ∧ t.member.slot = none ∧ t.faults.code = 8 ∧ t.share.allowance = 0 := by decide
/-- R98: a peer's mark caps the allowance at A_iso = 8. -/
theorem test_shedMarkSeen :
    let t := after (exec (.shedMarkSeen false false) drying)
    t.share.hold = 3 ∧ t.share.allowance = 8 ∧ t.loads.heaterLevel = 8 := by decide
/-- R136, R147: a mark on a pulse the station drove a part of is its own, the arbitration lost on it or not. -/
theorem test_shedMarkSeen_own :
    let t :=
      after
        (exec (.shedMarkSeen true true)
          { drying with framer := { drying.framer with st := .receiving, reception := some ⟨[false], none⟩, lost := true } })
    t.share.hold = 0 ∧ t.share.allowance = 20 ∧ t.framer.st = .listen := by decide
/-- R119, R135. -/
theorem test_lineStuck :
    let t := after (exec .lineStuck station)
    t.framer.st = .stuck ∧ t.member.st = .isolated ∧ t.member.dwell = some 5000 := by decide
/-- R135. -/
theorem test_lineStuckRelease :
    (after (exec .lineStuckRelease { station with framer := { station.framer with st := .stuck } })).framer.st = .listen := by
  decide
/-- R120, R135. -/
theorem test_lineFreed :
    (after
        (exec .lineFreed
          { station with member := { station.member with st := .isolated, dwell := some 5000 } })).member.lineFree =
      true := by decide
/-- R138. -/
theorem test_amplitudeSenseReading : (after (exec (.amplitudeSenseReading 1023) station)).feeder.peak = 1023 := by decide

/-! ## The line, pulse by pulse -/

/-- R125: a start pulse opens a frame in reception. -/
theorem test_observe_start :
    (after (step { station with line := [.pulse 50000 2000] })).framer.reception = some ⟨[], none⟩ := by decide
/-- R124: a dominant interval of 8 ms is a shed mark, reported to the queue. -/
theorem test_observe_mark :
    (after (step { station with line := [.pulse 50000 8000] })).pending = [.shedMarkSeen false false] := by decide
/-- R126: with its last bit received and the stop gap clear, the PRESENCE of section 7.9 is delivered. -/
theorem test_observe_presence :
    (after
        (step
          { station with
            framer := { station.framer with st := .receiving, reception := some ⟨frameBits 5 .presence, some 15⟩ }
            line := [.quiet 3500] })).pending =
      [.receivePresence 5] := by decide
/-- R126, R137: that PRESENCE is delivered before the mark whose leading edge comes 3.5 ms after its last bit. -/
theorem test_observe_presence_then_mark :
    let t :=
      after
        (step
          { station with
            framer := { station.framer with st := .receiving, reception := some ⟨frameBits 5 .presence, some 15⟩ }
            line := [.pulse 3500 9000] })
    t.pending = [.receivePresence 5] ∧ t.line = [.pulse 3500 9000] := by decide
/-- R133, R137: an own frame whose stop gap has run out is complete before that mark, and within the gap it is interrupted. -/
theorem test_observe_completion_then_mark :
    let s (since : Nat) : State :=
      { station with
        framer := { station.framer with st := .sending, sending := some ⟨.presence, frameBits 3 .presence, 16⟩ }
        line := [.pulse since 9000] }
    (after (step (s 3500))).pending = [.noticeCompletion] ∧
      (after (step (s 3499))).pending = [.shedMarkSeen false false] := by decide
/-- R135: the leading edge of a mark shows that a stuck line went recessive; the mark is then seen. -/
theorem test_observe_release :
    let t := after (step { station with framer := { station.framer with st := .stuck }, line := [.pulse 50000 9000] })
    t.pending = [.lineStuckRelease] ∧ t.line = [.pulse 50000 9000] := by decide
/-- R121, R130: with no other station driving, the own start pulse stands on the line, and the first bit follows. -/
theorem test_observe_own_start :
    let t :=
      after
        (step
          { station with
            framer :=
              { station.framer with
                st := .sending, sending := some ⟨.presence, frameBits 3 .presence, 0⟩, drive := some .start }
            line := [.quiet 20000] })
    t.framer.sending.map Sending.index = some 1 ∧ t.framer.drive = some (.bit true) ∧ t.line = [.quiet 20000] ∧
      t.pending = [] := by decide
/-- The station sending the first bit of a PRESENCE, a 1, against this observation of the other stations. -/
def contending (o : LineObs) : State :=
  { station with
    framer :=
      { station.framer with
        st := .sending, sending := some ⟨.presence, frameBits 3 .presence, 1⟩, drive := some (.bit true) }
    line := [o] }
/-- R131: another station's long pulse over the own short one loses the arbitration; its short one does not. -/
theorem test_observe_loss :
    (after (step (contending (.pulse 3100 600)))).pending = [.arbitrationLost 0] ∧
      (after (step (contending (.pulse 2900 600)))).pending = [.arbitrationLost 0] ∧
      (after (step (contending (.pulse 3050 200)))).framer.sending.map Sending.index = some 2 := by decide
/-- R121: several stations' pulses over the own 0 bit make one interval of 10.4 ms, which the station drove a part of. -/
theorem test_observe_wired_or :
    let t :=
      after
        (step
          { station with
            framer :=
              { station.framer with
                st := .sending, sending := some ⟨.presence, frameBits 3 .presence, 2⟩, drive := some (.bit false) }
            line := [.pulse 1000 200, .quiet 300, .pulse 400 10000, .quiet 12000] })
    t.pending = [.shedMarkSeen true false] ∧ t.line = [.quiet 12400] := by decide
/-- R121: two other stations' start pulses, 30 µs apart, are one start pulse of 2030 µs (section 7.8). -/
theorem test_observe_overlap :
    let t := after (step { station with line := [.pulse 50000 2000, .pulse 30 2000, .pulse 2970 600] })
    t.framer.reception = some ⟨[], none⟩ ∧ t.line = [.pulse 3000 600] := by decide
/-- R132: in the next slot, a leading edge 700 µs after the last one fails the attempt. -/
theorem test_observe_early :
    (after
        (step
          { station with
            framer :=
              { station.framer with
                st := .sending, sending := some ⟨.presence, frameBits 3 .presence, 2⟩, drive := some (.bit false) }
            line := [.pulse 700 200] })).pending =
      [.attemptFailed] := by decide
/-- R136: the station's own mark of 10 ms stands on the line, and is reported as its own. -/
theorem test_observe_own_mark :
    (after
        (step { station with framer := { station.framer with drive := some (.mark 0) }, line := [.quiet 10000] })).pending =
      [.shedMarkSeen true false] := by decide

/-- R124: the reports of a listening framer at each boundary of the classes. -/
theorem test_observe_classes :
    ([79, 80, 1499, 1500, 2499, 2500, 7999, 8000, 19999, 20000].map fun l =>
        (after (step { station with line := [.pulse 50000 l] })).pending) =
      [[], [.frameDiscarded], [.frameDiscarded], [], [], [.frameDiscarded], [.frameDiscarded], [.shedMarkSeen false false],
        [.shedMarkSeen false false], [.lineStuck]] := by decide
/-- The station receiving, with these bits so far, against this observation. -/
def receiving (bits : List Bool) (expected : Option Nat) (o : LineObs) : State :=
  { station with framer := { station.framer with st := .receiving, reception := some ⟨bits, expected⟩ }, line := [o] }
/-- R125, R126: the windows of the first bit and of a later one, and the last moment of an overlong frame. -/
theorem test_observe_windows :
    ([2799, 2800, 3400, 3401].map fun t => (after (step (receiving [] none (.pulse t 200)))).pending) =
        [[.frameDiscarded], [], [], [.frameDiscarded]] ∧
      ([799, 800, 1400, 1401].map fun t => (after (step (receiving [true] none (.pulse t 200)))).pending) =
        [[.frameDiscarded], [], [], [.frameDiscarded]] ∧
      ([3499, 3500].map fun t => (after (step (receiving (frameBits 5 .presence) (some 15) (.pulse t 200)))).pending) =
        [[.frameDiscarded], [.receivePresence 5]] := by decide

/-! ## Soundness of a small state -/

/-- The premises that many statements share. -/
structure Sound (s : State) : Prop where
  live : Live s
  ordered : FaultsOrdered s.faults
  fresh : RequestFresh s
  watched : LockWatched s

/-- No fault is held, and the lock matches. -/
abbrev Calm (s : State) : Prop :=
  s.inReset = false ∧ s.faults.active = none ∧ s.faults.waiting = [] ∧ s.request = formRequest s ∧
    s.loads.lock = s.request.lock ∧ s.loads.lockConfirm = none ∧ s.lines.locked = s.loads.lock

/-- One fault is held, not LOCK_FAULT, and the lock matches. -/
abbrev OneFault (k : FaultKind) (s : State) : Prop :=
  s.inReset = false ∧ s.faults.active = some k ∧ s.faults.waiting = [] ∧ k ≠ .lockFault ∧ s.request = formRequest s ∧
    s.loads.lock = s.request.lock ∧ s.loads.lockConfirm = none ∧ s.lines.locked = s.loads.lock

theorem Sound.of_calm {s : State} (h : Calm s) : Sound s := by
  obtain ⟨h1, h2, h3, h4, h5, h6, h7⟩ := h
  refine ⟨h1, ?_, fun _ => h4, fun _ => ⟨h5, ?_⟩⟩
  · unfold FaultsOrdered; simp [h2, h3]
  · simp [FaultUnit.holds, h2, h3, h6, h7]

theorem Sound.of_one {k : FaultKind} {s : State} (h : OneFault k s) : Sound s := by
  obtain ⟨h1, h2, h3, h4, h5, h6, h7, h8⟩ := h
  refine ⟨h1, ?_, fun _ => h5, fun _ => ⟨h6, ?_⟩⟩
  · unfold FaultsOrdered; simp [h2, h3]
  · simp [FaultUnit.holds, h2, h3, h7, h8, h4]

theorem ordered_one {f : FaultUnit} {k : FaultKind} (h : f.active = some k ∧ f.waiting = []) : FaultsOrdered f := by
  unfold FaultsOrdered; simp [h.1, h.2]

/-- An empty slot outside LEAVING fits. -/
theorem fits_empty {s : State}
    (h : s.member.slot = none ∧ s.member.inFlight = false ∧ s.member.heldOver = none ∧ s.framer.sending = none ∧
      s.member.st ≠ .leaving) : SlotFits s := by
  obtain ⟨h1, h2, h3, h4, h5⟩ := h
  simp [SlotFits, h1, h2, h3, h4, h5]

/-- A DEMAND waiting in MEMBER fits. -/
theorem fits_demand {s : State} {a : Announce}
    (h : s.member.slot = some (.demand a) ∧ s.member.inFlight = false ∧ s.member.heldOver = none ∧ s.framer.sending = none ∧
      s.member.st = .member) : SlotFits s := by
  obtain ⟨h1, h2, h3, h4, h5⟩ := h
  simp [SlotFits, h1, h2, h3, h4, h5, SlotKindFits, Notice.kind]

/-- A DEMAND or PRESENCE in flight in MEMBER fits. -/
theorem fits_flight {s : State} {n : Notice}
    (h : s.member.slot = some n ∧ s.member.inFlight = true ∧ s.member.heldOver = none ∧
      s.framer.sending.all (fun x => decide (x.notice = n)) = true ∧ s.member.st = .member ∧
      (n.kind = .demand ∨ n.kind = .presence)) : SlotFits s := by
  obtain ⟨h1, h2, h3, h4, h5, h6⟩ := h
  refine ⟨?_, by simp [h1], by simp [h3], by simp [h5], ?_⟩
  · intro m hm
    rw [h1] at hm; cases hm; rw [h5]; exact h6
  · intro x hx
    rw [hx] at h4
    exact ⟨by rw [h1, ← of_decide_eq_true h4], h2⟩

/-- A notice in flight with a load held over behind it fits, in MEMBER and, with a LEAVE held over, in LEAVING. -/
theorem fits_held {s : State} {n : Notice} {k : NoticeKind}
    (h : s.member.slot = some n ∧ s.member.inFlight = true ∧ s.member.heldOver = some k ∧
      s.framer.sending.all (fun x => decide (x.notice = n)) = true ∧
      (s.member.st = .leaving ∧ k = .leave ∨
        s.member.st = .member ∧ (n.kind = .demand ∨ n.kind = .presence) ∧ (k = .demand ∨ k = .presence))) : SlotFits s := by
  obtain ⟨h1, h2, h3, h4, h5⟩ := h
  refine ⟨?_, by simp [h1], ?_, ?_, ?_⟩
  · intro m hm
    rw [h1] at hm; cases hm
    obtain ⟨h6, -⟩ | ⟨h6, h7, -⟩ := h5
    · rw [h6]; trivial
    · rw [h6]; exact h7
  · intro j hj
    rw [h3] at hj; cases hj
    refine ⟨h2, ?_⟩
    obtain ⟨h6, rfl⟩ | ⟨h6, -, h8⟩ := h5
    · simp [h6]
    · rw [if_neg (by simp [h6])]; exact ⟨h6, h8⟩
  · intro h6
    obtain ⟨-, rfl⟩ | ⟨h7, -⟩ := h5
    · exact .inr ⟨h2, h3⟩
    · rw [h6] at h7; cases h7
  · intro x hx
    rw [hx] at h4
    exact ⟨by rw [h1, ← of_decide_eq_true h4], h2⟩

/-- A station in a membership state, with an empty slot and a listening framer. -/
def inState (m : MemberState) (s : State) : State := { s with member := { s.member with st := m } }

/-- The station with its framer sending this notice. -/
def sending (n : Notice) (m : MemberState) : State :=
  { station with
    member := { station.member with st := m, slot := some n, inFlight := true, joinNonce := some 90 }
    framer := { station.framer with st := .sending, sending := some ⟨n, frameBits 3 n, 4⟩, drive := some (.bit false) } }

/-! ## Queue and resets -/

theorem witness_StepTakesFrontCommand :
    ({ station with pending := [.doorOpen, .doorClose] } : State).pending = .doorOpen :: [.doorClose] := rfl

/-- What the line shows for each clause on the wired-OR, and what it gives a framer of each state. -/
theorem witness_IdleStepAndNoStop :
    (station.pending = [] ∧ station.line = [] ∧ Live station ∧ station.framer.st ≠ .silent ∧ State.reset.framer.st = .silent) ∧
      (station.framer.drive = none ∧ wired station.framer (.pulse 0 79) [] = ⟨some (.pulse 0 79), false, []⟩ ∧
        wired station.framer (.quiet 3500) [] = ⟨some (.quiet 3500), false, []⟩) ∧
      (let f := (contending (.quiet 0)).framer;
        f.st = .sending ∧ f.sending = some ⟨.presence, frameBits 3 .presence, 1⟩ ∧ f.drive = some (.bit true) ∧
          wired f (.quiet 3200) [] = ⟨some (.pulse 3000 200), true, [.quiet 200]⟩ ∧
          wired f (.quiet 3199) [] = ⟨none, false, []⟩ ∧
          wired f (.pulse 3000 600) [] = ⟨some (.pulse 3000 600), true, []⟩ ∧
          wired f (.pulse 800 100) [] = ⟨some (.pulse 800 200), true, []⟩ ∧
          wired f (.pulse 799 100) [] = ⟨some (.pulse 799 100), false, []⟩) ∧
      (∀ r ∈ [(⟨[], none⟩ : Reception), ⟨[true, false], none⟩, ⟨frameBits 5 .presence, some 15⟩],
        (receiving r.bits r.expected (.quiet 0)).framer.st = .receiving ∧
          (receiving r.bits r.expected (.quiet 0)).framer.reception = some r ∧
          wired (receiving r.bits r.expected (.quiet 0)).framer (.pulse 3500 80) [] = ⟨some (.pulse 3500 80), false, []⟩) ∧
      (({ station with framer := { station.framer with st := .stuck } } : State).framer.st = .stuck) := by decide

theorem witness_ResetPinKeepsLearned :
    State.reset.feeder.window = none ∧ station.feeder.window.isSome = true ∧ station.faults.history.length ≤ 4 := by decide

theorem witness_ResetAssertReleasesOutputs :
    ({ station with inReset := true } : State).inReset = true ∧ isReset .doorOpen = false := by decide

theorem witness_StrapWindowLatches :
    Live State.reset ∧ State.reset.straps.window.isSome = true ∧ StrapsFormed State.reset ∧ Settled (freshStart State.reset) ∧
      (freshStart State.reset).straps.window.isSome = true ∧ (freshStart State.reset).cycle.st = .idle ∧ Live station ∧
      station.straps.window = none :=
  ⟨by decide, by decide, by unfold StrapsFormed; decide, fun _ => settle_settle _, by decide, by decide, by decide, by decide⟩

/-! ## Keys and panel -/

/-- The station with something on its panel. -/
def panelled (p : Panel) : State := { station with panel := p }

theorem witness_PanelTimersStep :
    Live (panelled { Panel.reset with buzzer := some ⟨.doneTones, 4, 300⟩, phaseLamp := .flashing .dry true }) ∧
      (panelled { Panel.reset with buzzer := some ⟨.doneTones, 4, 300⟩, phaseLamp := .flashing .dry true }).panel.buzzer =
        some ⟨.doneTones, 4, 300⟩ ∧
      (panelled { Panel.reset with buzzer := some ⟨.doneTones, 4, 300⟩, phaseLamp := .flashing .dry true }).panel.phaseLamp =
        .flashing .dry true ∧
      Live (releasing station) ∧
      (∀ k ∈ [Key.start, .cancel, .power], (keyOf k (releasing station).panel).settles false = true) ∧
      Live (pressing station) ∧ (keyOf .cancel (pressing station).panel).settles false = false := by decide

/-- The station with a long press about to be recognised and one record in its history. -/
def recorded : State :=
  { station with
    panel := { Panel.reset with longPress := some 5000 }, faults := { FaultUnit.reset with history := [⟨3, 1, 2⟩] } }

theorem witness_HistoryDisplaySequence :
    Live recorded ∧ recorded.panel.longPress.isSome = true ∧ recorded.cycle.st = .idle ∧
      recorded.faults.history = ⟨3, 1, 2⟩ :: [] ∧
      (let s := { recorded with faults := FaultUnit.reset };
        Live s ∧ s.panel.longPress.isSome = true ∧ s.faults.history = []) ∧
      (let s := { recorded with cycle := dryCycle };
        Live s ∧ s.panel.longPress.isSome = true ∧ s.cycle.st ≠ .idle) ∧
      ∀ p ∈ [DisplayPart.code, .programme, .index, .separator],
        Live (panelled { Panel.reset with display := some ⟨⟨3, 1, 2⟩, [⟨3, 0, 0⟩], p, 500⟩ }) := by decide

/-! ## Programmes and cycle -/

theorem witness_RomFollowsItsPatterns :
    (readRom 7 0).map Record.kind = some .steam ∧ (readRom 0 0).map Record.kind = some .freshen ∧
      (readRom 6 1).map Record.kind = some .settle ∧ (readRom 5 0).map Record.kind = some .dry ∧
      (readRom 7 3).isSome = true ∧ readRom 7 4 = none := by decide

/-- With the tank low. -/
def lowWater (s : State) : State := { s with lines := { s.lines with waterLow := true } }

theorem witness_StartEntersPhaseZero :
    (∀ s ∈ [pressing station, lowWater (pressing station)],
        Live s ∧ s.panel.start.settles true = true ∧ s.feeder.window.isSome = true ∧ s.cycle.st = .idle ∧
          s.lines.doorOpen = false ∧ s.faults.blocking = false) ∧
      FaultsOrdered (pressing station).faults ∧ SlotFits (pressing station) ∧
      (let s := pressing (sending .presence .member);
        Sound s ∧ SlotFits s ∧ s.panel.start.settles true = true ∧ s.feeder.window.isSome = true ∧ s.cycle.st = .idle ∧
          s.lines.doorOpen = false ∧ s.faults.blocking = false ∧ s.member.inFlight = true ∧ s.member.refWant = 0 ∧
          s.request.want = 0) ∧
      ((1 : Fin 8).val = 4 * false.toNat + 2 * false.toNat + true.toNat ∧
        readRom 1 0 = some (steamRecord 12 55 20 6 1) ∧ (steamRecord 12 55 20 6 1).kind.usesSteam = true ∧
        station.lines.waterLow = false ∧ (lowWater (pressing station)).lines.waterLow = true ∧
        (5 : Fin 8).val = 4 * true.toNat + 2 * false.toNat + true.toNat ∧
        (readRom 5 0).map (fun r => r.kind.usesSteam) = some false ∧ station.member.st = .member ∧
        station.member.inFlight = false ∧ station.request.want = 0 ∧ station.member.refWant = 0) :=
  ⟨by decide, (Sound.of_calm (s := station) (by decide)).ordered, fits_empty (by decide),
    ⟨.of_calm (by decide), fits_flight (n := .presence) (by decide), by decide⟩, by decide⟩

theorem witness_RefusedKeysOnlyClick :
    (Live station ∧ station.panel.start.settles true = false ∧ station.panel.cancel.settles true = false ∧
        station.panel.power.settles true = false) ∧
      (let s := pressing State.reset;
        Live s ∧ s.feeder.window = none ∧ s.panel.start.settles true = true ∧ s.panel.cancel.settles true = true ∧
          s.panel.power.settles true = true) ∧
      (let s := pressing { station with lines := { station.lines with doorOpen := true } };
        Live s ∧ s.panel.start.settles true = true ∧ s.lines.doorOpen = true) ∧
      (let s := pressing { station with faults := { FaultUnit.reset with active := some .waterEmpty } };
        Live s ∧ s.panel.start.settles true = true ∧ s.faults.blocking = true) ∧
      (let s := pressing drying;
        Live s ∧ s.panel.start.settles true = true ∧ ¬(s.cycle.st = .idle ∨ s.cycle.st = .paused)) := by decide

/-- The paused station with its door closed again. -/
def closed : State := pressing (after (exec .doorClose paused))

/-- The steaming station paused by its door, the door closed again, the tank low. -/
def steamPaused : State := lowWater (pressing (after (exec .doorClose (after (exec .doorOpen steaming)))))

theorem witness_StartResumesPausedPhase :
    Sound closed ∧ FaultsOrdered steamPaused.faults ∧
      (closed.panel.start.settles true = true ∧ closed.feeder.window.isSome = true ∧ closed.cycle.st = .paused ∧
        closed.cycle.context = some ⟨2, 1320, 1, some 156⟩ ∧
        readRom closed.cycle.programme 2 = some (dryRecord 30 50 30 2 10) ∧ closed.lines.doorOpen = false ∧
        closed.faults.blocking = false ∧ closed.lines.waterLow = false) ∧
      (Live steamPaused ∧ steamPaused.panel.start.settles true = true ∧ steamPaused.feeder.window.isSome = true ∧
        steamPaused.cycle.st = .paused ∧ steamPaused.cycle.context = some ⟨0, 720, 0, none⟩ ∧
        readRom steamPaused.cycle.programme 0 = some (steamRecord 12 55 20 6 1) ∧ steamPaused.lines.doorOpen = false ∧
        steamPaused.faults.blocking = false ∧ steamPaused.lines.waterLow = true ∧
        (steamRecord 12 55 20 6 1).kind.usesSteam = true) := by
  refine ⟨.of_calm (by decide), ?_, by decide, by decide⟩
  have h : steamPaused.faults = FaultUnit.reset := by decide
  rw [h]; simp [FaultsOrdered, FaultUnit.reset]

/-- R26: a steam phase entered or resumed with the tank low is held where it stands. -/
theorem test_startPress_low :
    (after (exec (.startPress false false true) (lowWater (pressing station)))).cycle.st = .held ∧
      (after (exec (.startPress false false true) steamPaused)).faults.code = 5 := by decide

/-- The station halted with this fault active. -/
def halted (k : FaultKind) : State :=
  settle
    { station with
      cycle := { dryCycle.putAway .halted with index := 2 }
      request := { Request.reset with fan := 3, lock := false }
      faults := { FaultUnit.reset with active := some k, code := k.code } }

theorem witness_CancelByCycleState :
    (∀ s ∈ [pressing drying, pressing station, pressing paused, pressing (halted .overTemp), pressing (halted .waterEmpty)],
        s.panel.cancel.settles true = true ∧ s.feeder.window.isSome = true) ∧
      Sound (pressing drying) ∧ Sound (pressing station) ∧ Sound (pressing paused) ∧ Sound (pressing (halted .overTemp)) ∧
      Sound (pressing (halted .waterEmpty)) ∧
      (drying.cycle.st = .running ∧ paused.cycle.st = .paused ∧ (halted .waterEmpty).cycle.st = .halted ∧
        (halted .waterEmpty).faults.activeClass ≠ some .a ∧ (halted .overTemp).cycle.st = .halted ∧
        (halted .overTemp).faults.activeClass = some .a ∧ station.cycle.st = .idle ∧ 90 ≤ drying.climate.tmax ∧
        drying.panel.phaseLamp = .lit .dry) :=
  ⟨by decide, .of_calm (by decide), .of_calm (by decide), .of_calm (by decide), .of_one (k := .overTemp) (by decide),
    .of_one (k := .waterEmpty) (by decide), by decide⟩

/-- The station in STANDBY, silent. -/
def standing : State :=
  { station with
    cycle := { Cycle.reset with st := .standby }, member := Membership.reset, framer := Framer.reset
    share := LoadShare.reset }

theorem witness_PowerByMembership :
    (∀ s ∈ [pressing station, pressing (sending .presence .member), pressing (inState .joinListen station),
          pressing standing, pressing (inState .leaving station), pressing drying],
        s.panel.power.settles true = true ∧ s.feeder.window.isSome = true) ∧
      Sound (pressing station) ∧ Sound (pressing (sending .presence .member)) ∧
      Sound (pressing (inState .joinListen station)) ∧ Sound (pressing standing) ∧
      Sound (pressing (inState .leaving station)) ∧ Sound (pressing drying) ∧
      (station.cycle.st = .idle ∧ station.member.st = .member ∧ station.member.inFlight = false ∧
        (sending .presence .member).member.inFlight = true ∧ (sending .presence .member).member.st = .member ∧
        (inState .joinListen station).member.st = .joinListen ∧
        (inState .joinListen station).member.returnMark = false ∧ standing.cycle.st = .standby ∧
        standing.member.st = .standby ∧ standing.framer.st = .silent ∧ (inState .leaving station).cycle.st = .idle ∧
        (inState .leaving station).member.st = .leaving ∧
        ¬(drying.cycle.st = .idle ∨ drying.cycle.st = .done ∨ drying.cycle.st = .standby)) :=
  ⟨by decide, .of_calm (by decide), .of_calm (by decide), .of_calm (by decide), .of_calm (by decide), .of_calm (by decide),
    .of_calm (by decide), by decide⟩

theorem witness_PauseExpiryAbandonsCycle : Sound paused ∧ paused.cycle.pause.isSome = true :=
  ⟨.of_calm (by decide), by decide⟩

/-- The drying station cancelled at 48.0 °C, unlocked and not yet locked. -/
def cooling : State := after (exec .cancelPress (pressing drying))

/-- Of these readings the ones within range (R45). -/
def inRange (p0 p1 p2 : Int) : List Int := [p0, p1, p2].filter fun r => decide (-20 ≤ r) && decide (r ≤ 220)

/-- That station with its lock fault raised, since the solenoid never came to lock. -/
def coolingUnlocked : State := { cooling with faults := { FaultUnit.reset with active := some .lockFault, code := 7 } }

/-- Rounds with two or three probes within range, at both sides of 45.0 °C. -/
theorem witness_CancelCoolEndsInIdle :
    FaultsOrdered cooling.faults ∧ FaultsOrdered coolingUnlocked.faults ∧
      (∀ s ∈ [cooling, coolingUnlocked],
        Live s ∧ s.cycle.cancelCool.isSome = true ∧ s.cycle.st = .cancelCool ∧ s.faults.activeClass ≠ some .a ∧
          s.climate.overTemp = false ∧ s.lines.trip = false) ∧
      (inRange 89 (-20) 89 = [89, -20, 89] ∧ inRange 89 221 (-20) = [89, -20] ∧ inRange 90 221 139 = [90, 139]) := by
  refine ⟨?_, ordered_one (k := .lockFault) (by decide), by decide, by decide⟩
  have h : cooling.faults = FaultUnit.reset := by decide
  rw [h]; simp [FaultsOrdered, FaultUnit.reset]

/-- The drying station starved on an allowance of 5 units, at this count of starved seconds. -/
def starving (secs : Nat) : State :=
  settle
    { drying with
      cycle := { dryCycle with starved := true, starvedSecs := secs }
      share := { drying.share with grant := 5, allowance := 5 } }

theorem witness_SecondRunsOrStarves :
    Sound drying ∧ Settled drying ∧ Sound (starving 58) ∧ Settled (starving 58) ∧ Sound (starving 59) ∧
      Settled (starving 59) ∧
      (drying.cycle.st = .running ∧ drying.cycle.second.isSome = true ∧ drying.cycle.starved = false ∧
        1 < drying.cycle.remaining ∧ (starving 58).cycle.st = .running ∧ (starving 58).cycle.second.isSome = true ∧
        (starving 58).cycle.starved = true ∧ (starving 58).cycle.starvedSecs < 59 ∧ (starving 59).cycle.st = .running ∧
        (starving 59).cycle.second.isSome = true ∧ (starving 59).cycle.starved = true ∧
        (starving 59).cycle.starvedSecs = 59) :=
  ⟨.of_calm (by decide), fun _ => settle_settle _, .of_calm (by decide), fun _ => settle_settle _, .of_calm (by decide),
    fun _ => settle_settle _, by decide⟩

/-- The drying station in the last second of its DRY phase, or of its COOL phase. -/
def lastSecond (i : Nat) : State :=
  { drying with cycle := { dryCycle with index := i, record := readRom 1 i, remaining := 1 } }

theorem witness_PhaseEndsByTime :
    Live (lastSecond 2) ∧ FaultsOrdered (lastSecond 2).faults ∧ FaultsOrdered (lastSecond 3).faults ∧
      ((lastSecond 2).cycle.st = .running ∧ (lastSecond 2).cycle.second.isSome = true ∧ (lastSecond 2).cycle.starved = false ∧
        (lastSecond 2).cycle.remaining = 1 ∧ (lastSecond 2).faults.blocking = false ∧ Live (lowWater (lastSecond 2)) ∧
        readRom 1 (2 + 1) = some (coolRecord 5 3) ∧ (lastSecond 3).cycle.st = .running ∧
        (lastSecond 3).cycle.starved = false ∧ (lastSecond 3).cycle.remaining = 1 ∧ readRom 1 (3 + 1) = none) :=
  ⟨by decide, (Sound.of_calm (s := drying) (by decide)).ordered, (Sound.of_calm (s := drying) (by decide)).ordered, by decide⟩

/-! ## Door, water, lock and fan -/

theorem witness_DoorByCycleState :
    Sound drying ∧ Sound station ∧ Sound (halted .overTemp) ∧
      (drying.cycle.st = .running ∧ ¬(station.cycle.st = .running ∨ station.cycle.st = .held ∨ station.cycle.st = .done) ∧
        drying.cycle.kind = some .dry ∧ drying.panel.phaseLamp = .lit .dry ∧
        drying.cycle.st ≠ .halted ∧ 0 < drying.request.fan ∧ (halted .overTemp).cycle.st = .halted ∧
        station.loads.fan = 0) :=
  ⟨.of_calm (by decide), .of_calm (by decide), .of_one (k := .overTemp) (by decide), by decide⟩

/-- The steaming station held by this fault. -/
def held (k : FaultKind) : State :=
  settle
    { steaming with
      cycle := { steaming.cycle with st := .held, second := none }
      request := { Request.reset with fan := 1, lock := true }
      faults := { FaultUnit.reset with active := some k, code := k.code } }

theorem witness_WaterLevelHoldsSteam :
    Sound steaming ∧ Sound (held .waterEmpty) ∧ Sound drying ∧
      (steaming.cycle.steaming = true ∧ steaming.faults.blocking = false ∧ (held .waterEmpty).cycle.st = .held ∧
        (held .waterEmpty).faults.active = some .waterEmpty ∧ (∀ k ∈ (held .waterEmpty).faults.waiting, k.cls = .c) ∧
        (held .waterEmpty).cycle.record = some (steamRecord 12 55 20 6 1) ∧
        (steamRecord 12 55 20 6 1).kind.usesSteam = true ∧ drying.cycle.steaming = false) :=
  ⟨.of_calm (by decide), .of_one (k := .waterEmpty) (by decide), .of_calm (by decide), by decide⟩

/-- The steaming station held by the first of two class B faults, the second waiting behind it. -/
def heldBy (j k : FaultKind) : State :=
  { held j with faults := { FaultUnit.reset with active := some j, waiting := [k], code := j.code } }

/-- What the clauses on a refill outside a lone hold need: WATER_EMPTY pending, active with another hold behind it, or active in
HALTED and IDLE. -/
theorem witness_refill :
    Sound (heldBy .fanStall .waterEmpty) ∧ Sound (heldBy .waterEmpty .fanStall) ∧ Sound (halted .waterEmpty) ∧
      (heldBy .fanStall .waterEmpty).faults.active ≠ some .waterEmpty ∧
      (heldBy .waterEmpty .fanStall).faults.active = some .waterEmpty ∧ (heldBy .waterEmpty .fanStall).cycle.st = .held ∧
      (heldBy .waterEmpty .fanStall).faults.waiting.head?.map FaultKind.cls = some .b ∧
      (halted .waterEmpty).faults.active = some .waterEmpty ∧ (halted .waterEmpty).cycle.st = .halted := by
  refine ⟨⟨by decide, ⟨by decide, by decide, by decide, by decide⟩, fun _ => by decide, fun _ => by decide⟩,
    ⟨by decide, ⟨by decide, by decide, by decide, by decide⟩, fun _ => by decide, fun _ => by decide⟩,
    .of_one (k := .waterEmpty) (by decide), by decide⟩

/-- R166: a refill withdraws WATER_EMPTY from behind the fault that holds the cycle, and the hold stands. -/
theorem test_refill_pending :
    let t := after (exec (.waterLevelChange true) (heldBy .fanStall .waterEmpty))
    t.faults.waiting = [] ∧ t.faults.active = some .fanStall ∧ t.cycle.st = .held := by decide

/-- The steaming station held by LOCK_FAULT, its sense still not locked. -/
def lockHeld : State := { held .lockFault with lines := { Lines.reset with locked := false } }

/-- The drying station held by this fault, its dry point found in the hold. -/
def dryHeld (k : FaultKind) : State :=
  settle
    { drying with
      cycle := { dryCycle with st := .held, second := none }
      request := { steam := 0, heater := 0, cls := 0, boost := 1, fan := 2, lock := false, valve := false }
      climate := { drying.climate with watch := .found, dryPoint := true }
      faults := { FaultUnit.reset with active := some k, code := k.code } }

/-- What the clauses on a dry point found in the hold need. -/
theorem witness_dryHeld :
    Sound (dryHeld .fanStall) ∧ Settled (dryHeld .fanStall) ∧ FanWatched (dryHeld .fanStall) ∧
      FaultsOrdered (dryHeld .lockFault).faults ∧
      ∀ k ∈ [FaultKind.fanStall, .lockFault],
        let s := dryHeld k
        Live s ∧ s.cycle.st = .held ∧ s.faults.active = some k ∧ s.faults.waiting = [] ∧ s.faults.holds k = true ∧
          s.climate.dryPoint = true ∧ s.cycle.kind = some .dry ∧ 0 < s.request.fan ∧ s.loads.fan ≠ 0 ∧
          s.loads.lock = s.request.lock ∧ false = s.loads.lock ∧
          readRom s.cycle.programme (s.cycle.index + 1) = some (coolRecord 5 3) := by
  refine ⟨.of_one (k := .fanStall) (by decide), fun _ => settle_settle _, ?_, ordered_one (k := .lockFault) (by decide),
    by decide⟩
  unfold FanWatched; decide

/-- R27, R33: the tach pulse that ends the hold ends the DRY phase whose dry point was found in it. -/
theorem test_tachPulse_dryHeld :
    let t := after (exec .tachPulse (dryHeld .fanStall))
    t.cycle.st = .running ∧ t.cycle.index = 3 ∧ t.cycle.kind = some .cool ∧ t.climate.dryPoint = false := by decide

/-- The steaming station with its bolt open and the lock-confirm timer run out. -/
def unbolted : State :=
  { steaming with
    lines := { Lines.reset with locked := false }, loads := { steaming.loads with lockConfirm := some 2000 } }

theorem witness_LockSenseAndConfirm :
    Sound steaming ∧ FaultsOrdered lockHeld.faults ∧ FaultsOrdered unbolted.faults ∧ RequestFresh unbolted ∧
      (steaming.loads.lock = steaming.request.lock ∧ steaming.faults.holds .lockFault = false ∧ Live lockHeld ∧
        lockHeld.loads.lock = lockHeld.request.lock ∧ lockHeld.faults.holds .lockFault = true ∧
        true = lockHeld.loads.lock ∧ lockHeld.cycle.st = .held ∧ lockHeld.faults.active = some .lockFault ∧
        lockHeld.faults.waiting = [] ∧ lockHeld.climate.dryPoint = false ∧ lockHeld.lines.waterLow = false ∧ Live unbolted ∧
        unbolted.loads.lock = unbolted.request.lock ∧ unbolted.loads.lockConfirm.isSome = true ∧
        unbolted.lines.locked ≠ unbolted.loads.lock ∧ unbolted.faults.holds .lockFault = false ∧
        unbolted.faults.blocking = false ∧ station.loads.lockConfirm = none ∧ Live (lowWater lockHeld) ∧
        (lowWater lockHeld).lines.waterLow = true ∧ lockHeld.cycle.record = some (steamRecord 12 55 20 6 1) ∧
        (steamRecord 12 55 20 6 1).kind.usesSteam = true) :=
  ⟨.of_calm (by decide), ordered_one (k := .lockFault) (by decide), (Sound.of_calm (s := steaming) (by decide)).ordered,
    fun _ => by decide, by decide⟩

theorem witness_FanTachAndWatchdog :
    Sound drying ∧ Settled drying ∧ FanWatched drying ∧ Sound (held .fanStall) ∧ Settled (held .fanStall) ∧
      FanWatched (held .fanStall) ∧
      (station.loads.fan = 0 ∧ drying.loads.fan ≠ 0 ∧ drying.faults.holds .fanStall = false ∧
        (held .fanStall).loads.fan ≠ 0 ∧ (held .fanStall).faults.holds .fanStall = true ∧ (held .fanStall).cycle.st = .held ∧
        (held .fanStall).faults.active = some .fanStall ∧ (held .fanStall).faults.waiting = [] ∧
        (held .fanStall).climate.dryPoint = false ∧ (held .fanStall).lines.waterLow = false ∧
        0 < (held .fanStall).request.fan ∧ (held .fanStall).cycle.record = some (steamRecord 12 55 20 6 1) ∧
        drying.loads.tachWatchdog.isSome = true ∧ drying.faults.blocking = false ∧
        station.loads.tachWatchdog = none) := by
  refine ⟨.of_calm (by decide), fun _ => settle_settle _, ?_, .of_one (k := .fanStall) (by decide), fun _ => settle_settle _,
    ?_, by decide⟩
  all_goals unfold FanWatched; decide

/-! ## Climate -/

theorem witness_TripLineWorksLatch :
    Sound drying ∧ drying.faults.holds .overTemp = drying.climate.overTemp ∧ drying.climate.overTemp = false ∧
      drying.faults.activeClass ≠ some .a ∧ drying.cycle.st = .running :=
  ⟨.of_calm (by decide), by decide⟩

theorem witness_ProbeRoundFormsTemperatures :
    Sound drying ∧ drying.faults.holds .overTemp = drying.climate.overTemp ∧
      invalidCount (sampleProbes (-20) 220 (-21) drying.climate) = 1 ∧
      invalidCount (sampleProbes 221 221 (-21) drying.climate) = 3 :=
  ⟨.of_calm (by decide), by decide⟩

theorem witness_RegulationFollowsTr :
    Sound drying ∧
      (drying.faults.blocking = false ∧ drying.climate.overTemp = false ∧ drying.lines.trip = false ∧
        drying.lines.waterLow = false ∧ drying.cycle.st = .running ∧ drying.cycle.record = some (dryRecord 30 50 30 2 10) ∧
        (dryRecord 30 50 30 2 10).target = some 100 ∧ (-20 : Int) ≤ 139 ∧ (139 : Int) < 140) ∧
      Sound (held .waterEmpty) ∧
      (let s := held .waterEmpty;
        s.climate.overTemp = false ∧ s.lines.trip = false ∧ s.cycle.st = .held ∧ s.faults.activeClass = some .b ∧
          s.faults.holds .lockFault = false ∧ s.cycle.record = some (steamRecord 12 55 20 6 1) ∧
          (steamRecord 12 55 20 6 1).target = some 110) ∧
      Sound (lowWater drying) ∧ (lowWater drying).faults.blocking = false ∧ (lowWater drying).lines.waterLow = true ∧
      (dryRecord 30 50 30 2 10).kind.usesSteam = false :=
  ⟨.of_calm (by decide), by decide, .of_one (k := .waterEmpty) (by decide), by decide, .of_calm (by decide), by decide⟩

/-- R23: in HELD, Tr at the target of 55.0 °C turns the latch off. -/
theorem test_probeRound_held :
    let t := after (exec (.probeRound 110 110 110) (held .waterEmpty))
    (held .waterEmpty).cycle.latch = true ∧ t.cycle.latch = false ∧ t.cycle.st = .held := by decide

theorem witness_HumidityReadingFeedsRing : Sound drying ∧ (0 : Int) ≤ 0 ∧ (200 : Int) ≤ 200 ∧ ¬(0 ≤ (201 : Int) ∧ (201 : Int) ≤ 200) :=
  ⟨.of_calm (by decide), by decide⟩

/-- The drying station with this state of watch, held or running. -/
def watching (st : CycleState) (ring : Nat) : State :=
  { drying with
    cycle := { dryCycle with st, second := if st = .running then some 1000 else none }
    request :=
      if st = .running then drying.request
      else { steam := 0, heater := 0, cls := 0, boost := 1, fan := 2, lock := false, valve := false }
    climate := { drying.climate with ring := List.replicate 61 ring } }

theorem witness_DryPointEndsDryPhase :
    Sound (watching .running 140) ∧ Sound (lowWater (watching .running 140)) ∧ Sound (watching .held 140) ∧
      (let s := watching .running 140;
        s.cycle.kind = some .dry ∧ s.climate.watch = .testing ∧ 60 ≤ s.climate.ring.length ∧ s.climate.ring.length ≤ 61 ∧
          s.climate.humidityValid = true ∧ s.faults.holds .humidityFault = false ∧ (136 : Int) + 20 ≤ 156 ∧
          (((s.climate.ring.drop 1).headD 0 : Nat) : Int) - 136 ≤ 4 ∧ s.faults.blocking = false ∧ s.lines.waterLow = false ∧
          readRom s.cycle.programme (s.cycle.index + 1) = some (coolRecord 5 3) ∧ (coolRecord 5 3).kind = .cool ∧
          (max s.climate.peak 137 : Nat) < (137 : Int) + 20 ∧ s.climate.dryPoint = false) ∧
      (watching .held 140).cycle.st = .held ∧
      (let s := watching .running 141;
        Sound s ∧ s.cycle.kind = some .dry ∧ s.climate.watch = .testing ∧
          4 < (((s.climate.ring.drop (s.climate.ring.length - 60)).headD 0 : Nat) : Int) - 136 ∧
          (136 : Int) + 20 ≤ (max s.climate.peak 136 : Nat) ∧ s.climate.dryPoint = false) ∧
      (∀ w ∈ [Watch.testing, .tracking, .warmUp],
        let s := { drying with climate := { drying.climate with ring := List.replicate 59 140, watch := w } };
        s.cycle.kind = some .dry ∧ s.climate.watch = w ∧ s.climate.ring.length < 60 ∧ s.climate.dryPoint = false ∧
          s.climate.humidityValid = true ∧ s.faults.holds .humidityFault = false) ∧
      (let s := { drying with climate := { drying.climate with watch := .warmUp, warmUp := some 120000 } };
        Live s ∧ s.climate.warmUp.isSome = true) ∧
      (let s := { drying with climate := { drying.climate with watch := .tracking, tracking := some 60000 } };
        Live s ∧ s.climate.tracking.isSome = true) :=
  ⟨.of_calm (by decide), .of_calm (by decide), .of_calm (by decide), by decide, by decide,
    ⟨.of_calm (by decide), by decide⟩, by decide, by decide, by decide⟩

/-! ## Mains -/

/-- A station learning its mains, with these closings recorded. -/
def learning (n interval peak : Nat) : State :=
  { State.reset with
    straps := latchStraps 3 3 5
    feeder :=
      { Feeder.reset with
        st := .learning, crossed := true, halfOpen := true, intervals := List.replicate n interval
        peaks := List.replicate n peak, peak, watchdog := some 40 } }

/-- That station with MAINS_LOST raised by an earlier attempt. -/
def relearning (n interval peak : Nat) : State :=
  { learning n interval peak with faults := { FaultUnit.reset with active := some .mainsLost, code := 3 } }

theorem witness_LearningMeasuresMains :
    (learning 14 10000 812).feeder.halfOpen = true ∧ (learning 14 10000 812).feeder.intervals.length < 15 ∧
      Live (learning 14 10000 812) ∧ (learning 14 10000 812).feeder.crossed = true ∧ (4999 : Nat) < 5000 ∧
      (∀ p ∈ [(9000, 100), (11000, 100), (7500, 120), (8999, 120)],
        ∀ s ∈ [learning 15 p.1 100, relearning 15 p.1 100],
          Live s ∧ s.feeder.st = .learning ∧ s.feeder.halfOpen = true ∧ s.feeder.intervals.length = 15 ∧
            100 ≤ (s.feeder.peaks.sum + s.feeder.peak) / 16 ∧ (s.feeder.intervals.sum + p.1) / 16 = p.1) ∧
      (learning 15 8999 100).faults.holds .mainsLost = false ∧ (relearning 15 8999 100).faults.holds .mainsLost = true ∧
      ((learning 15 10000 99).feeder.peaks.sum + (learning 15 10000 99).feeder.peak) / 16 < 100 ∧
      ((learning 15 7499 812).feeder.intervals.sum + 7499) / 16 < 7500 ∧
      11000 < ((learning 15 11001 812).feeder.intervals.sum + 11001) / 16 ∧
      ({ (learning 0 0 0) with feeder := { (learning 0 0 0).feeder with halfOpen := false } } : State).feeder.halfOpen =
        false := by decide

theorem witness_HalfCycleFiresLoads :
    Live station ∧ station.feeder.st = .running ∧ station.feeder.window = some 100 ∧ station.feeder.nominal = some 812 ∧
      88 * 812 ≤ 100 * station.feeder.peak ∧
      ({ station with feeder := { station.feeder with halfOpen := false } } : State).feeder.halfOpen = false := by decide

/-- The drying station at a half-cycle of this peak, with this sag run count. -/
def sagging (run peak : Nat) : State := { drying with feeder := { drying.feeder with sagRun := run, peak } }

theorem witness_SagOriginatesShedMark :
    Live (sagging 2 714) ∧ (sagging 2 714).feeder.st = .running ∧ (sagging 2 714).feeder.window = some 100 ∧
      (sagging 2 714).feeder.nominal = some 812 ∧ (sagging 2 714).feeder.halfOpen = true ∧
      100 * (sagging 2 714).feeder.peak < 88 * 812 ∧ 2 ≤ (sagging 2 714).feeder.sagRun ∧ (sagging 2 714).share.arm = true ∧
      (sagging 2 714).member.st = .member ∧ (sagging 1 714).feeder.sagRun < 2 ∧ (sagging 2 714).loads.position = 0 := by decide

/-- R142, R154: the zero-cross whose closing originates a shed mark fires on the capped allowance, the counts lowered within the
window. -/
theorem test_zeroCross_sag :
    let s := { sagging 2 714 with loads := { drying.loads with position := 50, heaterCount := 66 } }
    let t := after (exec (.zeroCross 10000 0) s)
    t.loads.heaterLevel = 8 ∧ t.loads.heaterCount = 26 ∧ t.loads.position = 51 := by decide

theorem witness_MainsLossAndReturn :
    Sound drying ∧
      (drying.feeder.watchdog.isSome = true ∧ drying.feeder.st = .running ∧ drying.faults.activeClass ≠ some .a ∧
        drying.cycle.st = .running ∧ (learning 0 0 0).feeder.watchdog.isSome = true ∧
        (learning 0 0 0).feeder.st = .learning ∧ (learning 0 0 0).faults.active = none) ∧
      (let s := { halted .mainsLost with feeder := { station.feeder with st := .lost, resume := some 1000 } };
        Sound s ∧ s.feeder.watchdog.isSome = true ∧ s.feeder.st = .lost ∧ s.feeder.resume.isSome = true ∧
          s.cycle.st = .halted) :=
  ⟨.of_calm (by decide), by decide, .of_one (k := .mainsLost) (by decide), by decide⟩

/-! ## Load sharing -/

theorem witness_PeriodAgesTableAndHold : Sound drying ∧ drying.share.period.isSome = true ∧ drying.table.length = 16 :=
  ⟨.of_calm (by decide), by decide⟩

/-- The station with a PRESENCE in flight, at this presence count. -/
def quietly (presence : Nat) : State :=
  { sending .presence .member with member := { (sending .presence .member).member with presence } }

theorem witness_MemberSpeaksAtPeriod :
    Sound drying ∧ SlotFits drying ∧ Sound station ∧ SlotFits station ∧
      (drying.share.period.isSome = true ∧ drying.member.st = .member ∧ drying.member.inFlight = false ∧
        0 < drying.request.want ∧ station.share.period.isSome = true ∧ station.member.st = .member ∧
        station.member.inFlight = false ∧ station.request.want = 0 ∧ station.share.allowance = 0 ∧
        station.member.lastClaim = 0 ∧ 7 ≤ station.member.presence) ∧
      (let s := { station with member := { station.member with presence := 6 } };
        Sound s ∧ SlotFits s ∧ s.request.want = 0 ∧ s.member.presence < 7) ∧
      (Sound sendingDemand ∧ SlotFits sendingDemand ∧ sendingDemand.member.inFlight = true ∧
        sendingDemand.member.st = .member ∧ sendingDemand.share.period.isSome = true ∧ 0 < sendingDemand.request.want) ∧
      (Sound (quietly 6) ∧ SlotFits (quietly 6) ∧ Sound (quietly 7) ∧ SlotFits (quietly 7)) ∧
      ∀ p ∈ [6, 7],
        (quietly p).member.inFlight = true ∧ (quietly p).member.st = .member ∧ (quietly p).share.period.isSome = true ∧
          (quietly p).request.want = 0 ∧ (quietly p).share.allowance = 0 ∧ (quietly p).member.lastClaim = 0 ∧
          (quietly p).member.presence = p :=
  ⟨.of_calm (by decide), fits_empty (by decide), .of_calm (by decide), fits_empty (by decide), by decide,
    ⟨.of_calm (by decide), fits_empty (by decide), by decide⟩,
    ⟨.of_calm (by decide), fits_flight (n := .demand ⟨2, 1, 30, 20, 20⟩) (by decide), by decide⟩,
    ⟨.of_calm (by decide), fits_flight (n := .presence) (by decide), .of_calm (by decide),
      fits_flight (n := .presence) (by decide)⟩, by decide⟩

/-- The station in a membership state after this many own periods. -/
def counted (m : MemberState) (n : Nat) : State := { station with member := { station.member with st := m, periodCount := n } }

theorem witness_JoiningCountsPeriods :
    (Sound (counted .joinListen 0) ∧ SlotFits (counted .joinListen 0)) ∧
      (Sound (counted .joinListen 1) ∧ SlotFits (counted .joinListen 1)) ∧
      (Sound (counted .joinHold 1) ∧ SlotFits (counted .joinHold 1)) ∧
      ((counted .joinListen 0).share.period.isSome = true ∧ (counted .joinListen 0).member.periodCount = 0 ∧
        (counted .joinListen 1).member.st = .joinListen ∧ (counted .joinListen 1).member.periodCount = 1 ∧
        (counted .joinListen 1).framer.st = .listen ∧
        (counted .joinListen 1).framer.drive = none ∧ (counted .joinHold 1).member.st = .joinHold) :=
  ⟨⟨.of_calm (by decide), fits_empty (by decide)⟩, ⟨.of_calm (by decide), fits_empty (by decide)⟩,
    ⟨.of_calm (by decide), fits_empty (by decide)⟩, by decide⟩

theorem witness_RaiseAndLimitTimers :
    (let s := { drying with share := { drying.share with raiseReady := some ⟨1000, 5⟩ } };
      Live s ∧ s.share.raiseReady = some ⟨1000, 5⟩ ∧ s.share.limitTimer.isSome = true ∧ s.member.st = .member) ∧
      (inState .isolated drying).member.st = .isolated ∧ (inState .isolated drying).share.limitTimer.isSome = true ∧
      station.share.raiseReady = none ∧
      ({ station with share := { station.share with limitTimer := none } } : State).share.limitTimer = none := by decide

theorem witness_FillStaysWithinPool :
    (∀ p ∈ [(⟨2, 5, 30⟩ : Participant), ⟨0, 4, 26⟩, ⟨5, 3, 30⟩], 0 < p.weight) ∧
      ([(⟨2, 5, 30⟩ : Participant), ⟨0, 4, 26⟩, ⟨5, 3, 30⟩].map Participant.addr).Nodup := by decide

theorem witness_GrantFitsBesidePeers :
    drying.member.st = .member ∧ 0 < grantOf drying ∧
      (let s := { drying with share := { drying.share with hold := 3 } };
        s.member.st = .member ∧ 0 < grantOf s ∧ 0 < s.share.hold) := by decide

theorem witness_FiringSpreadsEvenly : (0 : Nat) < 100 ∧ (66 : Nat) ≤ 100 ∧ (30 : Nat) ≤ 66 ∧ (100 : Nat) ≤ 100 := by decide

/-! ## The Share Line -/

theorem witness_FrameReadsBackWhole :
    NoticeInRange (.demand ⟨3, 7, 48, 48, 48⟩) ∧ NoticeInRange (.joinConfirm 255 48) := by
  unfold NoticeInRange; decide

theorem witness_LowerFrameWinsArbitration :
    (Notice.leave.kind.code < (Notice.presence).kind.code) ∧
      ((Notice.presence).kind = (Notice.presence).kind ∧ (14 : Fin 16) < 15) := by decide

theorem witness_SendingAndArbitration :
    (let s :=
        { station with
          member := { station.member with slot := some .presence }, framer := { station.framer with st := .waiting } };
      Live s ∧ s.framer.idleHold.isSome = true ∧ s.framer.st = .waiting ∧ s.member.slot = some .presence) ∧
      (Live station ∧ station.framer.idleHold.isSome = true ∧ station.framer.st = .listen) ∧
      (let s := sending .presence .member;
        Live s ∧ s.framer.st = .sending ∧ s.framer.marking = false ∧
          s.framer.sending = some ⟨.presence, frameBits 3 .presence, 4⟩ ∧ (frameBits 3 .presence)[2]? = some true ∧
          (frameBits 3 .presence)[1]? ≠ some true) := by decide

/-- The station leaving, its LEAVE waiting for the line. -/
def leavingStation : State :=
  { station with
    member := { station.member with st := .leaving, slot := some .leave }, framer := { station.framer with st := .waiting } }

theorem witness_OwnAddressDefendedOrGivenUp :
    (∀ p ∈ [(Instr.receiveDemand 3 2 1 30 20 20, NoticeKind.demand), (.receivePresence 3, .presence),
          (.receiveJoinAsk 3 90, .joinAsk), (.receiveJoinConfirm 3 90 8, .joinConfirm), (.receiveLeave 3, .leave)],
        noticeFrom station.straps.address p.1 = some p.2) ∧
      (∀ m ∈ [MemberState.joinListen, .joinAsk, .joinHold, .joinConfirm, .member, .isolated, .duplicate],
        Live (inState m station) ∧ (inState m station).straps.address = 3 ∧ (inState m station).framer.st = .listen ∧
          (inState m station).member.st = m ∧ (inState m station).member.slot = none ∧
          (inState m station).member.heldOver = none ∧ (inState m station).member.inFlight = false) ∧
      (Live leavingStation ∧ leavingStation.straps.address = 3 ∧ leavingStation.framer.st = .waiting ∧
        leavingStation.member.st = .leaving ∧ leavingStation.member.slot = some .leave ∧
        leavingStation.member.heldOver = none) ∧
      SlotFits station ∧ SlotFits drying ∧
      (0 < drying.request.want ∧ drying.member.st = .member ∧ station.request.want = 0 ∧ station.share.allowance = 0 ∧
        station.member.lastClaim = 0) :=
  ⟨by decide, by decide, by decide, fits_empty (by decide), fits_empty (by decide), by decide⟩

/-- The drying station with a DEMAND waiting for the line. -/
def waitingDemand : State :=
  { drying with
    member := { drying.member with slot := some (.demand ⟨2, 1, 30, 20, 20⟩) }, framer := { drying.framer with st := .waiting } }

theorem witness_DiscardRefreshesSlot :
    (Live station ∧ station.framer.st = .listen ∧ station.member.heldOver = none ∧ station.member.slot = none) ∧
      (Live waitingDemand ∧ waitingDemand.framer.st = .waiting ∧ waitingDemand.member.heldOver = none ∧
        waitingDemand.member.slot = some (.demand ⟨2, 1, 30, 20, 20⟩)) := by decide

/-- The station with this notice in flight and this load held over behind it. -/
def holding (n : Notice) (k : NoticeKind) (m : MemberState) : State :=
  { sending n m with member := { (sending n m).member with heldOver := some k } }

/-- That station receiving the frame to which it lost the arbitration. -/
def lostTo (s : State) : State :=
  { s with
    framer := { s.framer with st := .receiving, sending := none, drive := none, lost := true, reception := some ⟨[false], none⟩ } }

/-- R107: the held-over LEAVE is loaded at the completion, and the held-over DEMAND at the end of the frame that won. -/
theorem test_heldOver :
    (after (exec .noticeCompletion (holding .presence .leave .leaving))).member.slot = some .leave ∧
      (after (exec .frameDiscarded (lostTo (holding .presence .demand .member)))).member.slot =
        some (.demand ⟨0, 0, 0, 0, 0⟩) := by decide

theorem witness_ReceivedNoticeSetsEntry :
    Sound drying ∧ Sound waitingDemand ∧ Sound (lostTo (holding .presence .demand .member)) ∧
      SlotFits (lostTo (holding .presence .demand .member)) ∧
      ((4 : Fin 16).val ≠ drying.straps.address ∧ drying.framer.st = .listen ∧ drying.member.slot = none ∧
        drying.member.heldOver = none ∧ waitingDemand.framer.st = .waiting ∧ waitingDemand.member.heldOver = none ∧
        waitingDemand.member.slot = some (.demand ⟨2, 1, 30, 20, 20⟩) ∧
        (lostTo (holding .presence .demand .member)).framer.st = .receiving ∧
        (lostTo (holding .presence .demand .member)).member.heldOver.isSome = true ∧ (4 : Fin 16).val ≠ 3) :=
  ⟨.of_calm (by decide), .of_calm (by decide), .of_calm (by decide), fits_held (n := .presence) (k := .demand) (by decide),
    by decide⟩

/-- R93, R106: after a received DEMAND the waiting one carries the grant that reads it, and no raise is ready. -/
theorem test_receiveDemand_refresh :
    let t := after (exec (.receiveDemand 4 3 0 26 26 26) waitingDemand)
    t.member.slot = some (.demand ⟨2, 1, 30, t.share.grant, t.loads.draw⟩) ∧ t.framer.st = .waiting ∧
      t.share.raiseReady = none := by decide

/-- What the held-over clauses of four statements need, but for the framer's state. -/
theorem witness_heldOver :
    (∀ s ∈ [holding .presence .demand .member, holding (.demand ⟨0, 0, 0, 0, 0⟩) .presence .member,
          holding .presence .leave .leaving],
        Live s ∧ s.framer.st = .sending ∧ s.framer.marking = false ∧ s.framer.sending.isSome = true ∧
          s.member.heldOver.isSome = true ∧ s.framer.failures < 7 ∧ Live (lostTo s) ∧
          (lostTo s).framer.st = .receiving ∧ (lostTo s).member.heldOver.isSome = true) ∧
      SlotFits (holding .presence .demand .member) ∧ SlotFits (holding (.demand ⟨0, 0, 0, 0, 0⟩) .presence .member) ∧
      SlotFits (holding .presence .leave .leaving) ∧ SlotFits (lostTo (holding .presence .demand .member)) :=
  ⟨by decide, fits_held (n := .presence) (k := .demand) (by decide),
    fits_held (n := .demand ⟨0, 0, 0, 0, 0⟩) (k := .presence) (by decide),
    fits_held (n := .presence) (k := .leave) (by decide), fits_held (n := .presence) (k := .demand) (by decide)⟩

/-- What the defence with a notice in flight needs: a quiet station and one with want, with and without a load held over, each
receiving the frame to which it lost the arbitration. -/
theorem witness_OwnAddressDefendedInFlight :
    (∀ s ∈ [lostTo (sending .presence .member), lostTo (holding .presence .demand .member), lostTo sendingDemand],
        Live s ∧ s.straps.address = 3 ∧ s.framer.st = .receiving ∧ s.member.st = .member ∧ s.member.inFlight = true) ∧
      noticeFrom 3 (.receiveJoinAsk 3 90) = some .joinAsk ∧
      (lostTo (sending .presence .member)).member.heldOver = none ∧
      (lostTo (sending .presence .member)).request.want = 0 ∧ (lostTo (sending .presence .member)).share.allowance = 0 ∧
      (lostTo (sending .presence .member)).member.lastClaim = 0 ∧ 0 < (lostTo sendingDemand).request.want ∧
      SlotFits (lostTo (sending .presence .member)) ∧ SlotFits (lostTo (holding .presence .demand .member)) ∧
      SlotFits (lostTo sendingDemand) :=
  ⟨by decide, by decide, by decide, by decide, by decide, by decide, by decide, fits_flight (n := .presence) (by decide),
    fits_held (n := .presence) (k := .demand) (by decide), fits_flight (n := .demand ⟨2, 1, 30, 20, 20⟩) (by decide)⟩

/-- R107, R115: the JOIN-ASK of another station with the own address, heard in place of the own PRESENCE, is defended. -/
theorem test_receiveJoinAsk_defended :
    let t := after (exec (.receiveJoinAsk 3 90) (lostTo (sending .presence .member)))
    t.member.st = .member ∧ t.member.slot = some .presence ∧ t.member.presence = 0 ∧ t.framer.st = .waiting := by decide

/-- The station sending its LEAVE, with the return mark set or not. -/
def sendingLeave (back : Bool) : State :=
  { sending .leave .leaving with member := { (sending .leave .leaving).member with returnMark := back } }

/-- R118: with the return mark set a completed LEAVE leads on to JOIN_LISTEN. -/
theorem test_leave_returns :
    (after (exec .noticeCompletion (sendingLeave true))).member.st = .joinListen ∧
      (after (exec .noticeCompletion (sendingLeave false))).member.st = .standby := by decide

theorem witness_CompletionActsByKind :
    (∀ p ∈ [(Notice.demand ⟨2, 1, 30, 20, 20⟩, MemberState.member), (.presence, .member), (.joinAsk 90, .joinAsk),
          (.joinConfirm 90 8, .joinConfirm), (.leave, .leaving)],
        Live (sending p.1 p.2) ∧ (sending p.1 p.2).framer.st = .sending ∧ (sending p.1 p.2).framer.marking = false ∧
          (sending p.1 p.2).framer.sending = some ⟨p.1, frameBits 3 p.1, 4⟩ ∧ (sending p.1 p.2).member.heldOver = none ∧
          (sending p.1 p.2).member.st = p.2) ∧
      Sound (sending (.joinConfirm 90 8) .joinConfirm) ∧ Sound (sendingLeave false) ∧ Sound (sendingLeave true) ∧
      (∀ b ∈ [false, true],
        (sendingLeave b).framer.st = .sending ∧ (sendingLeave b).framer.marking = false ∧
          (sendingLeave b).member.st = .leaving ∧ (sendingLeave b).framer.sending.map Sending.notice = some .leave) :=
  ⟨by simp [sending, station, State.reset, Live, Framer.reset, Membership.reset, Framer.marking, Drive.isMark],
    .of_calm (by decide), .of_calm (by decide), .of_calm (by decide), by decide⟩

/-- The station sending a DEMAND after this many failures. -/
def failing (n : Nat) : State :=
  { sending (.demand ⟨0, 0, 0, 0, 0⟩) .member with
    framer := { (sending (.demand ⟨0, 0, 0, 0, 0⟩) .member).framer with failures := n } }

theorem witness_FailureLimitAndStuckLine :
    Sound (failing 6) ∧ Sound (failing 7) ∧ Sound station ∧ Sound (inState .leaving station) ∧
      ((failing 6).framer.st = .sending ∧ (failing 6).framer.marking = false ∧ (failing 6).framer.sending.isSome = true ∧
        (failing 6).member.heldOver = none ∧ (failing 6).member.slot = some (.demand ⟨0, 0, 0, 0, 0⟩) ∧
        (failing 6).framer.failures < 7 ∧ (failing 7).framer.failures = 7 ∧ (failing 7).framer.sending.isSome = true ∧
        (failing 7).member.st = .member ∧ station.framer.st ≠ .silent ∧ station.member.st = .member ∧
        (inState .leaving station).framer.st ≠ .silent ∧ (inState .leaving station).member.st = .leaving ∧
        (inState .leaving station).member.returnMark = false) ∧
      Sound { inState .leaving station with member := { (inState .leaving station).member with returnMark := true } } ∧
      Sound { station with framer := { station.framer with st := .stuck } } ∧
      (let s := { sendingLeave true with framer := { (sendingLeave true).framer with failures := 7 } };
        Sound s ∧ s.framer.st = .sending ∧ s.framer.marking = false ∧ s.framer.sending.isSome = true ∧
          s.framer.failures = 7 ∧ s.member.st = .leaving) ∧
      ∀ m ∈ [MemberState.isolated, .duplicate],
        Live (inState m station) ∧ (inState m station).framer.st ≠ .silent ∧ (inState m station).member.st = m :=
  ⟨.of_calm (by decide), .of_calm (by decide), .of_calm (by decide), .of_calm (by decide), by decide, .of_calm (by decide),
    .of_calm (by decide), ⟨.of_calm (by decide), by decide⟩, by decide⟩

/-- That station with its own mark on the line. -/
def marking (s : State) : State := { s with framer := { s.framer with drive := some (.mark 0) } }

theorem witness_ShedMarkTightensAllowance :
    (Live drying ∧ drying.framer.st = .listen ∧ drying.framer.marking = false ∧ drying.member.st ≠ .standby) ∧
      (let s := marking station;
        Live s ∧ s.framer.st = .listen ∧ s.framer.marking = true ∧ s.member.slot = none ∧ s.member.heldOver = none ∧
          s.member.inFlight = false) ∧
      (∀ s ∈ [sendingDemand, marking sendingDemand],
        Live s ∧ s.framer.st = .sending ∧ s.member.slot = some (.demand ⟨2, 1, 30, 20, 20⟩) ∧ s.member.heldOver = none ∧
          s.member.inFlight = true ∧ s.member.st = .member) ∧
      sendingDemand.framer.marking = false ∧ (marking sendingDemand).framer.marking = true ∧
      (let s := marking waitingDemand;
        Live s ∧ s.framer.st = .waiting ∧ s.framer.marking = true ∧ s.member.inFlight = false ∧
          s.member.slot = some (.demand ⟨2, 1, 30, 20, 20⟩) ∧ s.member.heldOver = none) := by decide

/-- The station isolated, its dwell running or run out, its line free or not. -/
def isolated (dwell : Timer) (free : Bool) : State :=
  { station with member := { station.member with st := .isolated, dwell, lineFree := free } }

theorem witness_IsolationEndsOnFreeLine :
    Sound (isolated (some 5000) false) ∧ Sound (isolated (some 5000) true) ∧ Sound (isolated none false) ∧
      ((isolated (some 5000) false).member.st = .isolated ∧ (isolated (some 5000) false).member.dwell.isSome = true ∧
        (isolated (some 5000) false).framer.st ≠ .silent ∧ (isolated (some 5000) false).framer.lineFreed.isSome = true ∧
        (isolated (some 5000) true).member.lineFree = true ∧ (isolated none false).member.dwell = none ∧
        (isolated none false).framer.lineFreed.isSome = true) :=
  ⟨.of_calm (by decide), .of_calm (by decide), .of_calm (by decide), by decide⟩

/-! ## What every step keeps -/

/-- A step from a sound state: the drying station takes the door opening. -/
def opening : State := { drying with pending := [.doorOpen] }

theorem witness_step : step opening = .next (after (step opening)) := rfl

theorem witness_StepKeepsOutputsSettled : Settled opening ∧ Live opening ∧ Live (after (step opening)) :=
  have h : SameOutputs drying opening := ⟨rfl, rfl, rfl, rfl, rfl, rfl, rfl, rfl, rfl, rfl, rfl, rfl⟩
  ⟨fun _ => h.settled (settle_settle _), by decide, by decide⟩

theorem witness_StepKeepsRequestFresh : RequestFresh opening ∧ Live opening ∧ Live (after (step opening)) :=
  ⟨fun _ => by decide, by decide, by decide⟩

theorem witness_StepKeepsLoadsSafe : RecordFromRom opening ∧ RequestInRange opening.request ∧ LoadsSafe opening := by
  unfold RecordFromRom RequestInRange LoadsSafe; decide

theorem witness_StepKeepsAllowanceInGrant :
    RecordFromRom opening ∧ RequestInRange opening.request ∧ AllowanceInGrant opening := by
  unfold RecordFromRom RequestInRange AllowanceInGrant; decide

theorem witness_StepKeepsCycleFormed : RecordFromRom opening ∧ CycleFormed opening ∧ WatchFormed opening := by
  refine ⟨by unfold RecordFromRom; decide, ⟨by decide, by decide, by decide, by decide, ?_, ?_⟩, by unfold WatchFormed; decide⟩
  · unfold PhaseInHand; decide
  · intro x h; exact absurd h (by decide +revert)

theorem witness_StepKeepsFaultsOrdered : FaultsOrdered opening.faults ∧ CodeShown opening :=
  ⟨(Sound.of_calm (s := drying) (by decide)).ordered, by unfold CodeShown; decide⟩

theorem witness_StepKeepsClaimCovers :
    RequestFresh opening ∧ LockWatched opening ∧ MainsFormed opening ∧ BootQuiet opening ∧ SendingFits opening ∧
      SlotFits opening ∧ ClaimCovers opening := by
  have h : Sound drying := .of_calm (by decide)
  refine ⟨h.fresh, h.watched, by unfold MainsFormed; decide, by unfold BootQuiet; decide,
    by unfold SendingFits; decide, fits_empty (by decide), ?_⟩
  refine ⟨fun _ => ⟨by decide, ?_, by decide⟩, ?_⟩
  · intro a h; exact absurd (h.symm.trans (show opening.member.slot = none by decide)) (by simp)
  · intro r h; exact absurd (h.symm.trans (show opening.share.raiseReady = none by decide)) (by simp)

theorem witness_StepKeepsMainsAndIsoCap :
    FaultsOrdered station.faults ∧ MainsFormed station ∧ BootQuiet station ∧ PowerlessOutside station ∧
      IsoCapped station ∧ StrapsFormed station := by
  refine ⟨(Sound.of_calm (s := station) (by decide)).ordered, ?_⟩
  unfold MainsFormed BootQuiet PowerlessOutside Powerless IsoCapped StrapsFormed; decide

theorem witness_StepKeepsFanAndSilence :
    FanWatched opening ∧ FanDriven opening.loads ∧ SilentInStandby opening ∧ DriverFits opening := by
  refine ⟨by unfold FanWatched; decide, by unfold FanDriven; decide, fun _ => by decide, ?_, by decide⟩
  intro d h; exact absurd (h.symm.trans (show opening.framer.drive = none by decide)) (by simp)

theorem witness_StepKeepsLockWatched : FaultsOrdered drying.faults ∧ RequestFresh drying ∧ LockWatched drying :=
  have h : Sound drying := .of_calm (by decide)
  ⟨h.ordered, h.fresh, h.watched⟩

theorem witness_StepKeepsRanges :
    FaultsOrdered opening.faults ∧ MainsFormed opening ∧ SilentInStandby opening ∧ BootQuiet opening ∧ TableFormed opening ∧
      RecordFromRom opening ∧ RequestInRange opening.request ∧ CountsInRange opening := by
  have h : Sound drying := .of_calm (by decide)
  have hx : opening.cycle.context = none ∧ opening.panel.display = none ∧ opening.share.raiseReady = none ∧
      opening.member.slot = none ∧ opening.framer.sending = none ∧ opening.table = emptyTable := by decide
  obtain ⟨hc, hd, hr, hs, hf, hm⟩ := hx
  refine ⟨h.ordered, by unfold MainsFormed; decide, fun _ => by decide, by unfold BootQuiet; decide,
    ⟨by decide, ?_, by decide, by decide, by decide⟩, by unfold RecordFromRom; decide, by unfold RequestInRange; decide,
    ⟨by decide, by decide, by decide, by decide, by simp [hc], by decide, by decide⟩, ?_,
    ⟨by decide, by decide, by simp [hr], by decide, by decide⟩,
    ⟨by decide, by decide, by decide, by decide, by decide, by simp [hs], by simp [hf]⟩, by decide,
    ⟨by decide, by decide, by decide, by decide, by decide, by decide, by decide, by decide⟩,
    ⟨by decide, by decide, by unfold RecordInRange; decide, by simp [hd], by decide⟩⟩
  · intro e he
    rw [hm] at he; rw [(List.mem_replicate.1 he).2]; trivial
  · refine ⟨?_, by decide, by decide, by decide, by decide, by decide, by decide, by decide⟩
    have hp : opening.climate.p0.reading = none ∧ opening.climate.p1.reading = none ∧ opening.climate.p2.reading = none := by
      decide
    simp [hp]

end Sys2Proof.Tests
end

namespace Sys2Proof.Machine

/-! PROOFS. The Programme ROM: its patterns, and the bounds they put on the requests (R10, R11, R13, R14, R24). -/

/-! ## Records of the ROM -/

/-- A record read from the ROM is one of the records of its programme (R11). -/
theorem mem_programme_of_readRom {p : Fin 8} {i : Nat} {r : Record} (h : readRom p i = some r) : r ∈ programme p.val :=
  List.mem_of_getElem? h

/-- The wants of a record of the ROM keep within the bounds of R10. -/
theorem readRom_wants {p : Fin 8} {i : Nat} {r : Record} (h : readRom p i = some r) :
    r.heater.getD 0 ≤ heaterRating ∧
      (r.steam.getD 0 = 0 ∨ (steamMinimum ≤ r.steam.getD 0 ∧ r.steam.getD 0 ≤ steamRating)) ∧
      r.steam.getD 0 + r.heater.getD 0 ≤ 34 := by
  have table : ∀ p : Fin 8, ∀ r ∈ programme p.val,
      r.heater.getD 0 ≤ heaterRating ∧
        (r.steam.getD 0 = 0 ∨ (steamMinimum ≤ r.steam.getD 0 ∧ r.steam.getD 0 ≤ steamRating)) ∧
        r.steam.getD 0 + r.heater.getD 0 ≤ 34 := by decide
  exact table p r (mem_programme_of_readRom h)

/-- A record of a kind that uses no steam carries no steam want, and only a DRY record carries a drop (R2). -/
theorem readRom_fields {p : Fin 8} {i : Nat} {r : Record} (h : readRom p i = some r) :
    (r.kind.usesSteam = false → r.steam = none) ∧ (r.kind ≠ .dry → r.drop = none) := by
  have table : ∀ p : Fin 8, ∀ r ∈ programme p.val,
      (r.kind.usesSteam = false → r.steam = none) ∧ (r.kind ≠ .dry → r.drop = none) := by decide
  exact table p r (mem_programme_of_readRom h)

/-- Every programme begins with a phase that wants heat (R13). -/
theorem readRom_zero_heats {p : Fin 8} {r : Record} (h : readRom p 0 = some r) : 0 < r.heater.getD 0 := by
  have table : ∀ p : Fin 8, ∀ r ∈ readRom p 0, 0 < r.heater.getD 0 := by decide
  exact table p r h

/-- Settles O10: the ROM is a finite table, and each pattern is read off it phase by phase. -/
theorem romFollowsItsPatterns : Obligations.RomFollowsItsPatterns := by
  have table : ∀ (p : Fin 8) (i : Fin 4), ∀ r ∈ readRom p i.val,
      (readRom p (i.val + 1) = none → r.kind = .cool ∧ r.fan = 3 ∧ r.steam = none ∧ r.heater = none) ∧
        (r.kind = .steam ∨ r.kind = .freshen →
          i.val = 0 ∧
            (readRom p 1).map Record.kind = some (if (readRom p 2).isSome then .settle else .cool)) ∧
        (r.kind = .settle → (readRom p (i.val + 1)).map Record.kind = some .dry) ∧
        (r.kind = .dry → (readRom p (i.val + 1)).map Record.kind = some .cool) ∧
        (p = 4 ∨ p = 5 → r.kind.usesSteam = false ∧ r.kind.needsLock = false) := by decide
  exact table

/-! ## The requests formed on a record of the ROM -/

/-- Requests formed on a record of the ROM keep within the bounds of R10 and R24. -/
theorem formRequest_inRange {s : State} (h : RecordFromRom s) : RequestInRange (formRequest s) := by
  have wants : ((s.cycle.record.bind Record.heater).getD 0 ≤ heaterRating ∧
      ((s.cycle.record.bind Record.steam).getD 0 = 0 ∨ (steamMinimum ≤ (s.cycle.record.bind Record.steam).getD 0 ∧
        (s.cycle.record.bind Record.steam).getD 0 ≤ steamRating)) ∧
      (s.cycle.record.bind Record.steam).getD 0 + (s.cycle.record.bind Record.heater).getD 0 ≤ 34) := by
    cases hc : s.cycle.record with
    | none => simp
    | some r =>
      have hr : readRom s.cycle.programme s.cycle.index = some r := by
        rcases h with h | h
        · rw [hc] at h; cases h
        · rw [← h, hc]
      exact readRom_wants hr
  obtain ⟨hh, hs, hw⟩ := wants
  unfold RequestInRange Request.want formRequest steamPart heaterPart
  dsimp only
  refine ⟨?_, ?_, ?_⟩
  · split <;> omega
  · split <;> omega
  · split <;> split <;> omega

end Sys2Proof.Machine

namespace Sys2Proof.Machine

/-! PROOFS. Sound loads: each shared operation leaves the draw within the allowance and the loads off where they must be. Two
kinds of lemma carry this: an operation that forms the outputs brings it about from sound requests alone, and an operation that
may end without forming them keeps it. -/

/-- The part takes events, its phase record is the ROM's and its requests are in range: what the levels are formed from. -/
def RequestsSound (s : State) : Prop := Live s ∧ RecordFromRom s ∧ RequestInRange s.request

/-- Sound requests with the loads safe. -/
def LoadsSound (s : State) : Prop := RequestsSound s ∧ LoadsSafe s

theorem LoadsSound.requests {s : State} (h : LoadsSound s) : RequestsSound s := h.1

theorem LoadsSound.live {s : State} (h : LoadsSound s) : Live s := by
  obtain ⟨⟨hl, -⟩, -⟩ := h
  exact hl

theorem LoadsSound.fromRom {s : State} (h : LoadsSound s) : RecordFromRom s := by
  obtain ⟨⟨-, hrom, -⟩, -⟩ := h
  exact hrom

/-! ## Forming the outputs -/

/-- Levels divided and forced off by R150 and R151 are safe while the requests are in range. -/
theorem loadsSafe_of_divided {s : State} (hl : Live s) (hr : RequestInRange s.request) (hd : LoadsDivided s)
    (hdraw : s.loads.draw = s.loads.steamLevel + s.loads.heaterLevel) : LoadsSafe s := by
  obtain ⟨hsa, hha, hoff, hsoff, -, -, hsl, hhl⟩ := hd
  obtain ⟨hheat, hsteam, -⟩ := hr
  cases hh : s.loads.heaterOff with
  | true =>
    have hs : s.loads.steamOff = true := hsoff.2 (.inl hh)
    rw [hs] at hsl
    rw [hh] at hhl
    exact ⟨hdraw, by simp_all, by simp_all, .inl hsl, fun _ => ⟨hsl, hhl⟩⟩
  | false =>
    have hfree : ¬(s.lines.doorOpen = true ∨ ¬(s.cycle.st = .running ∨ s.cycle.st = .cancelCool) ∨
        s.faults.blocking = true ∨ s.inReset = true) := by
      rw [Bool.eq_false_iff, Ne, hoff] at hh
      simp only [FaultUnit.blocking, Bool.or_eq_true, decide_eq_true_eq]
      unfold Live at hl
      grind
    have hs : s.loads.steamLevel = 0 ∨ s.loads.steamLevel = s.loads.steamAssigned := by
      rw [hsl]; split <;> simp
    rw [hh] at hhl
    simp only [Bool.false_eq_true, if_false] at hhl
    have ha : s.loads.steamAssigned = 0 ∨ (8 ≤ s.loads.steamAssigned ∧ s.loads.steamAssigned ≤ s.share.allowance ∧
        s.loads.steamAssigned ≤ s.request.steam) := by
      rw [hsa]; split <;> omega
    unfold steamMinimum steamRating at hsteam
    refine ⟨hdraw, by omega, by omega, ?_, fun h => absurd h hfree⟩
    unfold steamMinimum steamRating
    omega

theorem settle_sound {s : State} (h : RequestsSound s) : LoadsSound (settle s) := by
  obtain ⟨hl, hrom, hr⟩ := h
  have hl' : Live (settle s) := (settle_inReset s).trans hl
  have hr' : RequestInRange (settle s).request := by simpa using hr
  exact ⟨⟨hl', by simpa [RecordFromRom] using hrom, hr'⟩,
    loadsSafe_of_divided hl' hr' (loadsDivided_settle s) (settle_draw s)⟩

theorem compute_sound {s : State} (h : RequestsSound s) : LoadsSound (compute s) := settle_sound h

/-! ## The notice slot and the framer -/

theorem beginSending_sound {s : State} (h : LoadsSound s) : LoadsSound (beginSending s) := by
  unfold beginSending; split <;> exact h

theorem handFramer_sound {s : State} (h : LoadsSound s) : LoadsSound (handFramer s) := by
  unfold handFramer; split
  · split
    · exact beginSending_sound h
    · exact h
  · exact h

theorem framerRest_sound {s : State} (h : LoadsSound s) : LoadsSound (framerRest s) := by
  unfold framerRest; split <;> exact h

theorem fillSlot_sound (k : NoticeKind) {s : State} (h : RequestsSound s) : LoadsSound (fillSlot k s) :=
  handFramer_sound (compute_sound (s := { s with share := { s.share with raiseReady := none } }) h)

theorem loadNotice_sound (k : NoticeKind) {s : State} (h : LoadsSound s) : LoadsSound (loadNotice k s) := by
  unfold loadNotice; split
  · exact h
  · exact fillSlot_sound _ h.requests

theorem refreshSlot_sound {s : State} (h : LoadsSound s) : LoadsSound (refreshSlot s) := by
  unfold refreshSlot; split
  · exact h
  · exact fillSlot_sound _ h.requests

theorem endAttempt_sound {s : State} (h : LoadsSound s) : LoadsSound (endAttempt s) := by
  unfold endAttempt; dsimp only; split
  · exact loadNotice_sound _ h
  · exact refreshSlot_sound h

theorem startHold_sound (originated : Bool) {s : State} (h : LoadsSound s) : LoadsSound (startHold originated s) := by
  unfold startHold; split
  · exact h
  · exact compute_sound h.requests

theorem clearLineFree_sound {s : State} (h : LoadsSound s) : LoadsSound (clearLineFree s) := by
  unfold clearLineFree; split <;> exact h

/-! ## Handing over, and the cycle -/

/-- Handing over needs no sound requests: it forms them from the record. -/
theorem handOver_sound {s : State} (hl : Live s) (hrom : RecordFromRom s) : LoadsSound (handOver s) := by
  have h : RequestsSound { s with request := formRequest s } := ⟨hl, hrom, formRequest_inRange hrom⟩
  unfold handOver wantRise; dsimp only; split
  · exact settle_sound h
  · split
    · exact loadNotice_sound _ (compute_sound h)
    · exact compute_sound h

theorem leaveTo_live (st : CycleState) {s : State} (h : Live s) : Live (leaveTo st s) := by
  unfold leaveTo; dsimp only; split <;> exact h

theorem leaveTo_fromRom (st : CycleState) {s : State} (h : RecordFromRom s) : RecordFromRom (leaveTo st s) := by
  unfold leaveTo; dsimp only; split <;> exact h

/-- Leaving the phase for another cycle state ends with sound loads once the requests are handed over. -/
theorem handOver_leaveTo_sound (st : CycleState) {s : State} (hl : Live s) (hrom : RecordFromRom s) :
    LoadsSound (handOver (leaveTo st s)) :=
  handOver_sound (leaveTo_live st hl) (leaveTo_fromRom st hrom)

/-! ## The Fault Unit -/

theorem activate_live {s : State} (h : Live s) : Live (activate s) := by
  unfold activate; dsimp only; split
  · exact h
  · split <;> exact h

theorem activate_fromRom {s : State} (h : RecordFromRom s) : RecordFromRom (activate s) := by
  obtain ⟨hc, -⟩ := activate_keeps s
  unfold RecordFromRom; rwa [hc]

theorem cycleOnClass_sound {s : State} (hl : Live s) (hrom : RecordFromRom s) : LoadsSound (cycleOnClass s) := by
  have stay : LoadsSound (handOver s) := handOver_sound hl hrom
  unfold cycleOnClass haltCycle holdCycle
  split
  · split
    all_goals first
      | exact stay
      | exact handOver_leaveTo_sound _ hl hrom
  · split
    · exact handOver_sound hl hrom
    · exact stay
  · exact stay
  · exact stay

theorem raiseFault_sound (k : FaultKind) {s : State} (h : RequestsSound s) : LoadsSound (raiseFault k s) := by
  unfold raiseFault; dsimp only; split
  · exact settle_sound h
  · obtain ⟨hl, hrom, -⟩ := h
    exact cycleOnClass_sound (activate_live hl) (activate_fromRom hrom)

theorem checkWater_sound {s : State} (h : LoadsSound s) : LoadsSound (checkWater s) := by
  unfold checkWater; split
  · exact raiseFault_sound _ h.requests
  · exact h

/-- Entering a phase needs no record in hand: it takes the one read from the ROM. -/
theorem enterPhase_sound {i : Nat} {r : Record} {s : State} (hl : Live s)
    (hr : readRom s.cycle.programme i = some r) : LoadsSound (enterPhase i r s) :=
  checkWater_sound (handOver_sound hl (.inr hr.symm))

theorem completeCycle_sound {s : State} (hl : Live s) (hrom : RecordFromRom s) : LoadsSound (completeCycle s) :=
  handOver_leaveTo_sound .done hl hrom

theorem endPhase_sound {s : State} (hl : Live s) (hrom : RecordFromRom s) : LoadsSound (endPhase s) := by
  unfold endPhase; split
  · next r hr => exact enterPhase_sound hl hr
  · exact completeCycle_sound hl hrom

theorem checkDryPoint_sound {s : State} (h : LoadsSound s) : LoadsSound (checkDryPoint s) := by
  unfold checkDryPoint; split
  · exact endPhase_sound h.live h.fromRom
  · exact h

theorem returnToRunning_sound {s : State} (hl : Live s) (hrom : RecordFromRom s) : LoadsSound (returnToRunning s) :=
  checkWater_sound (checkDryPoint_sound (handOver_sound hl hrom))

theorem withdrawCore_sound (k : FaultKind) {s : State} (h : RequestsSound s) : LoadsSound (withdrawCore k s) := by
  unfold withdrawCore; dsimp only; split
  · exact settle_sound h
  · obtain ⟨hl, hrom, -⟩ := h
    unfold cycleOnFall; split
    · exact returnToRunning_sound (activate_live hl) (activate_fromRom hrom)
    · exact cycleOnClass_sound (activate_live hl) (activate_fromRom hrom)

theorem checkLock_sound {s : State} (h : LoadsSound s) : LoadsSound (checkLock s) := by
  unfold checkLock; split
  · exact withdrawCore_sound _ h.requests
  · exact h

theorem withdrawFault_sound (k : FaultKind) {s : State} (h : RequestsSound s) : LoadsSound (withdrawFault k s) :=
  checkLock_sound (withdrawCore_sound k h)

theorem reportFault_sound (k : FaultKind) (holds : Bool) {s : State} (h : LoadsSound s) :
    LoadsSound (reportFault k holds s) := by
  unfold reportFault; split
  · exact h
  · split
    · exact checkLock_sound (raiseFault_sound k h.requests)
    · exact withdrawFault_sound k h.requests

/-! ## Membership -/

theorem setMember_sound (m : MemberState) {s : State} (h : RequestsSound s) : LoadsSound (setMember m s) := compute_sound h

theorem setTable_sound (t : List Entry) {s : State} (h : LoadsSound s) : LoadsSound (setTable t s) :=
  compute_sound (LoadsSound.requests (reportFault_sound .bankOverflow _ h))

theorem enterJoinListen_sound {s : State} (h : RequestsSound s) : LoadsSound (enterJoinListen s) := setMember_sound _ h

theorem enterStandby_sound {s : State} (h : LoadsSound s) : LoadsSound (enterStandby s) := by
  have away : ∀ {u : State}, RequestsSound u → LoadsSound (setTable emptyTable (setMember .standby u)) :=
    fun hu => setTable_sound _ (setMember_sound _ hu)
  unfold enterStandby; dsimp only; split
  · exact enterJoinListen_sound (LoadsSound.requests (away h.requests))
  · exact away h.requests

theorem enterIsolated_sound {s : State} (h : LoadsSound s) : LoadsSound (enterIsolated s) :=
  setMember_sound _ (LoadsSound.requests (reportFault_sound .lineIsolated true h))

theorem exitIsolated_sound {s : State} (h : LoadsSound s) : LoadsSound (exitIsolated s) :=
  enterJoinListen_sound (LoadsSound.requests (setTable_sound emptyTable h))

theorem enterDuplicate_sound {s : State} (h : LoadsSound s) : LoadsSound (enterDuplicate s) :=
  reportFault_sound _ _ (setMember_sound _ h.requests)

theorem enterJoinAsk_sound {s : State} (h : LoadsSound s) : LoadsSound (enterJoinAsk s) :=
  loadNotice_sound _ (setMember_sound _ h.requests)

theorem enterJoinConfirm_sound {s : State} (h : LoadsSound s) : LoadsSound (enterJoinConfirm s) :=
  loadNotice_sound _ (setMember_sound _ h.requests)

theorem enterMember_sound (held : Nat) {s : State} (h : LoadsSound s) : LoadsSound (enterMember held s) := by
  have joined : ∀ {u : State}, RequestsSound u → LoadsSound (reportFault .lineIsolated false (setMember .member u)) :=
    fun hu => reportFault_sound _ _ (setMember_sound _ hu)
  unfold enterMember; dsimp only; split
  · exact loadNotice_sound _ (joined h.requests)
  · exact joined h.requests

theorem memberPower_sound {s : State} (h : LoadsSound s) : LoadsSound (memberPower s) := by
  unfold memberPower; split
  all_goals first
    | exact h
    | exact enterStandby_sound h
    | exact loadNotice_sound _ (setMember_sound _ h.requests)
    | exact enterJoinListen_sound h.requests

theorem ownAddress_sound (k : NoticeKind) {s : State} (h : LoadsSound s) : LoadsSound (ownAddress k s) := by
  have defended : LoadsSound (defendAddress s) := by
    unfold defendAddress; split <;> exact loadNotice_sound _ h
  have asked : LoadsSound (if k = .joinAsk then defendAddress s else enterDuplicate s) := by
    split
    · exact defended
    · exact enterDuplicate_sound h
  unfold ownAddress; split
  all_goals first
    | exact h
    | exact asked
    | exact enterDuplicate_sound h

theorem deliver_sound (addr : Nat) (n : Notice) {s : State} (h : LoadsSound s) : LoadsSound (deliver addr n s) := by
  unfold deliver; dsimp only; split
  · have seen : LoadsSound (frameSeen s) := clearLineFree_sound h
    refine framerRest_sound (endAttempt_sound ?_)
    split
    · exact ownAddress_sound _ seen
    · exact setTable_sound _ seen
  · exact h

end Sys2Proof.Machine

namespace Sys2Proof.Machine

/-! PROOFS. Every command and every idle step keeps the loads safe (R10, R11, R151). -/

/-! ## Door, water, lock and fan -/

theorem doorOpened_sound {s : State} (h : RequestsSound s) : LoadsSound (doorOpened s) := by
  have ⟨hl, hrom, _⟩ := h
  unfold doorOpened; split
  all_goals first
    | exact settle_sound h
    | exact checkLock_sound (handOver_sound hl hrom)
    | exact checkLock_sound (handOver_leaveTo_sound _ hl hrom)

theorem waterReported_sound {s : State} (h : RequestsSound s) : LoadsSound (waterReported s) := by
  obtain ⟨hl, hrom, -⟩ := h
  have handed : LoadsSound (handOver s) := handOver_sound hl hrom
  unfold waterReported; split
  · exact checkLock_sound (checkWater_sound handed)
  · exact reportFault_sound _ _ handed

theorem lockReported_sound (was : Bool) {s : State} (h : RequestsSound s) : LoadsSound (lockReported was s) :=
  checkLock_sound (settle_sound h)

theorem lockConfirmExpiry_sound {s : State} (h : LoadsSound s) : LoadsSound (lockConfirmExpiry s) := by
  unfold lockConfirmExpiry; split
  · exact reportFault_sound _ _ h
  · exact h

theorem tachPulse_sound {s : State} (h : LoadsSound s) : LoadsSound (tachPulse s) := by
  unfold tachPulse; split
  · exact h
  · exact reportFault_sound _ _ (settle_sound h.requests)

theorem tachExpiry_sound {s : State} (h : LoadsSound s) : LoadsSound (tachExpiry s) := by
  unfold tachExpiry; split
  · exact reportFault_sound _ _ (settle_sound h.requests)
  · exact h

/-! ## Climate -/

theorem evalOverTemp_sound {s : State} (h : LoadsSound s) : LoadsSound (evalOverTemp s) :=
  reportFault_sound _ _ h

theorem climateUpdate_sound {s : State} (h : RequestsSound s) : LoadsSound (climateUpdate s) := by
  obtain ⟨hl, hrom, -⟩ := h
  unfold climateUpdate; dsimp only; split
  · exact checkLock_sound (handOver_leaveTo_sound _ hl hrom)
  · exact checkLock_sound (handOver_sound hl hrom)

theorem probeRound_sound (r0 r1 r2 : Int) {s : State} (h : LoadsSound s) : LoadsSound (probeRound r0 r1 r2 s) :=
  climateUpdate_sound
    (LoadsSound.requests (evalOverTemp_sound (reportFault_sound _ _ (reportFault_sound .probeDegraded _ h))))

theorem humidityReading_sound (r : Int) {s : State} (h : LoadsSound s) : LoadsSound (humidityReading r s) := by
  unfold humidityReading; split
  · exact reportFault_sound _ _ h
  · exact checkLock_sound (checkDryPoint_sound (reportFault_sound .humidityFault false h))

theorem warmUpExpiry_sound {s : State} (h : LoadsSound s) : LoadsSound (warmUpExpiry s) := by
  unfold warmUpExpiry; split <;> exact h

theorem trackingExpiry_sound {s : State} (h : LoadsSound s) : LoadsSound (trackingExpiry s) := by
  unfold trackingExpiry; split <;> exact h

/-! ## Keys and the cycle's timers -/

theorem cycleStart_sound (p : Fin 8) {s : State} (h : LoadsSound s) : LoadsSound (cycleStart p s) := by
  have started : LoadsSound (startCycle p s) := by
    unfold startCycle; split
    · exact h
    · next r hr => exact enterPhase_sound h.live hr
  have resumed : LoadsSound (resumeCycle s) := by
    unfold resumeCycle; split
    · exact h
    · exact checkWater_sound (handOver_sound h.live (.inr rfl))
  unfold cycleStart; split
  · split
    · exact checkLock_sound started
    · exact h
  · split
    · exact checkLock_sound resumed
    · exact h
  all_goals exact h

theorem cycleCancel_sound {s : State} (h : LoadsSound s) : LoadsSound (cycleCancel s) := by
  have idled : LoadsSound (handOver (leaveTo .idle s)) := handOver_leaveTo_sound _ h.live h.fromRom
  have cooled : LoadsSound (enterCancelCool s) :=
    handOver_sound (leaveTo_live .cancelCool h.live) (leaveTo_fromRom .cancelCool h.fromRom)
  have stopped : LoadsSound (if coolTemp ≤ s.climate.tmax then enterCancelCool s else handOver (leaveTo .idle s)) := by
    split
    · exact cooled
    · exact idled
  have unhalted : LoadsSound (if s.faults.activeClass = some .a then s else checkLock (handOver (leaveTo .idle s))) := by
    split
    · exact h
    · exact checkLock_sound idled
  unfold cycleCancel; split
  all_goals first
    | exact h
    | exact checkLock_sound stopped
    | exact unhalted
    | exact checkLock_sound idled

theorem cyclePower_sound {s : State} (h : LoadsSound s) : LoadsSound (cyclePower s) := by
  have left : ∀ st, LoadsSound (memberPower (checkLock (handOver (leaveTo st s)))) := fun st =>
    memberPower_sound (checkLock_sound (handOver_leaveTo_sound st h.live h.fromRom))
  unfold cyclePower; split
  all_goals first
    | exact h
    | exact left _

theorem startPress_sound (sel2 sel1 sel0 : Bool) {s : State} (h : LoadsSound s) :
    LoadsSound (startPress sel2 sel1 sel0 s) := by
  unfold startPress; dsimp only; split
  · split
    · exact cycleStart_sound _ h
    · exact h
  · exact h

theorem cancelPress_sound {s : State} (h : LoadsSound s) : LoadsSound (cancelPress s) := by
  unfold cancelPress; dsimp only; split
  · split
    · exact cycleCancel_sound h
    · exact h
  · exact h

theorem powerPress_sound {s : State} (h : LoadsSound s) : LoadsSound (powerPress s) := by
  unfold powerPress; dsimp only; split
  · split
    · exact cyclePower_sound h
    · exact h
  · exact h

theorem secondExpiry_sound {s : State} (h : LoadsSound s) : LoadsSound (secondExpiry s) := by
  have starving : LoadsSound (handOver { s with cycle := starvedSecond { s.cycle with second := some secondMs } }) := by
    refine handOver_sound h.live ?_
    unfold RecordFromRom starvedSecond
    split <;> exact h.fromRom
  unfold secondExpiry; dsimp only; split
  · split
    · exact starving
    · split
      · exact checkLock_sound (endPhase_sound h.live h.fromRom)
      · exact h
  · exact h

theorem pauseExpiry_sound {s : State} (h : LoadsSound s) : LoadsSound (pauseExpiry s) := by
  have abandoned : LoadsSound (checkLock (handOver (leaveTo .idle s))) :=
    checkLock_sound (handOver_leaveTo_sound _ h.live h.fromRom)
  unfold pauseExpiry; split
  · exact abandoned
  · exact h

theorem cancelCoolExpiry_sound {s : State} (h : LoadsSound s) : LoadsSound (cancelCoolExpiry s) := by
  unfold cancelCoolExpiry; split
  · exact checkLock_sound (handOver_leaveTo_sound _ h.live h.fromRom)
  · exact h

/-! ## The panel -/

theorem keyRelease_sound (key : Key) {s : State} (h : LoadsSound s) : LoadsSound (keyRelease key s) := by
  unfold keyRelease; split <;> exact h

theorem longPress_sound {s : State} (h : LoadsSound s) : LoadsSound (longPress s) := by
  unfold longPress; dsimp only; split
  · split <;> exact h
  · exact h

theorem displayStep_sound {s : State} (h : LoadsSound s) : LoadsSound (displayStep s) := by
  unfold displayStep; split
  · exact h
  · split <;> exact h

/-! ## The Share Line -/

theorem discardFrame_sound {s : State} (h : LoadsSound s) : LoadsSound (discardFrame s) := by
  unfold discardFrame; split
  · exact framerRest_sound (endAttempt_sound (clearLineFree_sound h))
  · exact h

theorem idleHoldExpiry_sound {s : State} (h : LoadsSound s) : LoadsSound (idleHoldExpiry s) := by
  unfold idleHoldExpiry; split
  · split
    all_goals first
      | exact h
      | exact beginSending_sound h
  · exact h

theorem loseArbitration_sound (bit : Nat) {s : State} (h : LoadsSound s) : LoadsSound (loseArbitration bit s) := by
  unfold loseArbitration; split
  · exact h
  · split <;> exact h

theorem completionAction_sound (n : Notice) {s : State} (h : LoadsSound s) : LoadsSound (completionAction n s) := by
  unfold completionAction
  cases n with
  | joinAsk =>
    cases s.member.st with
    | joinAsk => exact setMember_sound _ h.requests
    | _ => exact h
  | joinConfirm =>
    cases s.member.st with
    | joinConfirm => exact enterMember_sound _ h
    | _ => exact h
  | leave =>
    cases s.member.st with
    | leaving => exact enterStandby_sound h
    | _ => exact h
  | _ => exact h

theorem loadHeldOver_sound {s : State} (h : LoadsSound s) : LoadsSound (loadHeldOver s) := by
  unfold loadHeldOver; split
  · exact h
  · exact loadNotice_sound _ h

theorem complete_sound (n : Notice) {s : State} (h : LoadsSound s) : LoadsSound (complete n s) :=
  framerRest_sound (loadHeldOver_sound (completionAction_sound n h))

theorem loseLine_sound {otherwise : State → State} {s : State} (h : LoadsSound s) (ho : LoadsSound (otherwise s)) :
    LoadsSound (loseLine otherwise s) := by
  unfold loseLine; split
  all_goals first
    | exact ho
    | exact enterIsolated_sound h
    | exact enterStandby_sound h

theorem failAttempt_sound {s : State} (h : LoadsSound s) : LoadsSound (failAttempt s) := by
  unfold failAttempt; dsimp only; split
  · exact h
  · refine framerRest_sound ?_
    split
    · exact loseLine_sound h (endAttempt_sound h)
    · exact endAttempt_sound h

theorem markSeen_sound (ownPulse inFrame : Bool) {s : State} (h : LoadsSound s) :
    LoadsSound (markSeen ownPulse inFrame s) := by
  have seen : LoadsSound (clearLineFree { s with framer := touchLine { s.framer with drive := none } }) :=
    clearLineFree_sound h
  unfold markSeen; dsimp only; split
  · refine framerRest_sound ?_
    have held : ∀ {u : State}, LoadsSound u → ∀ b : Bool, LoadsSound (if b then u else startHold false u) := by
      intro u hu b
      split
      · exact hu
      · exact startHold_sound false hu
    split
    · exact endAttempt_sound (held seen _)
    · exact held seen _
  · exact h

theorem stuckLine_sound {s : State} (h : LoadsSound s) : LoadsSound (stuckLine s) := by
  unfold stuckLine; split
  · exact h
  · exact loseLine_sound h (clearLineFree_sound h)

theorem releaseStuck_sound {s : State} (h : LoadsSound s) : LoadsSound (releaseStuck s) := by
  unfold releaseStuck; split <;> exact h

theorem lineFreed_sound {s : State} (h : LoadsSound s) : LoadsSound (lineFreed s) := by
  unfold lineFreed; dsimp only; split
  · split
    · split
      · exact h
      · exact exitIsolated_sound h
    · exact h
  · exact h

/-! ## Mains -/

theorem sagTest_sound (dominant : Nat) {s : State} (h : LoadsSound s) : LoadsSound (sagTest dominant s) := by
  have marked : ∀ {u : State}, LoadsSound u → LoadsSound (requestMark dominant u) := by
    intro u hu; unfold requestMark; split <;> exact hu
  unfold sagTest; dsimp only; split
  · split
    · exact startHold_sound true (marked h)
    · exact h
  · exact h

theorem judgeLearning_sound {s : State} (h : LoadsSound s) : LoadsSound (judgeLearning s) := by
  unfold judgeLearning; dsimp only; split
  · split
    · exact enterJoinListen_sound h.requests
    · have joining : ∀ {u : State}, RequestsSound u → LoadsSound (halfCycleEvent (enterJoinListen u)) :=
        fun hu => enterJoinListen_sound hu
      exact joining h.requests
  · exact reportFault_sound _ _ h

theorem learnCross_sound (since : Nat) {s : State} (h : LoadsSound s) : LoadsSound (learnCross since s) := by
  unfold learnCross; dsimp only; split
  · split
    · exact judgeLearning_sound h
    · exact h
  · exact h

theorem runningCross_sound (dominant : Nat) {s : State} (h : LoadsSound s) : LoadsSound (runningCross dominant s) := by
  have tested : LoadsSound (if s.feeder.halfOpen then sagTest dominant s else s) := by
    split
    · exact sagTest_sound dominant h
    · exact h
  exact tested

theorem lostCross_sound {s : State} (h : LoadsSound s) : LoadsSound (lostCross s) := by
  unfold lostCross; split <;> exact h

theorem crossTaken_sound {s : State} (h : LoadsSound s) : LoadsSound (crossTaken s) := h

theorem zeroCross_sound (since dominant : Nat) {s : State} (h : LoadsSound s) : LoadsSound (zeroCross since dominant s) := by
  unfold zeroCross; split
  · split
    · exact h
    · exact crossTaken_sound (learnCross_sound since h)
    · exact crossTaken_sound (runningCross_sound dominant h)
    · exact crossTaken_sound (lostCross_sound h)
  · exact h

theorem watchdogExpiry_sound {s : State} (h : LoadsSound s) : LoadsSound (watchdogExpiry s) := by
  unfold watchdogExpiry; split
  · split
    · exact h
    · exact reportFault_sound _ _ h
    · exact reportFault_sound _ _ h
    · exact h
  · exact h

theorem resumeExpiry_sound {s : State} (h : LoadsSound s) : LoadsSound (resumeExpiry s) := by
  unfold resumeExpiry; split
  · exact reportFault_sound _ _ h
  · exact h

/-! ## Sharing and membership timers -/

theorem memberPeriod_sound {s : State} (h : LoadsSound s) : LoadsSound (memberPeriod s) := by
  have spoken : LoadsSound (cadence s) := by
    unfold cadence; split
    · split
      · exact loadNotice_sound _ h
      · exact h
    · exact loadNotice_sound _ h
  unfold memberPeriod; dsimp only; split
  · split
    · exact enterJoinAsk_sound h
    · exact h
  · split
    · exact enterJoinConfirm_sound h
    · exact h
  · exact spoken
  all_goals exact h

theorem ageTable_sound {s : State} (h : LoadsSound s) : LoadsSound (ageTable s) := reportFault_sound _ _ h

theorem periodExpiry_sound {s : State} (h : LoadsSound s) : LoadsSound (periodExpiry s) := by
  unfold periodExpiry; split
  · exact memberPeriod_sound (compute_sound (ageTable_sound h).requests)
  · exact h

theorem raiseExpiry_sound {s : State} (h : LoadsSound s) : LoadsSound (raiseExpiry s) := by
  unfold raiseExpiry; split
  · exact h
  · have computed : LoadsSound (compute { s with share := { s.share with raiseReady := none } }) :=
      compute_sound h.requests
    exact settle_sound computed.requests

theorem limitExpiry_sound {s : State} (h : LoadsSound s) : LoadsSound (limitExpiry s) := by
  unfold limitExpiry; split
  · exact compute_sound h.requests
  · exact h

theorem dwellExpiry_sound {s : State} (h : LoadsSound s) : LoadsSound (dwellExpiry s) := by
  unfold dwellExpiry; dsimp only; split
  · split
    · exact exitIsolated_sound h
    · exact h
  · exact h

/-! ## Resets and the strap window -/

/-- The part at the release of a power-on reset has no record in hand and wants nothing, so that its loads are sound. -/
theorem freshStart_sound (s : State) : LoadsSound (freshStart s) :=
  settle_sound ⟨rfl, .inl rfl, Nat.zero_le _, .inl rfl, Nat.zero_le _⟩

theorem firstReadings_sound (r0 r1 r2 rh : Int) {s : State} (h : LoadsSound s) : LoadsSound (firstReadings r0 r1 r2 rh s) :=
  humidityReading_sound rh (probeRound_sound r0 r1 r2 h)

theorem powerOn_sound (r0 r1 r2 rh : Int) (s : State) : LoadsSound (powerOn r0 r1 r2 rh s) :=
  firstReadings_sound r0 r1 r2 rh (freshStart_sound s)

theorem releaseReset_sound (r0 r1 r2 rh : Int) (s : State) : LoadsSound (releaseReset r0 r1 r2 rh s) := by
  have kept : LoadsSound (keepLearned s (freshStart s)) := freshStart_sound s
  unfold releaseReset; split
  · exact firstReadings_sound r0 r1 r2 rh (enterJoinListen_sound kept.requests)
  · exact powerOn_sound r0 r1 r2 rh s

theorem strapWindowEnd_sound (addr : Fin 16) (cap : Fin 8) (bank : Fin 16) {s : State} (h : LoadsSound s) :
    LoadsSound (strapWindowEnd addr cap bank s) := by
  unfold strapWindowEnd; split <;> exact h

/-! ## One step -/

/-- What every step keeps of the loads, in reset and out of it. -/
def LoadsKept (s : State) : Prop := RecordFromRom s ∧ RequestInRange s.request ∧ LoadsSafe s

theorem LoadsSound.kept {s : State} (h : LoadsSound s) : LoadsKept s := by
  obtain ⟨⟨-, hrom, hreq⟩, hsafe⟩ := h
  exact ⟨hrom, hreq, hsafe⟩

theorem LoadsKept.sound {s : State} (h : LoadsKept s) (hl : Live s) : LoadsSound s := by
  obtain ⟨hrom, hreq, hsafe⟩ := h
  exact ⟨⟨hl, hrom, hreq⟩, hsafe⟩

/-- In reset both levels are 0, whatever the lines show. -/
theorem LoadsKept.lines_of_reset {s : State} (h : LoadsKept s) (hr : s.inReset = true) (l : Lines) :
    LoadsKept { s with lines := l } := by
  obtain ⟨hrom, hq, hsum, hdraw, hheat, hsteam, hoff⟩ := h
  exact ⟨hrom, hq, hsum, hdraw, hheat, hsteam, fun _ => hoff (.inr (.inr (.inr hr)))⟩

/-- A command whose effect keeps sound loads keeps them in reset too, where it does nothing. -/
theorem LoadsKept.of_live {f : State → State} {s t : State} (h : LoadsKept s) (hf : LoadsSound s → LoadsSound (f s))
    (e : live f s = .next t) : LoadsKept t := by
  cases hr : s.inReset with
  | true => rw [live_of_reset hr, Host.Outcome.next.injEq] at e; exact e ▸ h
  | false => rw [live_of_live hr, Host.Outcome.next.injEq] at e; exact e ▸ (hf (h.sound hr)).kept

/-- A command that reports a line acts on the line's new level, on which its effect forms the outputs. -/
theorem LoadsKept.of_line {f : State → State} {s t : State} (h : LoadsKept s) (l : Lines)
    (hf : RequestsSound { s with lines := l } → LoadsSound (f { s with lines := l }))
    (e : live f { s with lines := l } = .next t) : LoadsKept t := by
  cases hr : s.inReset with
  | true => exact LoadsKept.of_live (h.lines_of_reset hr l) (fun hs => hf hs.requests) e
  | false =>
    rw [live_of_live (s := { s with lines := l }) hr, Host.Outcome.next.injEq] at e
    obtain ⟨hrom, hreq, -⟩ := h
    exact e ▸ (hf ⟨hr, hrom, hreq⟩).kept

theorem execNoticeCompletion_loadsKept {s t : State} (h : LoadsKept s) (e : execNoticeCompletion s = .next t) :
    LoadsKept t := by
  unfold execNoticeCompletion at e
  refine h.of_live (fun hs => ?_) e
  split
  · exact hs
  · exact complete_sound _ hs

/-- The loads released at the assertion of the RESET input are at 0 (log entry 23). -/
theorem assertReset_loadsKept {s : State} (h : LoadsKept s) : LoadsKept (assertReset s) := by
  obtain ⟨hrom, hreq, -⟩ := h
  exact ⟨hrom, hreq, rfl, Nat.zero_le _, Nat.zero_le _, .inl rfl, fun _ => ⟨rfl, rfl⟩⟩

/-- Every command keeps what the loads rest on: outside reset by its effect, in reset because the line levels are all it takes. -/
theorem exec_loadsKept (c : Instr) {s t : State} (h : LoadsKept s) (e : exec c s = .next t) : LoadsKept t := by
  cases c with
  | powerOnReset p0 p1 p2 rh =>
    obtain rfl : powerOn p0 p1 p2 rh s = t := Host.Outcome.next.inj e
    exact (powerOn_sound p0 p1 p2 rh s).kept
  | resetPinAssert =>
    obtain rfl : assertReset s = t := Host.Outcome.next.inj e
    exact assertReset_loadsKept h
  | resetPinRelease p0 p1 p2 rh =>
    obtain rfl : releaseReset p0 p1 p2 rh s = t := Host.Outcome.next.inj e
    exact (releaseReset_sound p0 p1 p2 rh s).kept
  | strapWindowEnd addr cap bank => exact h.of_live (strapWindowEnd_sound addr cap bank) e
  | keyLineChange key pressed =>
    exact LoadsKept.of_live (f := fun u => { u with panel := onKey key (rawLevel pressed) u.panel })
      (s := { s with panel := onKey key (fun k => { k with raw := pressed }) s.panel }) h id e
  | startPress sel2 sel1 sel0 => exact h.of_live (startPress_sound sel2 sel1 sel0) e
  | cancelPress => exact h.of_live cancelPress_sound e
  | powerPress => exact h.of_live powerPress_sound e
  | keyRelease key => exact h.of_live (keyRelease_sound key) e
  | longPress => exact h.of_live longPress_sound e
  | historyDisplayStep => exact h.of_live displayStep_sound e
  | doorOpen => exact h.of_line _ doorOpened_sound e
  | doorClose => exact h.of_line _ settle_sound e
  | waterLevelChange adequate => exact h.of_line _ waterReported_sound e
  | lockSenseChange locked => exact h.of_line _ (lockReported_sound _) e
  | tachPulse => exact h.of_live tachPulse_sound e
  | tripLineChange active =>
    exact h.of_line _ (f := fun u => evalOverTemp (settle u)) (fun hs => evalOverTemp_sound (settle_sound hs)) e
  | zeroCross since dominant => exact h.of_live (zeroCross_sound since dominant) e
  | zeroCrossWatchdogExpiry => exact h.of_live watchdogExpiry_sound e
  | resumeTimerExpiry => exact h.of_live resumeExpiry_sound e
  | probeRound p0 p1 p2 => exact h.of_live (probeRound_sound p0 p1 p2) e
  | humiditySample rh => exact h.of_live (humidityReading_sound rh) e
  | warmUpExpiry => exact h.of_live warmUpExpiry_sound e
  | trackingExpiry => exact h.of_live trackingExpiry_sound e
  | secondTimerExpiry => exact h.of_live secondExpiry_sound e
  | pauseTimerExpiry => exact h.of_live pauseExpiry_sound e
  | cancelCoolTimerExpiry => exact h.of_live cancelCoolExpiry_sound e
  | sharePeriodExpiry => exact h.of_live periodExpiry_sound e
  | raiseReadyExpiry => exact h.of_live raiseExpiry_sound e
  | isolationLimitExpiry => exact h.of_live limitExpiry_sound e
  | isolationDwellExpiry => exact h.of_live dwellExpiry_sound e
  | tachWatchdogExpiry => exact h.of_live tachExpiry_sound e
  | lockConfirmExpiry => exact h.of_live lockConfirmExpiry_sound e
  | buzzerStep => exact h.of_live (f := buzzerStep) id e
  | lampFlashToggle =>
    exact h.of_live (f := fun u => { u with panel := { u.panel with phaseLamp := u.panel.phaseLamp.toggled } }) id e
  | idleHoldExpiry => exact h.of_live idleHoldExpiry_sound e
  | receiveDemand addr cls boost want claim draw => exact h.of_live (deliver_sound _ _) e
  | receivePresence addr => exact h.of_live (deliver_sound _ _) e
  | receiveJoinAsk addr nonce => exact h.of_live (deliver_sound _ _) e
  | receiveJoinConfirm addr nonce held => exact h.of_live (deliver_sound _ _) e
  | receiveLeave addr => exact h.of_live (deliver_sound _ _) e
  | frameDiscarded => exact h.of_live discardFrame_sound e
  | arbitrationLost bit => exact h.of_live (loseArbitration_sound bit) e
  | noticeCompletion => exact execNoticeCompletion_loadsKept h e
  | attemptFailed => exact h.of_live failAttempt_sound e
  | shedMarkSeen ownPulse inFrame => exact h.of_live (markSeen_sound ownPulse inFrame) e
  | lineStuck => exact h.of_live stuckLine_sound e
  | lineStuckRelease => exact h.of_live releaseStuck_sound e
  | lineFreed => exact h.of_live lineFreed_sound e
  | amplitudeSenseReading steps => exact h.of_live (f := amplitudeReading steps.val) id e

/-- An observation of the line changes framer, line and queue alone. -/
theorem Reads.loadsKept {s t : State} (hr : Reads s t) (h : LoadsKept s) : LoadsKept t := by
  rw [hr.1]; exact h

/-- Settles O52: a command keeps the loads safe by `exec_loadsKept`, an idle step because it changes nothing they rest on. -/
theorem stepKeepsLoadsSafe : Obligations.StepKeepsLoadsSafe := by
  intro s t hrom hreq hsafe e
  have h : LoadsKept s := ⟨hrom, hreq, hsafe⟩
  show LoadsKept t
  unfold step at e
  split at e
  · next c rest _ => exact exec_loadsKept c (s := { s with pending := rest }) h e
  · obtain rfl : idle s = t := Host.Outcome.next.inj e
    exact (reads_idle s).loadsKept h

end Sys2Proof.Machine

namespace Sys2Proof.Machine

/-! PROOFS. Handing over and entering a phase: what the cycle, the faults and the notice slot are afterwards. -/

@[simp] theorem handOver_lines (s : State) : (handOver s).lines = s.lines := by
  obtain ⟨⟨-, h, -⟩, -⟩ := handOver_cabinetFrame s
  exact h

@[simp] theorem handOver_inReset (s : State) : (handOver s).inReset = s.inReset := by
  obtain ⟨⟨-, -, h, -⟩, -⟩ := handOver_cabinetFrame s
  exact h

@[simp] theorem handOver_faults (s : State) : (handOver s).faults = s.faults := by
  obtain ⟨-, h, -⟩ := handOver_keeps s
  exact h

@[simp] theorem handOver_climate (s : State) : (handOver s).climate = s.climate := by
  obtain ⟨h, -⟩ := handOver_keeps s
  exact h

@[simp] theorem handOver_cycle_st (s : State) : (handOver s).cycle.st = s.cycle.st := by
  obtain ⟨h, -⟩ := (keepsPhase_iff s (handOver s)).1 (handOver_keepsPhase s)
  exact h

@[simp] theorem handOver_cycle_record (s : State) : (handOver s).cycle.record = s.cycle.record := by
  obtain ⟨-, -, -, h, -⟩ := (keepsPhase_iff s (handOver s)).1 (handOver_keepsPhase s)
  exact h

/-! ## The cycle after handing over -/

/-- What forming the outputs keeps of the cycle, handing over keeps. -/
theorem handOver_cycle_induction {P : Cycle → Prop} (hp : ∀ u : State, P u.cycle → P (settle u).cycle) {s : State}
    (h : P s.cycle) : P (handOver s).cycle := by
  have computed : ∀ u : State, P u.cycle → P (compute u).cycle := fun _ hu => hp _ hu
  have loaded : ∀ u : State, P u.cycle → P (loadNotice .demand u).cycle := by
    intro u hu
    unfold loadNotice fillSlot; dsimp only; split
    · exact hu
    · rw [handFramer_cycle]; exact computed _ hu
  unfold handOver wantRise; dsimp only; split
  · exact hp _ h
  · split
    · exact loaded _ (computed _ h)
    · exact computed _ h

/-- Starved seconds at 0 stay at 0. -/
theorem handOver_starvedSecs_of_zero {s : State} (h : s.cycle.starvedSecs = 0) : (handOver s).cycle.starvedSecs = 0 := by
  refine handOver_cycle_induction (P := fun c => c.starvedSecs = 0) (fun u hu => ?_) h
  simp [settle, formLamps, formStarved, hu]

/-- Outside RUNNING, with no starvation flag left, handing over leaves the whole Cycle Controller. -/
theorem handOver_cycle_of_not_running {s : State} (hst : s.cycle.st ≠ .running) (hf : s.cycle.starved = false)
    (hn : s.cycle.starvedSecs = 0) : (handOver s).cycle = s.cycle := by
  refine handOver_cycle_induction (P := fun c => c = s.cycle) (fun u hu => ?_) rfl
  have unstarved : starvation (formLevels (formLock (formFan u))) = false := by simp [starvation, hu, hst]
  simp [settle, formLamps, formStarved, unstarved, hu, ← hf, ← hn]

/-- Where no phase runs and nothing cools, no load draws power once the requests are handed over (R151). -/
theorem handOver_draw_of_off {s : State} (hl : Live s) (hrom : RecordFromRom s) (hr : s.cycle.st ≠ .running)
    (hc : s.cycle.st ≠ .cancelCool) : (handOver s).loads.draw = 0 := by
  obtain ⟨-, hdraw, -, -, -, hoff⟩ := handOver_sound hl hrom
  obtain ⟨h1, h2⟩ := hoff (.inr (.inl (by rw [handOver_cycle_st]; exact fun h => h.elim hr hc)))
  rw [hdraw, h1, h2]

/-! ## The notice slot after a rise of want -/

/-- A DEMAND in the slot takes the newest figures when it is formed (R105). -/
theorem fillSlot_demand_newest (s : State) :
    (fillSlot .demand s).member.slot = some (newestDemand (fillSlot .demand s)) := by
  rw [fillSlot_slot]; simp [formNotice, newestDemand, fillSlot]

/-- In MEMBER the slot holds nothing that ranks above a DEMAND (R102, R104). -/
theorem slotKeeps_demand_of_member {s : State} (hs : SlotFits s) (hm : s.member.st = .member) :
    slotKeeps .demand s.member.slot = .demand := by
  obtain ⟨hkind, -⟩ := hs
  cases hslot : s.member.slot with
  | none => rfl
  | some n =>
    have hk : n.kind = .demand ∨ n.kind = .presence := by simpa [hm, SlotKindFits] using hkind n hslot
    rcases hk with hk | hk <;> simp [slotKeeps, hk, NoticeKind.rank]

/-- In MEMBER a DEMAND that falls due in flight is what is held over (R107). -/
theorem holdOver_demand_of_member {s : State} (hs : SlotFits s) (hm : s.member.st = .member) :
    holdOver .demand s.member.heldOver = some .demand := by
  obtain ⟨-, -, hheld, -⟩ := hs
  cases hk : s.member.heldOver with
  | none => rfl
  | some k =>
    have hd : k = .demand ∨ k = .presence := by simpa [hm, SlotKindFits] using (hheld k hk).2
    rcases hd with rfl | rfl <;> rfl

/-- A DEMAND that the slot takes stands there with the newest figures (R104, R105, R109). -/
theorem loadNotice_demand_of_free {s : State} (hs : SlotFits s) (hm : s.member.st = .member)
    (hfree : s.member.inFlight = false) :
    (loadNotice .demand s).member.slot = some (newestDemand (loadNotice .demand s)) ∧
      (loadNotice .demand s).member.presence = presenceStart ∧ (loadNotice .demand s).share.raiseReady = none := by
  have e : loadNotice .demand s = fillSlot .demand { s with member := { s.member with presence := presenceStart } } := by
    simp [loadNotice, hfree, slotKeeps_demand_of_member hs hm, noteLoad]
  rw [e]
  exact ⟨fillSlot_demand_newest _, by simp, by simp⟩

/-- A DEMAND that falls due behind a notice in flight is only held over (R107). -/
theorem loadNotice_demand_of_inFlight {s : State} (hs : SlotFits s) (hm : s.member.st = .member)
    (hfly : s.member.inFlight = true) :
    loadNotice .demand s = { s with member := { s.member with heldOver := some .demand } } := by
  simp [loadNotice, hfly, holdOver_demand_of_member hs hm]

/-- A rise of want in MEMBER, from a reference of 0 or to 4 units above the reference, loads a DEMAND (R81, R110). -/
theorem handOver_of_rise {s : State} (hm : s.member.st = .member) (hw : s.request.want < (formRequest s).want)
    (href : s.member.refWant = 0 ∨ s.member.refWant + wantStep ≤ (formRequest s).want) :
    handOver s = loadNotice .demand (compute { s with request := formRequest s }) := by
  have hne : ¬((formRequest s).want = s.request.want ∧ (formRequest s).cls = s.request.cls ∧
      (formRequest s).boost = s.request.boost) := by omega
  unfold handOver wantRise
  dsimp only
  rw [if_neg hne, if_pos]
  simpa using ⟨hm, hw, href⟩

theorem slotFits_compute {s : State} (h : SlotFits s) : SlotFits (compute s) := by
  unfold SlotFits; rw [compute_member, compute_framer]; exact h

/-- With nothing in flight, such a rise puts a DEMAND with the newest figures in the slot (R104, R105, R110). -/
theorem handOver_rise_of_free {s : State} (hs : SlotFits s) (hm : s.member.st = .member) (hfree : s.member.inFlight = false)
    (hw : s.request.want < (formRequest s).want)
    (href : s.member.refWant = 0 ∨ s.member.refWant + wantStep ≤ (formRequest s).want) :
    (handOver s).member.slot = some (newestDemand (handOver s)) ∧ (handOver s).member.presence = presenceStart ∧
      (handOver s).share.raiseReady = none := by
  rw [handOver_of_rise hm hw href]
  refine loadNotice_demand_of_free (slotFits_compute (s := { s with request := formRequest s }) hs) ?_ ?_
  · simpa using hm
  · simpa using hfree

/-- Behind a notice in flight, such a rise holds a DEMAND over and does nothing else at the slot (R107, R110). -/
theorem handOver_rise_of_inFlight {s : State} (hs : SlotFits s) (hm : s.member.st = .member)
    (hfly : s.member.inFlight = true) (hw : s.request.want < (formRequest s).want)
    (href : s.member.refWant = 0 ∨ s.member.refWant + wantStep ≤ (formRequest s).want) :
    (handOver s).member = { s.member with heldOver := some .demand } ∧ (handOver s).framer = s.framer ∧
      (handOver s).share.raiseReady = s.share.raiseReady := by
  rw [handOver_of_rise hm hw href,
    loadNotice_demand_of_inFlight (slotFits_compute (s := { s with request := formRequest s }) hs)]
  · simp
  · simpa using hm
  · simpa using hfly

/-! ## Faults where none of class A or B is active -/

/-- Behind no fault, or one of class C, no fault of class A or B is held (R165). -/
theorem holds_of_calm {f : FaultUnit} (ho : FaultsOrdered f) (hb : f.blocking = false) {k : FaultKind} (hk : k.cls ≠ .c) :
    f.holds k = false := by
  obtain ⟨-, -, hact⟩ := ho
  rw [← Bool.not_eq_true, holds_iff]
  cases ha : f.active with
  | none => rw [ha] at hact; simp [hact]
  | some x =>
    rw [ha] at hact
    have hx : x.cls = .c := by
      cases hc : x.cls <;> simp [FaultUnit.blocking, FaultUnit.activeClass, ha, hc] at hb ⊢
    have hrank : k.rank ≠ 2 := fun h => hk ((rank_two_iff k).1 h)
    rintro (h | h)
    · obtain rfl : x = k := by simpa using h
      exact hk hx
    · have := hact.2 k h
      have := (rank_two_iff x).2 hx
      have := rank_le_two k
      omega

/-- With no LOCK_FAULT held there is none to withdraw (R161). -/
theorem checkLock_of_not_held {s : State} (h : s.faults.holds .lockFault = false) : checkLock s = s := by
  simp [checkLock, h]

theorem raiseInto_history (k : FaultKind) (f : FaultUnit) : (raiseInto k f).history = f.history := by
  unfold raiseInto; split
  · rfl
  · split
    · rfl
    · split <;> rfl

/-- A raise of class A or B where none is active makes the kind the active fault (R165). -/
theorem raiseInto_active_of_calm {f : FaultUnit} (ho : FaultsOrdered f) (hb : f.blocking = false) {k : FaultKind}
    (hk : k.cls ≠ .c) : (raiseInto k f).active = some k := by
  unfold raiseInto
  rw [if_neg (by simp [holds_of_calm ho hb hk])]
  cases ha : f.active with
  | none => rfl
  | some x =>
    have hx : x.cls = .c := by
      cases hc : x.cls <;> simp [FaultUnit.blocking, FaultUnit.activeClass, ha, hc] at hb ⊢
    have hrank : k.rank ≠ 2 := fun h => hk ((rank_two_iff k).1 h)
    have := (rank_two_iff x).2 hx
    have := rank_le_two k
    dsimp only
    rw [if_pos (by omega)]

/-- A class B fault that becomes active in RUNNING ends a history display and holds the cycle (R32, R168, R171). -/
theorem raiseFault_of_classB_running {k : FaultKind} (hk : k.cls = .b) {s : State} (ho : FaultsOrdered s.faults)
    (hb : s.faults.blocking = false) (hst : s.cycle.st = .running) :
    raiseFault k s = holdCycle (endDisplay { s with faults := raiseInto k s.faults }) := by
  have hc : k.cls ≠ .c := by rw [hk]; decide
  have hact : (raiseInto k s.faults).active = some k := raiseInto_active_of_calm ho hb hc
  have hne : (raiseInto k s.faults).active ≠ s.faults.active := by
    intro e
    have hold : s.faults.holds k = true := (holds_iff _ _).2 (.inl (e ▸ hact))
    rw [holds_of_calm ho hb hc] at hold
    cases hold
  have hactivate : activate { s with faults := raiseInto k s.faults } =
      endDisplay { s with faults := raiseInto k s.faults } := by
    simp [activate, hact, hk]
  unfold raiseFault
  dsimp only
  rw [if_neg hne, hactivate]
  simp [cycleOnClass, FaultUnit.activeClass, hact, hk, hst]

/-! ## Entering a phase -/

/-- The state in which a phase entry hands its requests on: RUNNING in the record, with the dry watch at its entry. -/
def enteredPhase (i : Nat) (r : Record) (s : State) : State :=
  { s with
    cycle :=
      { s.cycle with
        st := .running, index := i, record := some r, remaining := 60 * r.minutes, second := some secondMs,
        starved := false, starvedSecs := 0, boost := 0, latch := true }
    climate := watchEntry r s.climate }

theorem enterPhase_eq (i : Nat) (r : Record) (s : State) :
    enterPhase i r s = checkWater (handOver (enteredPhase i r s)) := rfl

theorem watchEntry_keepsReadings (r : Record) (s : State) :
    KeepsReadings s { s with climate := watchEntry r s.climate } := by
  unfold watchEntry KeepsReadings; split <;> simp

/-- Outside DRY a phase entry leaves the dry watch off (R53). -/
theorem watchEntry_off {r : Record} (h : r.kind ≠ .dry) (c : Climate) : WatchIsOff (watchEntry r c) := by
  simp [watchEntry, h, WatchIsOff]

/-- The requests at a phase entry, part by part (R19, R24, R25, R29 to R31). -/
theorem formRequest_enteredPhase (i : Nat) (r : Record) (s : State) :
    formRequest (enteredPhase i r s) =
      { steam := if r.kind.usesSteam && !s.lines.waterLow then r.steam.getD 0 else 0, heater := r.heater.getD 0,
        cls := r.kind.cls, boost := 0, fan := r.fan, lock := r.kind.needsLock || decide (lockTemp ≤ s.climate.tmax),
        valve := r.kind.usesSteam } := by
  have ht : (watchEntry r s.climate).tmax = s.climate.tmax := by unfold watchEntry; split <;> rfl
  simp [formRequest, enteredPhase, steamPart, heaterPart, classOf, fanRequest, lockRequest, Cycle.steaming, ht]

theorem steaming_handOver_enteredPhase (i : Nat) (r : Record) (s : State) :
    (handOver (enteredPhase i r s)).cycle.steaming = r.kind.usesSteam := by
  unfold Cycle.steaming
  rw [handOver_cycle_st, handOver_cycle_record]
  simp [enteredPhase]

/-- A phase entered with water enough for it is entered by handing its requests on (R19, R26). -/
theorem enterPhase_of_water {i : Nat} {r : Record} {s : State} (h : s.lines.waterLow = false ∨ r.kind.usesSteam = false) :
    enterPhase i r s = handOver (enteredPhase i r s) := by
  have hl : (handOver (enteredPhase i r s)).lines = s.lines := handOver_lines _
  rw [enterPhase_eq, checkWater, steaming_handOver_enteredPhase, hl]
  rcases h with h | h <;> simp [h]

/-- A phase that uses steam, entered with the level low, is held by WATER_EMPTY once its requests are handed on (R26, R32). -/
theorem enterPhase_of_lowWater {i : Nat} {r : Record} {s : State} (hw : s.lines.waterLow = true)
    (hu : r.kind.usesSteam = true) (ho : FaultsOrdered s.faults) (hb : s.faults.blocking = false) :
    enterPhase i r s =
      holdCycle
        (endDisplay
          { handOver (enteredPhase i r s) with faults := raiseInto .waterEmpty s.faults }) := by
  have hl : (handOver (enteredPhase i r s)).lines = s.lines := handOver_lines _
  have hf : (handOver (enteredPhase i r s)).faults = s.faults := handOver_faults _
  have hst : (handOver (enteredPhase i r s)).cycle.st = .running := handOver_cycle_st _
  rw [enterPhase_eq, checkWater, steaming_handOver_enteredPhase, hl, hu, hw, Bool.and_self, if_pos rfl,
    raiseFault_of_classB_running rfl (by rwa [hf]) (by rwa [hf]) hst, hf]

end Sys2Proof.Machine

namespace Sys2Proof.Machine

/-! PROOFS. An accepted START in IDLE enters phase 0 of the programme on the select lines (R12, R18). -/

/-! ## The press -/

/-- The state in which an accepted START enters phase 0: the key taken with its click, a history display ended, and the programme
of the select lines taken (R12, R171, R174). -/
def startTaken (p : Fin 8) (s : State) : State :=
  let u := endDisplay (sound .click { s with panel := { s.panel with start := KeyLine.steady true } })
  { u with cycle := { s.cycle with programme := p } }

theorem selectedProgramme_eq {sel2 sel1 sel0 : Bool} {p : Fin 8}
    (h : p.val = 4 * sel2.toNat + 2 * sel1.toNat + sel0.toNat) : selectedProgramme sel2 sel1 sel0 = p := by
  apply Fin.ext
  simp only [selectedProgramme, Fin.ofNat, ← h]
  exact Nat.mod_eq_of_lt p.isLt

theorem startTaken_cabinetFrame (p : Fin 8) (s : State) : CabinetFrame s (startTaken p s) :=
  ⟨.refl s, rfl, rfl, rfl, .refl s, .refl s, rfl, rfl, rfl⟩

theorem startTaken_holds (p : Fin 8) (s : State) (k : FaultKind) : (startTaken p s).faults.holds k = s.faults.holds k := rfl

/-- START_PRESS in IDLE, its debounce run out, after learning, with the door closed and no class A or B fault active, enters
phase 0 of the programme selected (R12, R17, R18, R174). -/
theorem startPress_of_accepted {sel2 sel1 sel0 : Bool} {p : Fin 8} {r : Record} {s : State}
    (hkey : s.panel.start.settles true = true) (hlearned : s.feeder.window.isSome = true) (hidle : s.cycle.st = .idle)
    (hdoor : s.lines.doorOpen = false) (hcalm : s.faults.blocking = false)
    (hsel : p.val = 4 * sel2.toNat + 2 * sel1.toNat + sel0.toNat) (hr : readRom p 0 = some r) :
    startPress sel2 sel1 sel0 s = checkLock (enterPhase 0 r (startTaken p s)) := by
  simp [startPress, hkey, learned, hlearned, cycleStart, hidle, startAllowed, hdoor, hcalm, selectedProgramme_eq hsel,
    startCycle, hr, startTaken]

/-- What such a START leaves alone, whatever the water level. -/
theorem startEntry_cabinetFrame (p : Fin 8) (r : Record) (s : State) :
    CabinetFrame s (checkLock (enterPhase 0 r (startTaken p s))) :=
  (startTaken_cabinetFrame p s).trans ((enterPhase_cabinetFrame 0 r _).trans (checkLock_cabinetFrame _))

/-! ## With water enough -/

/-- The requests handed on are the record's, where the water level does not withhold its steam (R24). -/
theorem formRequest_start {p : Fin 8} {r : Record} {s : State} (hr : readRom p 0 = some r)
    (hw : s.lines.waterLow = false ∨ r.kind.usesSteam = false) :
    formRequest (enteredPhase 0 r (startTaken p s)) =
      { steam := r.steam.getD 0, heater := r.heater.getD 0, cls := r.kind.cls, boost := 0, fan := r.fan,
        lock := r.kind.needsLock || decide (lockTemp ≤ s.climate.tmax), valve := r.kind.usesSteam } := by
  have hsteam : (if r.kind.usesSteam && !s.lines.waterLow then r.steam.getD 0 else 0) = r.steam.getD 0 := by
    cases hu : r.kind.usesSteam with
    | false => simp [(readRom_fields hr).1 hu]
    | true =>
      rw [hu] at hw
      simp [hw.resolve_right (by decide)]
  rw [formRequest_enteredPhase]
  exact congrArg (fun n => ({ steam := n, heater := _, cls := _, boost := _, fan := _, lock := _, valve := _ } : Request)) hsteam

/-- The want of phase 0 is above 0 (R13). -/
theorem formRequest_start_want_pos {p : Fin 8} {r : Record} {s : State} (hr : readRom p 0 = some r) :
    0 < (formRequest (enteredPhase 0 r (startTaken p s))).want := by
  have := readRom_zero_heats hr
  rw [formRequest_enteredPhase]
  unfold Request.want
  dsimp only
  omega

/-- With water enough an accepted START ends where its requests are handed on: no LOCK_FAULT is held that could be withdrawn. -/
theorem startEntry_of_water {p : Fin 8} {r : Record} {s : State} (ho : FaultsOrdered s.faults)
    (hcalm : s.faults.blocking = false) (hw : s.lines.waterLow = false ∨ r.kind.usesSteam = false) :
    checkLock (enterPhase 0 r (startTaken p s)) = handOver (enteredPhase 0 r (startTaken p s)) := by
  have hf : (handOver (enteredPhase 0 r (startTaken p s))).faults = (startTaken p s).faults := handOver_faults _
  rw [enterPhase_of_water (s := startTaken p s) hw, checkLock_of_not_held]
  rw [hf, startTaken_holds, holds_of_calm ho hcalm (by decide)]

/-- The dry watch at the entry of a record of the ROM (R53). -/
theorem watchEntry_of_rom {p : Fin 8} {i : Nat} {r : Record} (hr : readRom p i = some r) (c : Climate) :
    (watchEntry r c).watch = (if r.kind = .dry then .warmUp else .off) ∧ (watchEntry r c).drop = r.drop ∧
      (watchEntry r c).peak = 0 ∧ (watchEntry r c).warmUp = (if r.kind = .dry then some warmUpMs else none) ∧
      (watchEntry r c).tracking = none ∧ (watchEntry r c).dryPoint = false := by
  by_cases hd : r.kind = .dry
  · simp [watchEntry, hd]
  · simp [watchEntry, hd, (readRom_fields hr).2 hd]

/-! ## With the water level low -/

/-- The state in which a START into a steam phase hands its withdrawn requests on: held by WATER_EMPTY (R26, R32). -/
def startHeld (p : Fin 8) (r : Record) (s : State) : State :=
  let h := handOver (enteredPhase 0 r (startTaken p s))
  let u := endDisplay { h with faults := raiseInto .waterEmpty (startTaken p s).faults }
  { u with cycle := { u.cycle with st := .held, second := none, starved := false, starvedSecs := 0 } }

/-- With the level low an accepted START into a steam phase ends where the held phase hands its requests on. -/
theorem startEntry_of_lowWater {p : Fin 8} {r : Record} {s : State} (ho : FaultsOrdered s.faults)
    (hcalm : s.faults.blocking = false) (hw : s.lines.waterLow = true) (hu : r.kind.usesSteam = true) :
    checkLock (enterPhase 0 r (startTaken p s)) = handOver (startHeld p r s) := by
  have he : enterPhase 0 r (startTaken p s) = handOver (startHeld p r s) :=
    enterPhase_of_lowWater (s := startTaken p s) hw hu ho hcalm
  have hlock : (raiseInto .waterEmpty (startTaken p s).faults).holds .lockFault = false := by
    rw [← Bool.not_eq_true, raiseInto_holds, startTaken_holds, holds_of_calm ho hcalm (by decide)]
    decide
  rw [he, checkLock_of_not_held]
  rw [handOver_faults]
  exact hlock

/-- The held phase of such a START: the record is in hand, no timer of the phase runs (R32). -/
theorem startHeld_cycle (p : Fin 8) (r : Record) (s : State) :
    (startHeld p r s).cycle =
      { s.cycle with
        st := .held, programme := p, index := 0, record := some r, remaining := 60 * r.minutes, boost := 0
        latch := true, second := none, starved := false, starvedSecs := 0 } := by
  have hphase : KeepsPhase _ _ := handOver_keepsPhase (enteredPhase 0 r (startTaken p s))
  unfold KeepsPhase at hphase
  simp only [startHeld, endDisplay_cycle]
  rw [hphase]
  rfl

theorem startHeld_climate (p : Fin 8) (r : Record) (s : State) : (startHeld p r s).climate = watchEntry r s.climate :=
  handOver_climate (enteredPhase 0 r (startTaken p s))

/-- WATER_EMPTY is the active fault of such a START, and no record is written (R165, R169). -/
theorem startHeld_faults {s : State} (ho : FaultsOrdered s.faults) (hcalm : s.faults.blocking = false) (p : Fin 8)
    (r : Record) :
    (startHeld p r s).faults.active = some .waterEmpty ∧ (startHeld p r s).faults.code = 5 ∧
      (startHeld p r s).faults.history = s.faults.history := by
  have hact : (raiseInto .waterEmpty (startTaken p s).faults).active = some .waterEmpty :=
    raiseInto_active_of_calm (f := (startTaken p s).faults) ho hcalm (by decide)
  refine ⟨hact, ?_, raiseInto_history .waterEmpty (startTaken p s).faults⟩
  show (raiseInto .waterEmpty (startTaken p s).faults).activeCode = 5
  simp [FaultUnit.activeCode, hact, FaultKind.code]

/-- A held phase wants nothing and keeps its fan (R24, R25, R29, R31). -/
theorem formRequest_startHeld (p : Fin 8) (r : Record) (s : State) :
    (formRequest (startHeld p r s)).want = 0 ∧ (formRequest (startHeld p r s)).cls = 0 ∧
      (formRequest (startHeld p r s)).fan = r.fan ∧ (formRequest (startHeld p r s)).valve = false := by
  simp [formRequest, steamPart, heaterPart, classOf, fanRequest, Cycle.steaming, startHeld_cycle]

/-! ## The obligation -/

/-- Settles O11: with water enough the START ends where phase 0 hands its requests on, and with the level low where the phase,
held by WATER_EMPTY, hands them on again. -/
theorem startEntersPhaseZero : Obligations.StartEntersPhaseZero := by
  intro sel2 sel1 sel0 p r s hl hkey hlearned hidle hdoor hcalm ho hsel hr
  have hexec : exec (.startPress sel2 sel1 sel0) s = .next (checkLock (enterPhase 0 r (startTaken p s))) :=
    (live_of_live hl _).trans
      (congrArg Host.Outcome.next (startPress_of_accepted hkey hlearned hidle hdoor hcalm hsel hr))
  have hframe := startEntry_cabinetFrame p r s
  have hreadings := watchEntry_keepsReadings r s
  refine ⟨fun hw => ?_, fun hw hu => ?_⟩
  · rw [startEntry_of_water ho hcalm hw] at hexec hframe
    obtain ⟨hst, hprog, hidx, hrec, hrem, hsec, hboost, hlatch, -⟩ :=
      (keepsPhase_iff _ _).1 (handOver_keepsPhase (enteredPhase 0 r (startTaken p s)))
    obtain ⟨hclim, hfaults, hstart, -, -, -, -, hdisplay⟩ := handOver_keeps (enteredPhase 0 r (startTaken p s))
    obtain ⟨hwatch, hdrop, hpeak, hwarm, htrack, hpoint⟩ := watchEntry_of_rom hr s.climate
    have hreq := (handOver_request (enteredPhase 0 r (startTaken p s))).trans (formRequest_start hr hw)
    have hrise (h0 : s.request.want = 0) : s.request.want < (formRequest (enteredPhase 0 r (startTaken p s))).want :=
      h0 ▸ formRequest_start_want_pos hr
    refine ⟨_, hexec, hst, hprog, hidx, hrec, hrem, hboost, hlatch, handOver_starvedSecs_of_zero rfl, hsec,
      by rw [hreq], by rw [hreq], by rw [hreq], by rw [hreq], by rw [hreq], by rw [hreq], by rw [hreq]; rfl,
      hclim ▸ hwatch, hclim ▸ hdrop, hclim ▸ hpeak, hclim ▸ hwarm, hclim ▸ htrack, hclim ▸ hpoint, hdisplay, hstart,
      fun hm hfree h0 href hs => ?_, fun hm hfly h0 href hs => ?_, hfaults ▸ rfl, hfaults ▸ rfl,
      hfaults ▸ rfl, ?_, hframe⟩
    · exact handOver_rise_of_free (s := enteredPhase 0 r (startTaken p s)) hs hm hfree (hrise h0) (.inl href)
    · rw [handOver_request] at href
      exact handOver_rise_of_inFlight (s := enteredPhase 0 r (startTaken p s)) hs hm hfly (hrise h0) href
    · unfold KeepsReadings; rw [hclim]; exact hreadings
  · rw [startEntry_of_lowWater ho hcalm hw hu] at hexec hframe
    have hst : (startHeld p r s).cycle.st = .held := by rw [startHeld_cycle]
    have hrom : RecordFromRom (startHeld p r s) := by
      unfold RecordFromRom; rw [startHeld_cycle]; exact .inr hr.symm
    have hlive : Live (startHeld p r s) := (handOver_inReset (enteredPhase 0 r (startTaken p s))).trans hl
    have hcycle : (handOver (startHeld p r s)).cycle = (startHeld p r s).cycle :=
      handOver_cycle_of_not_running (by simp [hst]) (by rw [startHeld_cycle]) (by rw [startHeld_cycle])
    obtain ⟨-, -, hstart, -, -, -, -, hdisplay⟩ := handOver_keeps (startHeld p r s)
    obtain ⟨-, -, hkeystart, -⟩ := handOver_keeps (enteredPhase 0 r (startTaken p s))
    obtain ⟨hact, hcode, hhist⟩ := startHeld_faults ho hcalm p r
    obtain ⟨hwant, hcls, hfan, hvalve⟩ := formRequest_startHeld p r s
    have hclim : (handOver (startHeld p r s)).climate = watchEntry r s.climate :=
      (handOver_climate _).trans (startHeld_climate p r s)
    have hdry : r.kind ≠ .dry := by rintro h; simp [h, PhaseKind.usesSteam] at hu
    rw [← handOver_request] at hwant hcls hfan hvalve
    rw [← handOver_faults (startHeld p r s)] at hact hcode hhist
    refine ⟨_, hexec, hcycle.trans (startHeld_cycle p r s), hact, hcode, hhist, hwant, hcls, hfan, hvalve,
      handOver_draw_of_off hlive hrom (by simp [hst]) (by simp [hst]), hclim ▸ watchEntry_off hdry _, hdisplay,
      hstart.trans hkeystart, ?_, hframe⟩
    unfold KeepsReadings; rw [hclim]; exact hreadings

end Sys2Proof.Machine

namespace Sys2Proof.Machine

/-! PROOFS. Formed outputs: when forming them changes nothing, and which changes beside them leave them formed. -/

/-- Outputs are formed exactly when each of the five formers leaves the state. -/
theorem settled_iff (s : State) :
    settle s = s ↔
      formFan s = s ∧ s.loads.lock = s.request.lock ∧ formLevels s = s ∧ formStarved s = s ∧ formLamps s = s := by
  constructor
  · intro h
    have hfan := formFan_settle s
    have hlock := settle_loads_lock s
    have hlevels := formLevels_settle s
    have hstarved := formStarved_settle s
    rw [h] at hfan hlock hlevels hstarved
    refine ⟨hfan, hlock, hlevels, hstarved, ?_⟩
    have hlamps : formLamps (formStarved (formLevels (formLock (formFan s)))) = s := h
    rwa [hfan, formLock_of_formed hlock, hlevels, hstarved] at hlamps
  · rintro ⟨hfan, hlock, hlevels, hstarved, hlamps⟩
    show formLamps (formStarved (formLevels (formLock (formFan s)))) = s
    rw [hfan, formLock_of_formed hlock, hlevels, hstarved, hlamps]

theorem formFan_fixed_iff (s : State) :
    formFan s = s ↔
      s.loads.fan = fanCommand s ∧ FanDriven s.loads ∧
        (s.loads.fan = 0 → s.loads.tachConfirmed = false ∧ s.loads.tachWatchdog = none) := by
  constructor
  · intro h
    have hfan := formFan_loads_fan s
    have hdriven := formFan_fanDriven s
    have hoff : fanCommand s = 0 → (formFan s).loads.tachConfirmed = false ∧ (formFan s).loads.tachWatchdog = none := by
      intro h0; unfold formFan; simp [h0]
    rw [h] at hfan hdriven hoff
    exact ⟨hfan, hdriven, hfan ▸ hoff⟩
  · rintro ⟨hfan, hdriven, hoff⟩
    exact formFan_of_formed hfan hdriven hoff

/-- Levels are formed exactly when each of their items is as its inputs give it (R150, R151, R155, R159). -/
theorem formLevels_fixed_iff (s : State) :
    formLevels s = s ↔
      (s.loads.heaterOff = loadsForced s ∧ s.loads.steamOff = (loadsForced s || s.lines.waterLow) ∧
        s.loads.valveOff = (!s.lines.locked || s.lines.doorOpen) ∧ s.loads.fanOff = s.lines.doorOpen) ∧
      (s.loads.steamAssigned = assignedSteam s.share.allowance s.request.steam ∧
        s.loads.heaterAssigned = assignedHeater s.share.allowance s.request.steam s.request.heater ∧
        s.loads.steamLevel = (if s.loads.steamOff then 0 else s.loads.steamAssigned) ∧
        s.loads.heaterLevel = (if s.loads.heaterOff then 0 else s.loads.heaterAssigned) ∧
        s.loads.draw = s.loads.steamLevel + s.loads.heaterLevel) ∧
      (s.loads.heaterCount ≤ firingCount s.feeder.window s.loads.heaterLevel heaterRating ∧
        s.loads.steamCount ≤ firingCount s.feeder.window s.loads.steamLevel steamRating ∧
        s.loads.valve = (s.request.valve && decide (steamMinimum ≤ s.loads.steamLevel) && !s.loads.valveOff)) := by
  have hloads : formLevels s = s ↔ (formLevels s).loads = s.loads :=
    ⟨congrArg State.loads, fun h => (show formLevels s = { s with loads := (formLevels s).loads } from rfl).trans (by rw [h])⟩
  rw [hloads]
  unfold formLevels
  dsimp only
  generalize loadsForced s = forced
  cases hl : s.loads
  simp only [LoadOut.mk.injEq]
  grind

theorem formStarved_fixed_iff (s : State) :
    formStarved s = s ↔ s.cycle.starved = starvation s ∧ (s.cycle.starved = false → s.cycle.starvedSecs = 0) := by
  have hcycle : formStarved s = s ↔ (formStarved s).cycle = s.cycle :=
    ⟨congrArg State.cycle, fun h => (show formStarved s = { s with cycle := (formStarved s).cycle } from rfl).trans (by rw [h])⟩
  rw [hcycle]
  unfold formStarved
  dsimp only
  generalize starvation s = flag
  cases hc : s.cycle
  simp only [Cycle.mk.injEq]
  grind

/-- Lamps are formed exactly when a lamp that does not go on flashing is as the cycle asks, and the other two are (R175). -/
theorem formLamps_fixed_iff (s : State) :
    formLamps s = s ↔
      (¬((phaseLampFor s.cycle).flashes ≠ none ∧ (phaseLampFor s.cycle).flashes = s.panel.phaseLamp.flashes) →
        s.panel.phaseLamp = phaseLampFor s.cycle ∧
          s.panel.flash = if (phaseLampFor s.cycle).flashes = none then none else some lampFlashMs) ∧
      s.panel.doneLamp = decide (s.cycle.st = .done) ∧
      s.panel.waitLamp = (decide (s.cycle.st = .running) && decide (s.share.allowance < s.request.want)) := by
  have hpanel : formLamps s = s ↔ (formLamps s).panel = s.panel :=
    ⟨congrArg State.panel, fun h => (show formLamps s = { s with panel := (formLamps s).panel } from rfl).trans (by rw [h])⟩
  rw [hpanel]
  unfold formLamps
  dsimp only
  generalize phaseLampFor s.cycle = target
  cases hp : s.panel
  simp only [Panel.mk.injEq]
  grind

/-- Formed outputs stay formed when gates, window position and lock-confirm timer change and the counts stay within those of the
levels: none of them is formed from another output (R153 to R156, R161). -/
theorem settled_of_gates {s : State} (h : settle s = s) {hc sc : Nat}
    (hheat : hc ≤ firingCount s.feeder.window s.loads.heaterLevel heaterRating)
    (hsteam : sc ≤ firingCount s.feeder.window s.loads.steamLevel steamRating) (position : Nat) (hg sg : Bool)
    (confirm : Timer) :
    settle
        { s with
          loads :=
            { s.loads with
              position, heaterCount := hc, steamCount := sc, heaterGate := hg, steamGate := sg, lockConfirm := confirm } } =
      { s with
        loads :=
          { s.loads with
            position, heaterCount := hc, steamCount := sc, heaterGate := hg, steamGate := sg, lockConfirm := confirm } } := by
  obtain ⟨hfan, hlock, hlevels, hstarved, hlamps⟩ := (settled_iff s).1 h
  refine (settled_iff _).2 ⟨?_, hlock, ?_, ?_, ?_⟩
  · exact (formFan_fixed_iff _).2 ((formFan_fixed_iff s).1 hfan)
  · obtain ⟨hoffs, hdivided, -, -, hvalve⟩ := (formLevels_fixed_iff s).1 hlevels
    exact (formLevels_fixed_iff _).2 ⟨hoffs, hdivided, hheat, hsteam, hvalve⟩
  · exact (formStarved_fixed_iff _).2 ((formStarved_fixed_iff s).1 hstarved)
  · exact (formLamps_fixed_iff _).2 ((formLamps_fixed_iff s).1 hlamps)

/-- Formed outputs stay formed while the phase's clock and, in a starved phase, its starved seconds run (R20, R22). -/
theorem settled_of_clock {s : State} (h : settle s = s) (second : Timer) (remaining starvedSecs : Nat)
    (hs : s.cycle.starved = true ∨ starvedSecs = s.cycle.starvedSecs) :
    settle { s with cycle := { s.cycle with second, remaining, starvedSecs } } =
      { s with cycle := { s.cycle with second, remaining, starvedSecs } } := by
  obtain ⟨hfan, hlock, hlevels, hstarved, hlamps⟩ := (settled_iff s).1 h
  refine (settled_iff _).2 ⟨?_, hlock, ?_, ?_, ?_⟩
  · exact (formFan_fixed_iff _).2 ((formFan_fixed_iff s).1 hfan)
  · exact (formLevels_fixed_iff _).2 ((formLevels_fixed_iff s).1 hlevels)
  · obtain ⟨hflag, hsecs⟩ := (formStarved_fixed_iff s).1 hstarved
    refine (formStarved_fixed_iff _).2 ⟨hflag, fun hf => ?_⟩
    rcases hs with hs | rfl
    · rw [hs] at hf; cases hf
    · exact hsecs hf
  · exact (formLamps_fixed_iff _).2 ((formLamps_fixed_iff s).1 hlamps)

/-- Formed outputs stay formed when a flashing lamp turns over (R175). -/
theorem settled_of_toggle {s : State} (h : settle s = s) :
    settle { s with panel := { s.panel with phaseLamp := s.panel.phaseLamp.toggled } } =
      { s with panel := { s.panel with phaseLamp := s.panel.phaseLamp.toggled } } := by
  obtain ⟨hfan, hlock, hlevels, hstarved, hlamps⟩ := (settled_iff s).1 h
  refine (settled_iff _).2 ⟨?_, hlock, ?_, ?_, ?_⟩
  · exact (formFan_fixed_iff _).2 ((formFan_fixed_iff s).1 hfan)
  · exact (formLevels_fixed_iff _).2 ((formLevels_fixed_iff s).1 hlevels)
  · exact (formStarved_fixed_iff _).2 ((formStarved_fixed_iff s).1 hstarved)
  · obtain ⟨hlamp, hothers⟩ := (formLamps_fixed_iff s).1 hlamps
    refine (formLamps_fixed_iff _).2 ⟨fun hnew => ?_, hothers⟩
    have hflash : s.panel.phaseLamp.toggled.flashes = s.panel.phaseLamp.flashes := by
      cases s.panel.phaseLamp <;> rfl
    dsimp only at hnew
    rw [hflash] at hnew
    obtain ⟨hp, hf⟩ := hlamp hnew
    have hdark : s.panel.phaseLamp.flashes = none := by rw [← hp] at hnew; simpa using hnew
    refine ⟨Eq.trans ?_ hp, hf⟩
    cases hl : s.panel.phaseLamp <;> simp [PhaseLamp.toggled, PhaseLamp.flashes, hl] at hdark ⊢

/-! ## The views -/

/-- What the phase in hand shows in: the Cycle Controller but for its starvation flag and seconds, and the dry watch. -/
def phaseView (s : State) : Cycle × Watch × Timer × Timer × Bool :=
  ({ s.cycle with starved := false, starvedSecs := 0 }, s.climate.watch, s.climate.warmUp, s.climate.tracking,
    s.climate.dryPoint)

/-- What the requests show in: the phase, the requests themselves, and the two other inputs they are formed from. -/
def requestView (s : State) : (Cycle × Watch × Timer × Timer × Bool) × Request × Int × Bool :=
  (phaseView s, s.request, s.climate.tmax, s.lines.waterLow)

/-- What the formed outputs show in: their inputs and the outputs, without gates, window position and lock-confirm timer. -/
structure OutputView where
  requests : (Cycle × Watch × Timer × Timer × Bool) × Request × Int × Bool
  cycle : Cycle
  lines : Lines
  loads : LoadOut
  allowance : Nat
  window : Option Nat
  active : Option FaultKind
  waiting : List FaultKind
  phaseLamp : PhaseLamp
  flash : Timer
  doneLamp : Bool
  waitLamp : Bool

def outputView (s : State) : OutputView :=
  { requests := requestView s, cycle := s.cycle, lines := s.lines
    loads := { s.loads with position := 0, heaterGate := false, steamGate := false, lockConfirm := none }
    allowance := s.share.allowance, window := s.feeder.window, active := s.faults.active, waiting := s.faults.waiting
    phaseLamp := s.panel.phaseLamp, flash := s.panel.flash, doneLamp := s.panel.doneLamp, waitLamp := s.panel.waitLamp }

theorem requestView_of_outputView {s t : State} (h : outputView t = outputView s) : requestView t = requestView s :=
  congrArg OutputView.requests h

theorem phaseView_of_requestView {s t : State} (h : requestView t = requestView s) : phaseView t = phaseView s :=
  congrArg Prod.fst h

/-- The phase shows the same when the cycle is kept but for its starvation, and the dry watch too. -/
theorem phaseView_of_keepsPhase {s t : State} (h : KeepsPhase s t) (hc : t.climate = s.climate) :
    phaseView t = phaseView s := by
  unfold KeepsPhase at h
  unfold phaseView
  rw [hc, h]

theorem phaseView_settle (s : State) : phaseView (settle s) = phaseView s :=
  phaseView_of_keepsPhase (settle_keepsPhase s) (settle_climate s)

theorem requestView_settle (s : State) : requestView (settle s) = requestView s := by
  simp [requestView, phaseView_settle]

theorem phaseView_handOver (s : State) : phaseView (handOver s) = phaseView s :=
  phaseView_of_keepsPhase (handOver_keepsPhase s) (handOver_keeps s).1

theorem phaseView_activate (s : State) : phaseView (activate s) = phaseView s := by
  obtain ⟨hc, -, hm, -⟩ := activate_keeps s
  simp [phaseView, hc, hm]

/-- Outputs stay formed in every state that shows the same of them. -/
theorem settled_congr {s t : State} (hv : outputView t = outputView s) (h : settle s = s) : settle t = t := by
  obtain ⟨-, -, hlevels, -, -⟩ := (settled_iff s).1 h
  obtain ⟨-, -, hheat, hsteam, -⟩ := (formLevels_fixed_iff s).1 hlevels
  have hu := settled_of_gates h hheat hsteam t.loads.position t.loads.heaterGate t.loads.steamGate t.loads.lockConfirm
  simp only [outputView, requestView, OutputView.mk.injEq, Prod.mk.injEq] at hv
  obtain ⟨⟨-, hreq, -⟩, hcycle, hlines, hloads, hallow, hwindow, hactive, hwaiting, hlamp, hflash, hdone, hwait⟩ := hv
  have hgates := congrArg (fun l => { l with
      position := t.loads.position, heaterGate := t.loads.heaterGate, steamGate := t.loads.steamGate
      lockConfirm := t.loads.lockConfirm } : LoadOut → LoadOut) hloads
  refine SameOutputs.settled (s := { s with loads := _ }) ?_ hu
  exact ⟨hcycle, hreq, hlines, hgates, hallow, hwindow, hactive, hwaiting, hlamp, hflash, hdone, hwait⟩

end Sys2Proof.Machine

namespace Sys2Proof.Machine

/-! PROOFS. Upkeep: what every shared operation keeps, for any invariant that rests on the phase, the requests and the formed
outputs. An operation hands its state on in four stages, and each invariant says what it asks at each: `Late` of a phase that may
have its dry point due, `Phase` of the phase before its requests are handed over, `Asked` of the state before its outputs are
formed, and `Kept` of the state the operation leaves. -/

/-- The dry point is found and the DRY phase it ends is RUNNING: `checkDryPoint` ends that phase (R27). -/
def Overdue (s : State) : Prop := s.cycle.st = .running ∧ s.cycle.kind = some .dry ∧ s.climate.dryPoint = true

theorem overdue_congr {s t : State} (h : phaseView t = phaseView s) : Overdue t ↔ Overdue s := by
  have hc := congrArg (fun v => (v.1.st, v.1.record.map Record.kind, v.2.2.2.2)) h
  simp only [phaseView, Prod.mk.injEq] at hc
  obtain ⟨h1, h2, h3⟩ := hc
  simp [Overdue, Cycle.kind, h1, h2, h3]

/-- The cycle states in which no phase is in hand and no timer of the cycle runs. -/
def Away (st : CycleState) : Prop := st = .idle ∨ st = .halted ∨ st = .done ∨ st = .standby

/-- A phase held where it stands (R32). -/
def heldPhase (s : State) : State :=
  { s with cycle := { s.cycle with st := .held, second := none, starved := false, starvedSecs := 0 } }

/-- A held phase that runs on (R33). -/
def runOn (s : State) : State := { s with cycle := { s.cycle with st := .running, second := some secondMs } }

/-- What the shared operations of the cycle and the Fault Unit need of an invariant to keep it. -/
structure Upkeep (Late Phase Asked Kept : State → Prop) : Prop where
  asked_of_kept : ∀ {s}, Kept s → Asked s
  phase_of_asked : ∀ {s}, Asked s → Phase s
  late_of_phase : ∀ {s}, Phase s → Late s
  phase_of_late : ∀ {s}, Late s → ¬Overdue s → Phase s
  late_congr : ∀ {s t}, phaseView t = phaseView s → Late s → Late t
  phase_congr : ∀ {s t}, phaseView t = phaseView s → Phase s → Phase t
  asked_congr : ∀ {s t}, requestView t = requestView s → Asked s → Asked t
  kept_congr : ∀ {s t}, outputView t = outputView s → Kept s → Kept t
  settle : ∀ {s}, Asked s → Kept (settle s)
  asked : ∀ {s}, Phase s → Asked { s with request := formRequest s }
  left : ∀ {s st}, Away st → Late s → Phase (leaveTo st s)
  entered : ∀ {s p i r}, s.cycle.st = .idle ∨ s.cycle.st = .running → readRom p i = some r → Late s →
    Phase (enteredPhase i r { s with cycle := { s.cycle with programme := p } })
  held : ∀ {s}, s.cycle.st = .running → Late s → Phase (heldPhase s)
  run : ∀ {s}, s.cycle.st = .held → Late s → Late (runOn s)

namespace Upkeep

variable {Late Phase Asked Kept : State → Prop}

theorem phase_of_kept (h : Upkeep Late Phase Asked Kept) {s : State} (hs : Kept s) : Phase s :=
  h.phase_of_asked (h.asked_of_kept hs)

/-- The phase alone is kept up too. -/
theorem onPhase (h : Upkeep Late Phase Asked Kept) : Upkeep Late Phase Phase Phase :=
  { h with
    asked_of_kept := id
    phase_of_asked := id
    asked_congr := fun hv => h.phase_congr (phaseView_of_requestView hv)
    kept_congr := fun hv => h.phase_congr (phaseView_of_requestView (requestView_of_outputView hv))
    settle := fun {s} => h.phase_congr (phaseView_settle s)
    asked := fun {s} hs => h.phase_congr (s := s) rfl hs }

/-- A phase that may be overdue is kept up too. -/
theorem onLate (h : Upkeep Late Phase Asked Kept) : Upkeep Late Late Late Late where
  asked_of_kept := id
  phase_of_asked := id
  late_of_phase := id
  phase_of_late hs _ := hs
  late_congr := h.late_congr
  phase_congr := h.late_congr
  asked_congr hv := h.late_congr (phaseView_of_requestView hv)
  kept_congr hv := h.late_congr (phaseView_of_requestView (requestView_of_outputView hv))
  settle {s} := h.late_congr (phaseView_settle s)
  asked {s} hs := h.late_congr (s := s) rfl hs
  left ha hs := h.late_of_phase (h.left ha hs)
  entered hst hr hs := h.late_of_phase (h.entered hst hr hs)
  held hst hs := h.late_of_phase (h.held hst hs)
  run := h.run

/-! ## Forming the outputs, the share computation and the notice slot -/

theorem compute (h : Upkeep Late Phase Asked Kept) {s : State} (hs : Asked s) : Kept (compute s) :=
  h.settle (h.asked_congr (s := s) rfl hs)

theorem beginSending (h : Upkeep Late Phase Asked Kept) {s : State} (hs : Kept s) : Kept (beginSending s) := by
  unfold Machine.beginSending; split
  · exact hs
  · exact h.kept_congr (s := s) rfl hs

theorem handFramer (h : Upkeep Late Phase Asked Kept) {s : State} (hs : Kept s) : Kept (handFramer s) := by
  unfold Machine.handFramer; split
  · split
    · exact h.beginSending hs
    · exact h.kept_congr (s := s) rfl hs
  · exact hs

theorem framerRest (h : Upkeep Late Phase Asked Kept) {s : State} (hs : Kept s) : Kept (framerRest s) := by
  unfold Machine.framerRest; split
  · exact h.kept_congr (s := s) rfl hs
  · exact hs

theorem fillSlot (h : Upkeep Late Phase Asked Kept) (k : NoticeKind) {s : State} (hs : Asked s) : Kept (fillSlot k s) := by
  have asked : Asked { s with share := { s.share with raiseReady := none } } := h.asked_congr (s := s) rfl hs
  exact h.handFramer (h.kept_congr (s := Machine.compute _) rfl (h.compute asked))

theorem loadNotice (h : Upkeep Late Phase Asked Kept) (k : NoticeKind) {s : State} (hs : Kept s) :
    Kept (loadNotice k s) := by
  unfold Machine.loadNotice; split
  · exact h.kept_congr (s := s) rfl hs
  · exact h.fillSlot _ (h.asked_congr (s := s) rfl (h.asked_of_kept hs))

theorem refreshSlot (h : Upkeep Late Phase Asked Kept) {s : State} (hs : Kept s) : Kept (refreshSlot s) := by
  unfold Machine.refreshSlot; split
  · exact hs
  · exact h.fillSlot _ (h.asked_of_kept hs)

theorem endAttempt (h : Upkeep Late Phase Asked Kept) {s : State} (hs : Kept s) : Kept (endAttempt s) := by
  have ended : Kept { s with member := { s.member with inFlight := false, heldOver := none } } :=
    h.kept_congr (s := s) rfl hs
  unfold Machine.endAttempt; dsimp only; split
  · exact h.loadNotice _ ended
  · exact h.refreshSlot ended

theorem startHold (h : Upkeep Late Phase Asked Kept) (originated : Bool) {s : State} (hs : Kept s) :
    Kept (startHold originated s) := by
  unfold Machine.startHold; split
  · exact hs
  · exact h.compute (h.asked_congr (s := s) rfl (h.asked_of_kept hs))

theorem clearLineFree (h : Upkeep Late Phase Asked Kept) {s : State} (hs : Kept s) : Kept (clearLineFree s) := by
  unfold Machine.clearLineFree; split
  · exact h.kept_congr (s := s) rfl hs
  · exact hs

/-! ## Handing over, and the cycle -/

theorem handOver (h : Upkeep Late Phase Asked Kept) {s : State} (hs : Phase s) : Kept (handOver s) := by
  have formed : Asked { s with request := formRequest s } := h.asked hs
  unfold Machine.handOver wantRise; dsimp only; split
  · exact h.settle formed
  · split
    · exact h.loadNotice _ (h.compute formed)
    · exact h.compute formed

theorem handOver_leaveTo (h : Upkeep Late Phase Asked Kept) {st : CycleState} (ha : Away st) {s : State} (hs : Late s) :
    Kept (Machine.handOver (leaveTo st s)) :=
  h.handOver (h.left ha hs)

/-! ## The Fault Unit and the phases -/

theorem cycleOnClass (h : Upkeep Late Phase Asked Kept) {s : State} (hs : Phase s) : Kept (cycleOnClass s) := by
  have stay : Kept (Machine.handOver s) := h.handOver hs
  unfold Machine.cycleOnClass haltCycle holdCycle
  split
  · split
    all_goals first
      | exact stay
      | exact h.handOver_leaveTo (.inr (.inl rfl)) (h.late_of_phase hs)
  · split
    · next hst => exact h.handOver (h.held hst (h.late_of_phase hs))
    · exact stay
  · exact stay
  · exact stay

theorem raiseFault (h : Upkeep Late Phase Asked Kept) (k : FaultKind) {s : State} (hs : Asked s) :
    Kept (raiseFault k s) := by
  have raised : Asked { s with faults := raiseInto k s.faults } := h.asked_congr (s := s) rfl hs
  unfold Machine.raiseFault; dsimp only; split
  · exact h.settle raised
  · exact h.cycleOnClass (h.phase_congr (phaseView_activate _) (h.phase_of_asked raised))

theorem checkWater (h : Upkeep Late Phase Asked Kept) {s : State} (hs : Kept s) : Kept (checkWater s) := by
  unfold Machine.checkWater; split
  · exact h.raiseFault _ (h.asked_of_kept hs)
  · exact hs

theorem enterPhase (h : Upkeep Late Phase Asked Kept) {p : Fin 8} {i : Nat} {r : Record} {s : State}
    (hst : s.cycle.st = .idle ∨ s.cycle.st = .running) (hr : readRom p i = some r) (hs : Late s) :
    Kept (enterPhase i r { s with cycle := { s.cycle with programme := p } }) :=
  h.checkWater (h.handOver (h.entered hst hr hs))

theorem completeCycle (h : Upkeep Late Phase Asked Kept) {s : State} (hs : Late s) : Kept (completeCycle s) :=
  h.kept_congr (s := Machine.handOver (leaveTo .done s)) rfl (h.handOver_leaveTo (.inr (.inr (.inl rfl))) hs)

theorem endPhase (h : Upkeep Late Phase Asked Kept) {s : State} (hst : s.cycle.st = .running) (hs : Late s) :
    Kept (endPhase s) := by
  unfold Machine.endPhase; split
  · next r hr => exact h.enterPhase (.inr hst) hr hs
  · exact h.completeCycle hs

/-- Where the dry point is due the phase ends, and elsewhere the state is as sound as it was. -/
theorem checkDryPoint_of_late (h : Upkeep Late Phase Asked Kept) {s : State} (hs : Late s) (hk : ¬Overdue s → Kept s) :
    Kept (checkDryPoint s) := by
  unfold Machine.checkDryPoint; split
  · next due => exact h.endPhase due.1 hs
  · next timely => exact hk timely

theorem checkDryPoint (h : Upkeep Late Phase Asked Kept) {s : State} (hs : Kept s) : Kept (checkDryPoint s) :=
  h.checkDryPoint_of_late (h.late_of_phase (h.phase_of_kept hs)) fun _ => hs

theorem returnToRunning (h : Upkeep Late Phase Asked Kept) {s : State} (hst : s.cycle.st = .held) (hs : Phase s) :
    Kept (returnToRunning s) := by
  have running : Late (runOn s) := h.run hst (h.late_of_phase hs)
  refine h.checkWater (h.checkDryPoint_of_late (h.onLate.handOver running) fun timely => ?_)
  exact h.handOver (h.phase_of_late running (mt (overdue_congr (phaseView_handOver (runOn s))).2 timely))

theorem withdrawCore (h : Upkeep Late Phase Asked Kept) (k : FaultKind) {s : State} (hs : Asked s) :
    Kept (withdrawCore k s) := by
  have withdrawn : Asked { s with faults := withdrawFrom k s.faults } := h.asked_congr (s := s) rfl hs
  have active : Phase (activate { s with faults := withdrawFrom k s.faults }) :=
    h.phase_congr (phaseView_activate _) (h.phase_of_asked withdrawn)
  unfold Machine.withdrawCore; dsimp only; split
  · exact h.settle withdrawn
  · unfold cycleOnFall; split
    · next fall => exact h.returnToRunning fall.2.1 active
    · exact h.cycleOnClass active

theorem checkLock (h : Upkeep Late Phase Asked Kept) {s : State} (hs : Kept s) : Kept (checkLock s) := by
  unfold Machine.checkLock; split
  · exact h.withdrawCore _ (h.asked_of_kept hs)
  · exact hs

theorem withdrawFault (h : Upkeep Late Phase Asked Kept) (k : FaultKind) {s : State} (hs : Asked s) :
    Kept (withdrawFault k s) :=
  h.checkLock (h.withdrawCore k hs)

theorem reportFault (h : Upkeep Late Phase Asked Kept) (k : FaultKind) (holds : Bool) {s : State} (hs : Kept s) :
    Kept (reportFault k holds s) := by
  unfold Machine.reportFault; split
  · exact hs
  · split
    · exact h.checkLock (h.raiseFault k (h.asked_of_kept hs))
    · exact h.withdrawFault k (h.asked_of_kept hs)

theorem evalOverTemp (h : Upkeep Late Phase Asked Kept) {s : State} (hs : Kept s) : Kept (evalOverTemp s) :=
  h.reportFault _ _ (h.kept_congr (s := s) rfl hs)

/-! ## Membership -/

theorem setMember (h : Upkeep Late Phase Asked Kept) (m : MemberState) {s : State} (hs : Asked s) : Kept (setMember m s) :=
  h.compute (h.asked_congr (s := s) rfl hs)

theorem setTable (h : Upkeep Late Phase Asked Kept) (t : List Entry) {s : State} (hs : Kept s) : Kept (setTable t s) :=
  h.compute (h.asked_of_kept (h.reportFault .bankOverflow _ (h.kept_congr (s := s) rfl hs)))

theorem enterJoinListen (h : Upkeep Late Phase Asked Kept) {s : State} (hs : Asked s) : Kept (enterJoinListen s) :=
  h.setMember _ (h.asked_congr (s := s) rfl hs)

theorem enterStandby (h : Upkeep Late Phase Asked Kept) {s : State} (hs : Asked s) : Kept (enterStandby s) := by
  have away : ∀ {u : State}, requestView u = requestView s → Kept (Machine.setTable emptyTable (Machine.setMember .standby u)) :=
    fun hu => h.setTable _ (h.setMember _ (h.asked_congr hu hs))
  unfold Machine.enterStandby; dsimp only; split
  · exact h.enterJoinListen (h.asked_of_kept (away rfl))
  · exact away rfl

theorem enterIsolated (h : Upkeep Late Phase Asked Kept) {s : State} (hs : Kept s) : Kept (enterIsolated s) :=
  h.setMember _ (h.asked_of_kept (h.reportFault .lineIsolated true (h.kept_congr (s := s) rfl hs)))

theorem exitIsolated (h : Upkeep Late Phase Asked Kept) {s : State} (hs : Kept s) : Kept (exitIsolated s) :=
  h.enterJoinListen (h.asked_of_kept (h.setTable emptyTable (h.kept_congr (s := s) rfl hs)))

theorem enterDuplicate (h : Upkeep Late Phase Asked Kept) {s : State} (hs : Asked s) : Kept (enterDuplicate s) :=
  h.reportFault _ _ (h.setMember _ (h.asked_congr (s := s) rfl hs))

theorem enterJoinAsk (h : Upkeep Late Phase Asked Kept) {s : State} (hs : Asked s) : Kept (enterJoinAsk s) :=
  h.loadNotice _ (h.setMember _ (h.asked_congr (s := s) rfl hs))

theorem enterJoinConfirm (h : Upkeep Late Phase Asked Kept) {s : State} (hs : Asked s) : Kept (enterJoinConfirm s) :=
  h.loadNotice _ (h.setMember _ hs)

theorem enterMember (h : Upkeep Late Phase Asked Kept) (held : Nat) {s : State} (hs : Asked s) :
    Kept (enterMember held s) := by
  have joined : ∀ {u : State}, requestView u = requestView s →
      Kept (Machine.reportFault .lineIsolated false (Machine.setMember .member u)) :=
    fun hu => h.reportFault _ _ (h.setMember _ (h.asked_congr hu hs))
  unfold Machine.enterMember; dsimp only; split
  · exact h.loadNotice _ (joined rfl)
  · exact joined rfl

theorem memberPower (h : Upkeep Late Phase Asked Kept) {s : State} (hs : Kept s) : Kept (memberPower s) := by
  have asked := h.asked_of_kept hs
  unfold Machine.memberPower; split
  all_goals first
    | exact hs
    | exact h.kept_congr (s := s) rfl hs
    | exact h.enterStandby asked
    | exact h.loadNotice _ (h.setMember _ asked)
    | exact h.enterJoinListen asked

theorem ownAddress (h : Upkeep Late Phase Asked Kept) (k : NoticeKind) {s : State} (hs : Kept s) : Kept (ownAddress k s) := by
  have defended : Kept (defendAddress s) := by
    unfold defendAddress; split
    · exact h.loadNotice _ (h.kept_congr (s := s) rfl hs)
    · exact h.loadNotice _ hs
  have duplicate : Kept (Machine.enterDuplicate s) := h.enterDuplicate (h.asked_of_kept hs)
  have asked : Kept (if k = .joinAsk then defendAddress s else Machine.enterDuplicate s) := by
    split
    · exact defended
    · exact duplicate
  unfold Machine.ownAddress; split
  all_goals first
    | exact hs
    | exact asked
    | exact duplicate

theorem deliver (h : Upkeep Late Phase Asked Kept) (addr : Nat) (n : Notice) {s : State} (hs : Kept s) :
    Kept (deliver addr n s) := by
  unfold Machine.deliver; dsimp only; split
  · have seen : Kept (frameSeen s) := h.clearLineFree (h.kept_congr (s := s) rfl hs)
    refine h.framerRest (h.endAttempt ?_)
    split
    · exact h.ownAddress _ seen
    · exact h.setTable _ seen
  · exact hs

end Upkeep
end Sys2Proof.Machine

namespace Sys2Proof.Machine

/-! PROOFS. Upkeep of the commands: an invariant that the shared operations keep is kept by every step, once each place where a
command changes the cycle, the dry watch, the gates or a lamp by itself is met. -/

/-! ## What single commands make of the state -/

/-- RUNNING or HELD paused on a context (R37, R56). -/
def pausedPhase (s : State) : State :=
  { s with
    cycle :=
      { s.cycle with
        st := .paused, second := none, starved := false, starvedSecs := 0, boost := 0, latch := false,
        context := some (pauseContext s), pause := some pauseMs }
    climate := watchOff s.climate }

/-- A paused phase restored from its context (R38). -/
def resumedPhase (x : PauseContext) (s : State) : State :=
  { s with
    cycle :=
      { s.cycle with
        st := .running, index := x.index, record := readRom s.cycle.programme x.index, remaining := x.remaining,
        boost := x.boost, latch := true, starved := false, starvedSecs := 0, second := some secondMs, context := none,
        pause := none }
    climate := watchResume (readRom s.cycle.programme x.index) x.peak s.climate }

/-- The cycle cooling after a CANCEL, its timer started (R41). -/
def coolingCycle (s : State) : State :=
  let u := leaveTo .cancelCool s
  { u with cycle := { u.cycle with cancelCool := some cancelCoolMs } }

/-- A humidity sample in the ring and at the dry watch (R51, R54, R55). -/
def sampledWatch (v : Nat) (s : State) : State :=
  { s with
    climate :=
      watchSample v
        { s.climate with
          humidityValid := true, ring := pushRing s.climate.ring v, sampleTimer := some humiditySampleMs } }

theorem phaseView_sampleProbes (r0 r1 r2 : Int) (s : State) :
    phaseView { s with climate := sampleProbes r0 r1 r2 s.climate } = phaseView s := by
  unfold phaseView sampleProbes; dsimp only; split <;> rfl

/-- What every command needs of an invariant to keep it. -/
structure StepUpkeep (Late Phase Asked Kept : State → Prop) : Prop extends Upkeep Late Phase Asked Kept where
  reset : ∀ {s}, s.cycle = Cycle.reset → s.climate = Climate.reset → s.request = Request.reset → Asked s
  fired : ∀ {s}, Kept s → Kept (halfCycleEvent s)
  released : ∀ {s}, Kept s → Kept { s with loads := releaseLoads s.loads }
  toggled : ∀ {s}, Kept s → Kept { s with panel := { s.panel with phaseLamp := s.panel.phaseLamp.toggled } }
  warmedUp : ∀ {s}, s.climate.warmUp.isSome → Kept s →
    Kept { s with climate := { s.climate with watch := .tracking, warmUp := none, tracking := some trackingMs } }
  tracked : ∀ {s}, s.climate.tracking.isSome → Kept s →
    Kept { s with climate := { s.climate with watch := .testing, tracking := none } }
  sampled : ∀ {s v}, Kept s → Kept (Machine.checkDryPoint (Machine.reportFault .humidityFault false (sampledWatch v s)))
  ticked : ∀ {s n}, s.cycle.st = .running → Kept s →
    Kept { s with cycle := { s.cycle with second := some secondMs, remaining := n } }
  starving : ∀ {s}, s.cycle.st = .running → Phase s →
    Phase { s with cycle := starvedSecond { s.cycle with second := some secondMs } }
  latched : ∀ {s b}, Phase s → Phase { s with cycle := { s.cycle with latch := b } }
  paused : ∀ {s}, s.cycle.st = .running ∨ s.cycle.st = .held → Phase s → Phase (pausedPhase s)
  resumed : ∀ {s x}, s.cycle.st = .paused → s.cycle.context = some x → Phase s → Phase (resumedPhase x s)
  cooled : ∀ {s}, Phase s → Phase (coolingCycle s)

namespace StepUpkeep

variable {Late Phase Asked Kept : State → Prop}

/-! ## Door, water, lock and fan -/

/-- Leaving the phase for IDLE or STANDBY, with the lock looked at. -/
theorem leftAndHanded (h : StepUpkeep Late Phase Asked Kept) {st : CycleState} (ha : Away st) {s : State} (hs : Phase s) :
    Kept (checkLock (handOver (leaveTo st s))) :=
  h.checkLock (h.handOver_leaveTo ha (h.late_of_phase hs))

theorem doorOpened (h : StepUpkeep Late Phase Asked Kept) {s : State} (hs : Asked s) : Kept (doorOpened s) := by
  have phase := h.phase_of_asked hs
  unfold Machine.doorOpened; split
  · next hst => exact h.checkLock (h.handOver (h.paused (.inl hst) phase))
  · next hst => exact h.checkLock (h.handOver (h.paused (.inr hst) phase))
  · exact h.leftAndHanded (.inl rfl) phase
  all_goals exact h.settle hs

theorem waterReported (h : StepUpkeep Late Phase Asked Kept) {s : State} (hs : Phase s) : Kept (waterReported s) := by
  have handed : Kept (handOver s) := h.handOver hs
  unfold Machine.waterReported; split
  · exact h.checkLock (h.checkWater handed)
  · exact h.reportFault _ _ handed

theorem lockReported (h : StepUpkeep Late Phase Asked Kept) (was : Bool) {s : State} (hs : Asked s) :
    Kept (lockReported was s) :=
  h.checkLock (h.settle (h.asked_congr (s := s) rfl hs))

theorem lockConfirmExpiry (h : StepUpkeep Late Phase Asked Kept) {s : State} (hs : Kept s) : Kept (lockConfirmExpiry s) := by
  unfold Machine.lockConfirmExpiry; split
  · exact h.reportFault _ _ (h.kept_congr (s := s) rfl hs)
  · exact hs

theorem tachPulse (h : StepUpkeep Late Phase Asked Kept) {s : State} (hs : Kept s) : Kept (tachPulse s) := by
  unfold Machine.tachPulse; split
  · exact hs
  · exact h.reportFault _ _ (h.settle (h.asked_congr (s := s) rfl (h.asked_of_kept hs)))

theorem tachExpiry (h : StepUpkeep Late Phase Asked Kept) {s : State} (hs : Kept s) : Kept (tachExpiry s) := by
  unfold Machine.tachExpiry; split
  · exact h.reportFault _ _ (h.settle (h.asked_congr (s := s) rfl (h.asked_of_kept hs)))
  · exact hs

/-! ## Climate -/

theorem climateUpdate (h : StepUpkeep Late Phase Asked Kept) {s : State} (hs : Phase s) : Kept (climateUpdate s) := by
  have latched : Phase { s with cycle := { s.cycle with latch := latchNext s.cycle s.climate.tr } } := h.latched hs
  unfold Machine.climateUpdate; dsimp only; split
  · exact h.leftAndHanded (.inl rfl) latched
  · exact h.checkLock (h.handOver latched)

/-- The faults of a round are reported before its new Tmax reaches the requests: until then only the phase is kept. -/
theorem probeRound (h : StepUpkeep Late Phase Asked Kept) (r0 r1 r2 : Int) {s : State} (hs : Phase s) :
    Kept (probeRound r0 r1 r2 s) :=
  h.climateUpdate
    (h.onPhase.evalOverTemp
      (h.onPhase.reportFault _ _
        (h.onPhase.reportFault .probeDegraded _ (h.phase_congr (phaseView_sampleProbes r0 r1 r2 s) hs))))

theorem humidityReading (h : StepUpkeep Late Phase Asked Kept) (r : Int) {s : State} (hs : Kept s) :
    Kept (humidityReading r s) := by
  unfold Machine.humidityReading; split
  · exact h.reportFault _ _ (h.kept_congr (s := s) rfl hs)
  · exact h.checkLock (h.sampled hs)

theorem warmUpExpiry (h : StepUpkeep Late Phase Asked Kept) {s : State} (hs : Kept s) : Kept (warmUpExpiry s) := by
  unfold Machine.warmUpExpiry; split
  · next hw => exact h.warmedUp hw hs
  · exact hs

theorem trackingExpiry (h : StepUpkeep Late Phase Asked Kept) {s : State} (hs : Kept s) : Kept (trackingExpiry s) := by
  unfold Machine.trackingExpiry; split
  · next ht => exact h.tracked ht hs
  · exact hs

/-! ## Keys and the cycle's timers -/

theorem cycleStart (h : StepUpkeep Late Phase Asked Kept) (p : Fin 8) {s : State} (hs : Kept s) : Kept (cycleStart p s) := by
  have phase : Phase s := h.phase_of_kept hs
  have started (hst : s.cycle.st = .idle) : Kept (startCycle p s) := by
    unfold startCycle; split
    · exact hs
    · next r hr => exact h.enterPhase (s := endDisplay s) (.inl hst) hr (h.late_congr (s := s) rfl (h.late_of_phase phase))
  have resumed (hst : s.cycle.st = .paused) : Kept (resumeCycle s) := by
    unfold resumeCycle; split
    · exact hs
    · next x hx => exact h.checkWater (h.handOver (h.resumed hst hx phase))
  unfold Machine.cycleStart; split
  · next hst =>
    split
    · exact h.checkLock (started hst)
    · exact hs
  · next hst =>
    split
    · exact h.checkLock (resumed hst)
    · exact hs
  all_goals exact hs

theorem cycleCancel (h : StepUpkeep Late Phase Asked Kept) {s : State} (hs : Kept s) : Kept (cycleCancel s) := by
  have phase : Phase s := h.phase_of_kept hs
  have idled : Kept (checkLock (handOver (leaveTo .idle s))) := h.leftAndHanded (.inl rfl) phase
  have stopped : Kept (checkLock (if coolTemp ≤ s.climate.tmax then enterCancelCool s else handOver (leaveTo .idle s))) := by
    split
    · exact h.checkLock (h.handOver (h.cooled phase))
    · exact idled
  have unhalted : Kept (if s.faults.activeClass = some .a then s else checkLock (handOver (leaveTo .idle s))) := by
    split
    · exact hs
    · exact idled
  unfold Machine.cycleCancel; split
  all_goals first
    | exact hs
    | exact stopped
    | exact unhalted
    | exact idled

theorem cyclePower (h : StepUpkeep Late Phase Asked Kept) {s : State} (hs : Kept s) : Kept (cyclePower s) := by
  have left : ∀ {st}, Away st → Kept (memberPower (checkLock (handOver (leaveTo st s)))) := fun ha =>
    h.memberPower (h.leftAndHanded ha (h.phase_of_kept hs))
  unfold Machine.cyclePower; split
  all_goals first
    | exact hs
    | exact left (.inr (.inr (.inr rfl)))
    | exact left (.inl rfl)

theorem startPress (h : StepUpkeep Late Phase Asked Kept) (sel2 sel1 sel0 : Bool) {s : State} (hs : Kept s) :
    Kept (startPress sel2 sel1 sel0 s) := by
  have clicked : Kept (sound .click { s with panel := { s.panel with start := KeyLine.steady true } }) :=
    h.kept_congr (s := s) rfl hs
  unfold Machine.startPress; dsimp only; split
  · split
    · exact h.cycleStart _ clicked
    · exact clicked
  · exact hs

theorem cancelPress (h : StepUpkeep Late Phase Asked Kept) {s : State} (hs : Kept s) : Kept (cancelPress s) := by
  have clicked : Kept (sound .click
      { s with panel := { s.panel with cancel := KeyLine.steady true, longPress := some longPressMs } }) :=
    h.kept_congr (s := s) rfl hs
  unfold Machine.cancelPress; dsimp only; split
  · split
    · exact h.cycleCancel clicked
    · exact clicked
  · exact hs

theorem powerPress (h : StepUpkeep Late Phase Asked Kept) {s : State} (hs : Kept s) : Kept (powerPress s) := by
  have clicked : Kept (sound .click { s with panel := { s.panel with power := KeyLine.steady true } }) :=
    h.kept_congr (s := s) rfl hs
  unfold Machine.powerPress; dsimp only; split
  · split
    · exact h.cyclePower clicked
    · exact clicked
  · exact hs

theorem secondExpiry (h : StepUpkeep Late Phase Asked Kept) {s : State} (hs : Kept s) : Kept (secondExpiry s) := by
  unfold Machine.secondExpiry; dsimp only; split
  · next due =>
    obtain ⟨-, hst⟩ := due
    have ticked : Kept { s with cycle := { s.cycle with second := some secondMs, remaining := s.cycle.remaining - 1 } } :=
      h.ticked hst hs
    split
    · exact h.handOver (h.starving hst (h.phase_of_kept hs))
    · split
      · exact h.checkLock (h.endPhase hst (h.late_of_phase (h.phase_of_kept ticked)))
      · exact ticked
  · exact hs

theorem pauseExpiry (h : StepUpkeep Late Phase Asked Kept) {s : State} (hs : Kept s) : Kept (pauseExpiry s) := by
  unfold Machine.pauseExpiry; split
  · exact h.kept_congr (s := checkLock (handOver (leaveTo .idle s))) rfl (h.leftAndHanded (.inl rfl) (h.phase_of_kept hs))
  · exact hs

theorem cancelCoolExpiry (h : StepUpkeep Late Phase Asked Kept) {s : State} (hs : Kept s) : Kept (cancelCoolExpiry s) := by
  unfold Machine.cancelCoolExpiry; split
  · exact h.leftAndHanded (.inl rfl) (h.phase_of_kept hs)
  · exact hs

/-! ## The panel -/

theorem keyRelease (h : StepUpkeep Late Phase Asked Kept) (key : Key) {s : State} (hs : Kept s) : Kept (keyRelease key s) := by
  unfold Machine.keyRelease; split
  · cases key <;> exact h.kept_congr (s := s) rfl hs
  · exact hs

theorem longPress (h : StepUpkeep Late Phase Asked Kept) {s : State} (hs : Kept s) : Kept (longPress s) := by
  unfold Machine.longPress; dsimp only; split
  · split <;> exact h.kept_congr (s := s) rfl hs
  · exact hs

theorem displayStep (h : StepUpkeep Late Phase Asked Kept) {s : State} (hs : Kept s) : Kept (displayStep s) := by
  unfold Machine.displayStep; split
  · exact hs
  · split <;> exact h.kept_congr (s := s) rfl hs

/-! ## The Share Line -/

theorem discardFrame (h : StepUpkeep Late Phase Asked Kept) {s : State} (hs : Kept s) : Kept (discardFrame s) := by
  unfold Machine.discardFrame; split
  · exact h.framerRest (h.endAttempt (h.clearLineFree (h.kept_congr (s := s) rfl hs)))
  · exact hs

theorem idleHoldExpiry (h : StepUpkeep Late Phase Asked Kept) {s : State} (hs : Kept s) : Kept (idleHoldExpiry s) := by
  unfold Machine.idleHoldExpiry; split
  · split
    all_goals first
      | exact hs
      | exact h.beginSending hs
      | exact h.kept_congr (s := s) rfl hs
  · exact hs

theorem loseArbitration (h : StepUpkeep Late Phase Asked Kept) (bit : Nat) {s : State} (hs : Kept s) :
    Kept (loseArbitration bit s) := by
  unfold Machine.loseArbitration; split
  · exact hs
  · split
    · exact h.kept_congr (s := s) rfl hs
    · exact hs

theorem completionAction (h : StepUpkeep Late Phase Asked Kept) (n : Notice) {s : State} (hs : Kept s) :
    Kept (completionAction n s) := by
  have asked : Asked s := h.asked_of_kept hs
  unfold Machine.completionAction
  cases n with
  | joinAsk =>
    cases s.member.st with
    | joinAsk => exact h.setMember _ (h.asked_congr (s := s) rfl asked)
    | _ => exact hs
  | joinConfirm =>
    cases s.member.st with
    | joinConfirm => exact h.enterMember _ asked
    | _ => exact hs
  | leave =>
    cases s.member.st with
    | leaving => exact h.enterStandby asked
    | _ => exact hs
  | _ => exact hs

theorem loadHeldOver (h : StepUpkeep Late Phase Asked Kept) {s : State} (hs : Kept s) : Kept (loadHeldOver s) := by
  unfold Machine.loadHeldOver; split
  · exact hs
  · exact h.loadNotice _ (h.kept_congr (s := s) rfl hs)

theorem complete (h : StepUpkeep Late Phase Asked Kept) (n : Notice) {s : State} (hs : Kept s) : Kept (complete n s) :=
  h.framerRest (h.loadHeldOver (h.completionAction n (h.kept_congr (s := s) rfl hs)))

theorem loseLine (h : StepUpkeep Late Phase Asked Kept) {otherwise : State → State} {s : State} (hs : Kept s)
    (ho : Kept (otherwise s)) : Kept (loseLine otherwise s) := by
  unfold Machine.loseLine; split
  all_goals first
    | exact ho
    | exact h.enterIsolated hs
    | exact h.enterStandby (h.asked_of_kept hs)

theorem failAttempt (h : StepUpkeep Late Phase Asked Kept) {s : State} (hs : Kept s) : Kept (failAttempt s) := by
  unfold Machine.failAttempt; dsimp only; split
  · exact hs
  · have failed : Kept
        { s with framer := touchLine { s.framer with failures := min (s.framer.failures + 1) failureLimit } } :=
      h.kept_congr (s := s) rfl hs
    refine h.framerRest ?_
    split
    · exact h.loseLine failed (h.endAttempt failed)
    · exact h.endAttempt failed

theorem markSeen (h : StepUpkeep Late Phase Asked Kept) (ownPulse inFrame : Bool) {s : State} (hs : Kept s) :
    Kept (markSeen ownPulse inFrame s) := by
  have seen : Kept (clearLineFree { s with framer := touchLine { s.framer with drive := none } }) :=
    h.clearLineFree (h.kept_congr (s := s) rfl hs)
  have held : ∀ {u : State}, Kept u → ∀ own : Bool, Kept (if own then u else startHold false u) := by
    intro u hu own
    split
    · exact hu
    · exact h.startHold false hu
  unfold Machine.markSeen; dsimp only; split
  · refine h.framerRest ?_
    split
    · exact h.endAttempt (held seen _)
    · exact held seen _
  · exact hs

theorem stuckLine (h : StepUpkeep Late Phase Asked Kept) {s : State} (hs : Kept s) : Kept (stuckLine s) := by
  have stuck : Kept { s with framer := framerStuck s.framer, member := { s.member with inFlight := false } } :=
    h.kept_congr (s := s) rfl hs
  unfold Machine.stuckLine; split
  · exact hs
  · exact h.loseLine stuck (h.clearLineFree stuck)

theorem releaseStuck (h : StepUpkeep Late Phase Asked Kept) {s : State} (hs : Kept s) : Kept (releaseStuck s) := by
  unfold Machine.releaseStuck; split
  · exact h.kept_congr (s := s) rfl hs
  · exact hs

theorem lineFreed (h : StepUpkeep Late Phase Asked Kept) {s : State} (hs : Kept s) : Kept (lineFreed s) := by
  have freed : Kept { s with framer := { s.framer with lineFreed := none } } := h.kept_congr (s := s) rfl hs
  unfold Machine.lineFreed; dsimp only; split
  · split
    · split
      · exact h.kept_congr (s := s) rfl hs
      · exact h.exitIsolated freed
    · exact freed
  · exact hs

/-! ## Mains -/

theorem sagTest (h : StepUpkeep Late Phase Asked Kept) (dominant : Nat) {s : State} (hs : Kept s) :
    Kept (sagTest dominant s) := by
  have marked : ∀ {u : State}, Kept u → Kept (requestMark dominant u) := by
    intro u hu; unfold requestMark; split
    · exact hu
    · exact h.kept_congr (s := u) rfl hu
  unfold Machine.sagTest; dsimp only; split
  · split
    · exact h.startHold true (marked (h.kept_congr (s := s) rfl hs))
    · exact h.kept_congr (s := s) rfl hs
  · exact h.kept_congr (s := s) rfl hs

theorem judgeLearning (h : StepUpkeep Late Phase Asked Kept) {s : State} (hs : Kept s) : Kept (judgeLearning s) := by
  have joining : ∀ f : Feeder, Kept (enterJoinListen { s with feeder := f }) := fun f =>
    h.enterJoinListen (h.asked_congr (s := s) rfl (h.asked_of_kept hs))
  unfold Machine.judgeLearning; dsimp only; split
  · split
    · exact joining _
    · exact h.fired (joining _)
  · exact h.reportFault _ _ (h.kept_congr (s := s) rfl hs)

theorem learnCross (h : StepUpkeep Late Phase Asked Kept) (since : Nat) {s : State} (hs : Kept s) :
    Kept (learnCross since s) := by
  have closed : Kept { s with
      feeder := { s.feeder with intervals := s.feeder.intervals ++ [since], peaks := s.feeder.peaks ++ [s.feeder.peak] } } :=
    h.kept_congr (s := s) rfl hs
  unfold Machine.learnCross; dsimp only; split
  · split
    · exact h.judgeLearning closed
    · exact closed
  · exact h.kept_congr (s := s) rfl hs

theorem runningCross (h : StepUpkeep Late Phase Asked Kept) (dominant : Nat) {s : State} (hs : Kept s) :
    Kept (runningCross dominant s) := by
  have tested : Kept (if s.feeder.halfOpen then Machine.sagTest dominant s else s) := by
    split
    · exact h.sagTest dominant hs
    · exact hs
  exact h.fired (h.kept_congr (s := if s.feeder.halfOpen then Machine.sagTest dominant s else s) rfl tested)

theorem lostCross (h : StepUpkeep Late Phase Asked Kept) {s : State} (hs : Kept s) : Kept (lostCross s) := by
  unfold Machine.lostCross; split
  · exact hs
  · exact h.kept_congr (s := s) rfl hs

theorem zeroCross (h : StepUpkeep Late Phase Asked Kept) (since dominant : Nat) {s : State} (hs : Kept s) :
    Kept (zeroCross since dominant s) := by
  have crossed : ∀ {u : State}, Kept u → Kept (crossTaken u) := fun {u} hu => h.kept_congr (s := u) rfl hu
  unfold Machine.zeroCross; split
  · split
    · exact hs
    · exact crossed (h.learnCross since hs)
    · exact crossed (h.runningCross dominant hs)
    · exact crossed (h.lostCross hs)
  · exact hs

theorem watchdogExpiry (h : StepUpkeep Late Phase Asked Kept) {s : State} (hs : Kept s) : Kept (watchdogExpiry s) := by
  unfold Machine.watchdogExpiry; split
  · split
    · exact hs
    · exact h.reportFault _ _ (h.kept_congr (s := s) rfl hs)
    · exact h.reportFault _ _ (h.kept_congr (s := { s with loads := releaseLoads s.loads }) rfl (h.released hs))
    · exact h.kept_congr (s := s) rfl hs
  · exact hs

theorem resumeExpiry (h : StepUpkeep Late Phase Asked Kept) {s : State} (hs : Kept s) : Kept (resumeExpiry s) := by
  unfold Machine.resumeExpiry; split
  · exact h.reportFault _ _ (h.kept_congr (s := s) rfl hs)
  · exact hs

/-! ## Sharing and membership -/

theorem memberPeriod (h : StepUpkeep Late Phase Asked Kept) {s : State} (hs : Kept s) : Kept (memberPeriod s) := by
  have counted : Kept { s with member := { s.member with periodCount := s.member.periodCount + 1 } } :=
    h.kept_congr (s := s) rfl hs
  have told : Kept (cadence s) := by
    unfold cadence; split
    · split
      · exact h.loadNotice _ (h.kept_congr (s := s) rfl hs)
      · exact h.kept_congr (s := s) rfl hs
    · exact h.loadNotice _ (h.kept_congr (s := s) rfl hs)
  unfold Machine.memberPeriod; dsimp only; split
  · split
    · exact h.enterJoinAsk (h.asked_of_kept counted)
    · exact counted
  · split
    · exact h.enterJoinConfirm (h.asked_of_kept counted)
    · exact counted
  · exact told
  all_goals exact hs

theorem periodExpiry (h : StepUpkeep Late Phase Asked Kept) {s : State} (hs : Kept s) : Kept (periodExpiry s) := by
  have aged : Kept (ageTable s) := h.reportFault _ _ (h.kept_congr (s := s) rfl hs)
  unfold Machine.periodExpiry; split
  · exact h.memberPeriod (h.compute (h.asked_congr (s := ageTable s) rfl (h.asked_of_kept aged)))
  · exact hs

theorem raiseExpiry (h : StepUpkeep Late Phase Asked Kept) {s : State} (hs : Kept s) : Kept (raiseExpiry s) := by
  unfold Machine.raiseExpiry; split
  · exact hs
  · have computed : Kept (compute { s with share := { s.share with raiseReady := none } }) :=
      h.compute (h.asked_congr (s := s) rfl (h.asked_of_kept hs))
    exact h.settle (h.asked_congr (s := compute _) rfl (h.asked_of_kept computed))

theorem limitExpiry (h : StepUpkeep Late Phase Asked Kept) {s : State} (hs : Kept s) : Kept (limitExpiry s) := by
  unfold Machine.limitExpiry; split
  · exact h.compute (h.asked_congr (s := s) rfl (h.asked_of_kept hs))
  · exact hs

theorem dwellExpiry (h : StepUpkeep Late Phase Asked Kept) {s : State} (hs : Kept s) : Kept (dwellExpiry s) := by
  have dwelt : Kept { s with member := { s.member with dwell := none } } := h.kept_congr (s := s) rfl hs
  unfold Machine.dwellExpiry; dsimp only; split
  · split
    · exact h.exitIsolated dwelt
    · exact dwelt
  · exact hs

/-! ## Start-up -/

theorem freshStart (h : StepUpkeep Late Phase Asked Kept) (s : State) : Kept (freshStart s) :=
  h.settle (h.reset rfl rfl rfl)

theorem firstReadings (h : StepUpkeep Late Phase Asked Kept) (r0 r1 r2 rh : Int) {s : State} (hs : Kept s) :
    Kept (firstReadings r0 r1 r2 rh s) :=
  h.humidityReading rh (h.probeRound r0 r1 r2 (h.phase_of_kept hs))

theorem powerOn (h : StepUpkeep Late Phase Asked Kept) (r0 r1 r2 rh : Int) (s : State) : Kept (powerOn r0 r1 r2 rh s) :=
  h.firstReadings r0 r1 r2 rh (h.freshStart s)

theorem releaseReset (h : StepUpkeep Late Phase Asked Kept) (r0 r1 r2 rh : Int) (s : State) :
    Kept (releaseReset r0 r1 r2 rh s) := by
  have kept : Asked (keepLearned s (Machine.freshStart s)) :=
    h.asked_congr (s := Machine.freshStart s) rfl (h.asked_of_kept (h.freshStart s))
  unfold Machine.releaseReset; split
  · exact h.firstReadings r0 r1 r2 rh (h.enterJoinListen kept)
  · exact h.powerOn r0 r1 r2 rh s

theorem strapWindowEnd (h : StepUpkeep Late Phase Asked Kept) (addr : Fin 16) (cap : Fin 8) (bank : Fin 16) {s : State}
    (hs : Kept s) : Kept (strapWindowEnd addr cap bank s) := by
  unfold Machine.strapWindowEnd; split
  · exact h.kept_congr (s := s) rfl hs
  · exact hs

/-! ## One step -/

/-- The invariant outside reset, and its phase in reset too. -/
def Upheld (Phase Kept : State → Prop) (s : State) : Prop := Phase s ∧ (Live s → Kept s)

theorem upheld_of_kept (h : StepUpkeep Late Phase Asked Kept) {s : State} (hs : Kept s) : Upheld Phase Kept s :=
  ⟨h.phase_of_kept hs, fun _ => hs⟩

/-- A command whose effect keeps the invariant keeps it in reset too, where it takes at most the level of a line. -/
theorem upheld_of_live (h : StepUpkeep Late Phase Asked Kept) {f : State → State} {s u t : State}
    (hs : Upheld Phase Kept s) (hview : phaseView u = phaseView s) (hreset : u.inReset = s.inReset)
    (hf : Kept s → Kept (f u)) (e : live f u = .next t) : Upheld Phase Kept t := by
  obtain ⟨phase, kept⟩ := hs
  cases hr : s.inReset with
  | true =>
    rw [live_of_reset (hreset.trans hr), Host.Outcome.next.injEq] at e
    exact e ▸ ⟨h.phase_congr hview phase, fun hl => absurd (hl.symm.trans (hreset.trans hr)) (by decide)⟩
  | false =>
    rw [live_of_live (hreset.trans hr), Host.Outcome.next.injEq] at e
    exact e ▸ h.upheld_of_kept (hf (kept hr))

/-- Every command keeps the invariant. -/
theorem exec (h : StepUpkeep Late Phase Asked Kept) (c : Instr) {s t : State} (hs : Upheld Phase Kept s)
    (e : exec c s = .next t) : Upheld Phase Kept t := by
  have effect : ∀ {f : State → State}, (Kept s → Kept (f s)) → live f s = .next t → Upheld Phase Kept t :=
    fun hf => h.upheld_of_live hs rfl rfl hf
  have onLine : ∀ {f : State → State} (l : Lines), (Kept s → Kept (f { s with lines := l })) →
      live f { s with lines := l } = .next t → Upheld Phase Kept t :=
    fun l hf => h.upheld_of_live hs (u := { s with lines := l }) rfl rfl hf
  have asked (l : Lines) (hl : l.waterLow = s.lines.waterLow) (hk : Kept s) : Asked { s with lines := l } :=
    h.asked_congr (by simp [requestView, phaseView, hl]) (h.asked_of_kept hk)
  cases c with
  | powerOnReset p0 p1 p2 rh =>
    obtain rfl : Machine.powerOn p0 p1 p2 rh s = t := Host.Outcome.next.inj e
    exact h.upheld_of_kept (h.powerOn p0 p1 p2 rh s)
  | resetPinAssert =>
    obtain rfl : assertReset s = t := Host.Outcome.next.inj e
    exact ⟨h.phase_congr (s := s) rfl hs.1, fun hl => absurd hl (by simp [assertReset])⟩
  | resetPinRelease p0 p1 p2 rh =>
    obtain rfl : Machine.releaseReset p0 p1 p2 rh s = t := Host.Outcome.next.inj e
    exact h.upheld_of_kept (h.releaseReset p0 p1 p2 rh s)
  | strapWindowEnd addr cap bank => exact effect (h.strapWindowEnd addr cap bank) e
  | keyLineChange key pressed =>
    exact h.upheld_of_live hs (u := { s with panel := onKey key (fun k => { k with raw := pressed }) s.panel })
      (f := fun u => { u with panel := onKey key (rawLevel pressed) u.panel }) rfl rfl
      (fun hk => by cases key <;> exact h.kept_congr (s := s) rfl hk) e
  | startPress sel2 sel1 sel0 => exact effect (h.startPress sel2 sel1 sel0) e
  | cancelPress => exact effect h.cancelPress e
  | powerPress => exact effect h.powerPress e
  | keyRelease key => exact effect (h.keyRelease key) e
  | longPress => exact effect h.longPress e
  | historyDisplayStep => exact effect h.displayStep e
  | doorOpen => exact onLine { s.lines with doorOpen := true } (fun hk => h.doorOpened (asked _ rfl hk)) e
  | doorClose => exact onLine { s.lines with doorOpen := false } (fun hk => h.settle (asked _ rfl hk)) e
  | waterLevelChange adequate =>
    exact onLine { s.lines with waterLow := !adequate } (fun hk => h.waterReported (h.phase_congr (s := s) rfl (h.phase_of_kept hk))) e
  | lockSenseChange locked =>
    exact onLine { s.lines with locked } (fun hk => h.lockReported s.lines.locked (asked _ rfl hk)) e
  | tachPulse => exact effect h.tachPulse e
  | tripLineChange active =>
    exact onLine { s.lines with trip := active } (f := fun u => Machine.evalOverTemp (Machine.settle u))
      (fun hk => h.evalOverTemp (h.settle (asked _ rfl hk))) e
  | zeroCross since dominant => exact effect (h.zeroCross since dominant) e
  | zeroCrossWatchdogExpiry => exact effect h.watchdogExpiry e
  | resumeTimerExpiry => exact effect h.resumeExpiry e
  | probeRound p0 p1 p2 => exact effect (fun hk => h.probeRound p0 p1 p2 (h.phase_of_kept hk)) e
  | humiditySample rh => exact effect (h.humidityReading rh) e
  | warmUpExpiry => exact effect h.warmUpExpiry e
  | trackingExpiry => exact effect h.trackingExpiry e
  | secondTimerExpiry => exact effect h.secondExpiry e
  | pauseTimerExpiry => exact effect h.pauseExpiry e
  | cancelCoolTimerExpiry => exact effect h.cancelCoolExpiry e
  | sharePeriodExpiry => exact effect h.periodExpiry e
  | raiseReadyExpiry => exact effect h.raiseExpiry e
  | isolationLimitExpiry => exact effect h.limitExpiry e
  | isolationDwellExpiry => exact effect h.dwellExpiry e
  | tachWatchdogExpiry => exact effect h.tachExpiry e
  | lockConfirmExpiry => exact effect h.lockConfirmExpiry e
  | buzzerStep => exact effect (f := buzzerStep) (h.kept_congr (s := s) rfl) e
  | lampFlashToggle =>
    exact effect (f := fun u => { u with panel := { u.panel with phaseLamp := u.panel.phaseLamp.toggled } }) h.toggled e
  | idleHoldExpiry => exact effect h.idleHoldExpiry e
  | receiveDemand addr cls boost want claim draw => exact effect (h.deliver _ _) e
  | receivePresence addr => exact effect (h.deliver _ _) e
  | receiveJoinAsk addr nonce => exact effect (h.deliver _ _) e
  | receiveJoinConfirm addr nonce held => exact effect (h.deliver _ _) e
  | receiveLeave addr => exact effect (h.deliver _ _) e
  | frameDiscarded => exact effect h.discardFrame e
  | arbitrationLost bit => exact effect (h.loseArbitration bit) e
  | noticeCompletion =>
    unfold Machine.exec execNoticeCompletion at e
    refine effect (fun hk => ?_) e
    split
    · exact hk
    · exact h.complete _ hk
  | attemptFailed => exact effect h.failAttempt e
  | shedMarkSeen ownPulse inFrame => exact effect (h.markSeen ownPulse inFrame) e
  | lineStuck => exact effect h.stuckLine e
  | lineStuckRelease => exact effect h.releaseStuck e
  | lineFreed => exact effect h.lineFreed e
  | amplitudeSenseReading steps => exact effect (f := amplitudeReading steps.val) (h.kept_congr (s := s) rfl) e

/-- Every step keeps the invariant: a command by its effect, an idle step because the line shows in nothing it rests on. -/
theorem step (h : StepUpkeep Late Phase Asked Kept) {s t : State} (hs : Upheld Phase Kept s) (e : step s = .next t) :
    Upheld Phase Kept t := by
  obtain ⟨phase, kept⟩ := hs
  unfold Machine.step at e
  split at e
  · next c rest _ =>
    exact h.exec c (s := { s with pending := rest })
      ⟨h.phase_congr (s := s) rfl phase, fun hl => h.kept_congr (s := s) rfl (kept hl)⟩ e
  · obtain rfl : idle s = t := Host.Outcome.next.inj e
    have reads := (reads_idle s).1
    rw [reads]
    exact ⟨h.phase_congr (s := s) rfl phase, fun hl => h.kept_congr (s := s) rfl (kept hl)⟩

end StepUpkeep
end Sys2Proof.Machine

namespace Sys2Proof.Machine

/-! PROOFS. Three invariants kept up by every step: formed outputs, fresh requests, and a well-formed cycle with its dry watch. -/

/-! ## Formed outputs -/

theorem settledUpkeep : Upkeep (fun _ => True) (fun _ => True) (fun _ => True) (fun s => settle s = s) where
  asked_of_kept _ := trivial
  phase_of_asked := id
  late_of_phase := id
  phase_of_late _ _ := trivial
  late_congr _ := id
  phase_congr _ := id
  asked_congr _ := id
  kept_congr := settled_congr
  settle {s} _ := settle_settle s
  asked := id
  left _ := id
  entered _ _ := id
  held _ := id
  run _ := id

/-- The counts of formed outputs are within those of the levels (R155). -/
theorem counts_of_settled {s : State} (h : settle s = s) :
    s.loads.heaterCount ≤ firingCount s.feeder.window s.loads.heaterLevel heaterRating ∧
      s.loads.steamCount ≤ firingCount s.feeder.window s.loads.steamLevel steamRating := by
  obtain ⟨-, -, hlevels, -⟩ := (settled_iff s).1 h
  obtain ⟨-, -, hheat, hsteam, -⟩ := (formLevels_fixed_iff s).1 hlevels
  exact ⟨hheat, hsteam⟩

theorem settledStepUpkeep :
    StepUpkeep (fun _ => True) (fun _ => True) (fun _ => True) (fun s => settle s = s) where
  toUpkeep := settledUpkeep
  reset _ _ _ := trivial
  fired {s} h := by
    obtain ⟨hheat, hsteam⟩ := counts_of_settled h
    refine settled_of_gates h ?_ ?_ _ _ _ _
    · split
      · exact le_rfl
      · exact hheat
    · split
      · exact le_rfl
      · exact hsteam
  released h := settled_of_gates h (Nat.zero_le _) (Nat.zero_le _) _ _ _ _
  toggled := settled_of_toggle
  warmedUp {s} _ h := SameOutputs.settled (s := s) ⟨rfl, rfl, rfl, rfl, rfl, rfl, rfl, rfl, rfl, rfl, rfl, rfl⟩ h
  tracked {s} _ h := SameOutputs.settled (s := s) ⟨rfl, rfl, rfl, rfl, rfl, rfl, rfl, rfl, rfl, rfl, rfl, rfl⟩ h
  sampled {s v} h := by
    have hsample : settle (sampledWatch v s) = sampledWatch v s :=
      SameOutputs.settled (s := s) ⟨rfl, rfl, rfl, rfl, rfl, rfl, rfl, rfl, rfl, rfl, rfl, rfl⟩ h
    exact settledUpkeep.checkDryPoint (settledUpkeep.reportFault _ _ hsample)
  ticked {s n} _ h := settled_of_clock h (some secondMs) n s.cycle.starvedSecs (.inr rfl)
  starving _ := id
  latched := id
  paused _ := id
  resumed _ _ := id
  cooled := id

/-- Settles O50: formed outputs follow the tables, and every operation of a step either changes nothing they are formed from or
forms them afresh. -/
theorem stepKeepsOutputsSettled : Obligations.StepKeepsOutputsSettled := by
  have byRule : ∀ {s : State}, Settled s → Live s → OutputsByRule s := fun {s} h hl => h hl ▸ outputsByRule_settle s
  intro s hs
  refine ⟨byRule hs, fun t e => ?_⟩
  obtain ⟨-, kept⟩ := settledStepUpkeep.step ⟨trivial, hs⟩ e
  exact ⟨kept, byRule kept⟩

/-! ## Fresh requests -/

/-- The requests are formed from the phase, Tmax and the water level alone. -/
theorem formRequest_of_views {s t : State} (hv : phaseView t = phaseView s) (htmax : t.climate.tmax = s.climate.tmax)
    (hwater : t.lines.waterLow = s.lines.waterLow) : formRequest t = formRequest s := by
  have hform : ∀ u : State, formRequest u =
      (fun c : Cycle =>
        { steam := steamPart c u.lines.waterLow, heater := heaterPart c, cls := classOf c, boost := c.boost,
          fan := fanRequest c, lock := lockRequest c u.climate.tmax, valve := c.steaming }) (phaseView u).1 := fun _ => rfl
  rw [hform, hform, hv, htmax, hwater]

theorem requestFresh_congr {s t : State} (hv : requestView t = requestView s) (h : s.request = formRequest s) :
    t.request = formRequest t := by
  simp only [requestView, Prod.mk.injEq] at hv
  obtain ⟨hphase, hreq, htmax, hwater⟩ := hv
  rw [hreq, h, formRequest_of_views hphase htmax hwater]

theorem requestUpkeep :
    Upkeep (fun _ => True) (fun _ => True) (fun s => s.request = formRequest s) (fun s => s.request = formRequest s) where
  asked_of_kept := id
  phase_of_asked _ := trivial
  late_of_phase := id
  phase_of_late _ _ := trivial
  late_congr _ := id
  phase_congr _ := id
  asked_congr := requestFresh_congr
  kept_congr hv := requestFresh_congr (requestView_of_outputView hv)
  settle {s} := requestFresh_congr (requestView_settle s)
  asked _ := rfl
  left _ := id
  entered _ _ := id
  held _ := id
  run _ := id

theorem watchSample_tmax (v : Nat) (c : Climate) : (watchSample v c).tmax = c.tmax := by
  unfold watchSample; split
  · rfl
  · dsimp only; split <;> rfl
  all_goals rfl

theorem requestStepUpkeep :
    StepUpkeep (fun _ => True) (fun _ => True) (fun s => s.request = formRequest s) (fun s => s.request = formRequest s) where
  toUpkeep := requestUpkeep
  reset {s} hc hm hr := by
    simp [formRequest, hc, hm, hr, Cycle.reset, Climate.reset, Request.reset, steamPart, heaterPart, classOf, fanRequest,
      lockRequest, Cycle.steaming, lockTemp, probeHigh]
  fired := id
  released := id
  toggled := id
  warmedUp _ := id
  tracked _ := id
  sampled {s v} h := by
    have hsample : (sampledWatch v s).request = formRequest (sampledWatch v s) := by
      unfold formRequest sampledWatch
      rw [watchSample_tmax]
      exact h
    exact requestUpkeep.checkDryPoint (requestUpkeep.reportFault _ _ hsample)
  ticked _ := id
  starving _ := id
  latched := id
  paused _ := id
  resumed _ _ := id
  cooled := id

/-- Settles O51: requests as the state gives them are those of the tables, and every operation of a step either changes nothing
they are formed from or hands them over. -/
theorem stepKeepsRequestFresh : Obligations.StepKeepsRequestFresh := by
  intro s hs
  refine ⟨fun hl => requestTabled_of_formed (hs hl), fun t e => ?_⟩
  obtain ⟨-, kept⟩ := requestStepUpkeep.step ⟨trivial, hs⟩ e
  exact ⟨kept, fun hl => requestTabled_of_formed (kept hl)⟩

end Sys2Proof.Machine

namespace Sys2Proof.Machine

/-! PROOFS. The cycle, its timers and the dry watch stay well formed. -/

/-- The dry watch is well formed, but its dry point may have been found in a phase that is RUNNING: `WatchFormed` without its last
part. -/
def WatchLate (s : State) : Prop :=
  (s.climate.warmUp.isSome ↔ s.climate.watch = .warmUp) ∧ (s.climate.tracking.isSome ↔ s.climate.watch = .tracking) ∧
    (s.climate.dryPoint = true ↔ s.climate.watch = .found) ∧
    (s.climate.watch ≠ .off → (s.cycle.st = .running ∨ s.cycle.st = .held) ∧ s.cycle.kind = some .dry)

/-- The phase is sound, its dry point found in the hold alone. -/
def PhaseFormed (s : State) : Prop := RecordFromRom s ∧ CycleFormed s ∧ WatchFormed s

/-- The phase is sound but for a dry point that may be due. -/
def PhaseLate (s : State) : Prop := RecordFromRom s ∧ CycleFormed s ∧ WatchLate s

theorem watchFormed_iff (s : State) : WatchFormed s ↔ WatchLate s ∧ (s.climate.watch = .found → s.cycle.st = .held) := by
  unfold WatchFormed WatchLate; tauto

theorem phaseFormed_iff (s : State) : PhaseFormed s ↔ PhaseLate s ∧ (s.climate.watch = .found → s.cycle.st = .held) := by
  simp only [PhaseFormed, PhaseLate, watchFormed_iff]; tauto

theorem PhaseFormed.late {s : State} (h : PhaseFormed s) : PhaseLate s := ((phaseFormed_iff s).1 h).1

/-- A watch that is off is well formed whatever the cycle. -/
theorem watchFormed_of_off {s : State} (h : WatchIsOff s.climate) : WatchFormed s := by
  obtain ⟨hw, -, hwarm, htrack, hpoint⟩ := h
  simp [WatchFormed, hw, hwarm, htrack, hpoint]

/-- The fields that show in a phase view. -/
theorem phaseView_fields {s t : State} (hv : phaseView t = phaseView s) :
    KeepsPhase s t ∧ t.climate.watch = s.climate.watch ∧ t.climate.warmUp = s.climate.warmUp ∧
      t.climate.tracking = s.climate.tracking ∧ t.climate.dryPoint = s.climate.dryPoint := by
  obtain ⟨hcycle, -⟩ := Prod.mk.inj hv
  have hkept := congrArg
    (fun c : Cycle => ({ c with starved := t.cycle.starved, starvedSecs := t.cycle.starvedSecs } : Cycle)) hcycle
  refine ⟨hkept, ?_⟩
  simpa [phaseView] using (Prod.mk.inj hv).2

theorem phaseLate_congr {s t : State} (hv : phaseView t = phaseView s) (h : PhaseLate s) : PhaseLate t := by
  obtain ⟨hphase, hwatch, hwarm, htrack, hpoint⟩ := phaseView_fields hv
  obtain ⟨hst, hprog, hidx, hrec, -, hsec, -, -, hctx, hpause, hcool⟩ := (keepsPhase_iff s t).1 hphase
  simpa [PhaseLate, RecordFromRom, CycleFormed, WatchLate, PhaseInHand, Cycle.kind, hst, hprog, hidx, hrec, hsec, hctx,
    hpause, hcool, hwatch, hwarm, htrack, hpoint] using h

theorem phaseFormed_congr {s t : State} (hv : phaseView t = phaseView s) (h : PhaseFormed s) : PhaseFormed t := by
  obtain ⟨hphase, hwatch, -⟩ := phaseView_fields hv
  obtain ⟨hst, -⟩ := (keepsPhase_iff s t).1 hphase
  obtain ⟨hlate, hfound⟩ := (phaseFormed_iff s).1 h
  exact (phaseFormed_iff t).2 ⟨phaseLate_congr hv hlate, by rwa [hwatch, hst]⟩

/-- A phase whose dry point is not due is sound: a dry point found stands in a DRY phase, RUNNING or HELD. -/
theorem phaseFormed_of_timely {s : State} (h : PhaseLate s) (ht : ¬Overdue s) : PhaseFormed s := by
  refine (phaseFormed_iff s).2 ⟨h, fun hfound => ?_⟩
  obtain ⟨-, -, -, -, hpoint, hdry⟩ := h
  obtain ⟨hst | hst, hkind⟩ := hdry (by simp [hfound])
  · exact absurd ⟨hst, hkind, hpoint.2 hfound⟩ ht
  · exact hst

/-! ## What single operations make of the phase -/

/-- The two ways in which the cycle is left agree: `leaveTo` puts it away and ends a history display. -/
theorem leaveTo_cycle (st : CycleState) (s : State) : (leaveTo st s).cycle = s.cycle.putAway st := by
  unfold leaveTo; dsimp only; split <;> rfl

theorem leaveTo_climate (st : CycleState) (s : State) : (leaveTo st s).climate = watchOff s.climate := by
  unfold leaveTo; dsimp only; split <;> rfl

theorem watchOff_isOff (c : Climate) : WatchIsOff (watchOff c) := ⟨rfl, rfl, rfl, rfl, rfl⟩

theorem leaveTo_formed {st : CycleState} (ha : Away st) {s : State} (h : PhaseLate s) : PhaseFormed (leaveTo st s) := by
  obtain ⟨hrom, -, -⟩ := h
  refine ⟨leaveTo_fromRom st hrom, ?_, watchFormed_of_off (by rw [leaveTo_climate]; exact watchOff_isOff _)⟩
  unfold CycleFormed PhaseInHand
  rw [leaveTo_cycle]
  rcases ha with rfl | rfl | rfl | rfl <;> simp

theorem coolingCycle_formed {s : State} (h : PhaseFormed s) : PhaseFormed (coolingCycle s) := by
  obtain ⟨hrom, -, -⟩ := h
  refine ⟨leaveTo_fromRom .cancelCool hrom, ?_, ?_⟩
  · simp [CycleFormed, PhaseInHand, coolingCycle, leaveTo_cycle]
  · refine watchFormed_of_off ?_
    show WatchIsOff (leaveTo .cancelCool s).climate
    rw [leaveTo_climate]; exact watchOff_isOff _

/-- Outside PAUSED and CANCEL_COOL neither a context nor one of their timers is left. -/
theorem CycleFormed.clear {s : State} (h : CycleFormed s) (hp : s.cycle.st ≠ .paused) (hc : s.cycle.st ≠ .cancelCool) :
    s.cycle.context = none ∧ s.cycle.pause = none ∧ s.cycle.cancelCool = none := by
  obtain ⟨-, hctx, hpause, hcool, -⟩ := h
  exact ⟨Option.not_isSome_iff_eq_none.1 (mt hctx.1 hp), Option.not_isSome_iff_eq_none.1 (mt hpause.1 hp),
    Option.not_isSome_iff_eq_none.1 (mt hcool.1 hc)⟩

theorem enteredPhase_formed {s : State} {p : Fin 8} {i : Nat} {r : Record}
    (hst : s.cycle.st = .idle ∨ s.cycle.st = .running) (hr : readRom p i = some r) (h : PhaseLate s) :
    PhaseFormed (enteredPhase i r { s with cycle := { s.cycle with programme := p } }) := by
  obtain ⟨-, hcycle, -⟩ := h
  obtain ⟨hctx, hpause, hcool⟩ := hcycle.clear (by rcases hst with e | e <;> simp [e]) (by rcases hst with e | e <;> simp [e])
  refine ⟨.inr hr.symm, ?_, ?_⟩
  · simp [CycleFormed, PhaseInHand, enteredPhase, hctx, hpause, hcool]
  · by_cases hd : r.kind = .dry
    · simp [WatchFormed, enteredPhase, watchEntry, hd, Cycle.kind]
    · exact watchFormed_of_off (watchEntry_off hd _)

theorem heldPhase_formed {s : State} (hst : s.cycle.st = .running) (h : PhaseLate s) : PhaseFormed (heldPhase s) := by
  obtain ⟨hrom, hcycle, hwarm, htrack, hpoint, hdry⟩ := h
  obtain ⟨hctx, hpause, hcool⟩ := hcycle.clear (by simp [hst]) (by simp [hst])
  obtain ⟨-, -, -, -, hrec, -⟩ := hcycle
  have hsome := hrec (.inl hst)
  refine ⟨hrom, ?_, hwarm, htrack, hpoint, fun hw => ⟨.inr rfl, (hdry hw).2⟩, fun _ => rfl⟩
  simp [CycleFormed, PhaseInHand, heldPhase, hctx, hpause, hcool, hsome]

theorem runOn_late {s : State} (hst : s.cycle.st = .held) (h : PhaseLate s) : PhaseLate (runOn s) := by
  obtain ⟨hrom, hcycle, hwarm, htrack, hpoint, hdry⟩ := h
  obtain ⟨hctx, hpause, hcool⟩ := hcycle.clear (by simp [hst]) (by simp [hst])
  obtain ⟨-, -, -, -, hrec, -⟩ := hcycle
  have hsome := hrec (.inr (.inl hst))
  refine ⟨hrom, ?_, hwarm, htrack, hpoint, fun hw => ⟨.inl rfl, (hdry hw).2⟩⟩
  simp [CycleFormed, PhaseInHand, runOn, hctx, hpause, hcool, hsome]

theorem pausedPhase_formed {s : State} (hst : s.cycle.st = .running ∨ s.cycle.st = .held) (h : PhaseFormed s) :
    PhaseFormed (pausedPhase s) := by
  obtain ⟨hrom, hcycle, -⟩ := h
  obtain ⟨-, -, hcool⟩ := hcycle.clear (by rcases hst with e | e <;> simp [e]) (by rcases hst with e | e <;> simp [e])
  obtain ⟨-, -, -, -, hrec, -⟩ := hcycle
  have hsome : s.cycle.record.isSome := hrec (hst.imp id .inl)
  refine ⟨hrom, ?_, watchFormed_of_off (watchOff_isOff _)⟩
  simp [CycleFormed, PhaseInHand, pausedPhase, pauseContext, hcool, hsome]

/-- The context of a paused phase names the phase in hand, whose record the ROM has. -/
theorem resumedPhase_formed {s : State} {x : PauseContext} (hst : s.cycle.st = .paused) (hx : s.cycle.context = some x)
    (h : PhaseFormed s) : PhaseFormed (resumedPhase x s) := by
  obtain ⟨hrom, ⟨-, -, -, hcool, hrec, hidx⟩, -⟩ := h
  have hsome : s.cycle.record.isSome := hrec (.inr (.inr hst))
  have hread : (readRom s.cycle.programme x.index).isSome := by
    rw [hidx x hx]
    rcases hrom with e | e
    · simp [e] at hsome
    · rwa [← e]
  have hcool' : s.cycle.cancelCool = none := by simpa [hst] using hcool
  refine ⟨.inr rfl, ?_, ?_⟩
  · simp [CycleFormed, PhaseInHand, resumedPhase, hcool', hread]
  · by_cases hd : (readRom s.cycle.programme x.index).map Record.kind = some .dry
    · simp [WatchFormed, resumedPhase, watchResume, Cycle.kind, hd]
    · refine watchFormed_of_off ?_
      simp [resumedPhase, watchResume, hd, WatchIsOff]

/-- A sample leaves the watch where it is or, from TESTING, brings it to FOUND with the flag (R55). -/
theorem watchSample_cases (v : Nat) (c : Climate) :
    (watchSample v c).warmUp = c.warmUp ∧ (watchSample v c).tracking = c.tracking ∧
      (((watchSample v c).watch = c.watch ∧ (watchSample v c).dryPoint = c.dryPoint) ∨
        (c.watch = .testing ∧ (watchSample v c).watch = .found ∧ (watchSample v c).dryPoint = true)) := by
  unfold watchSample; split
  · exact ⟨rfl, rfl, .inl ⟨rfl, rfl⟩⟩
  · next hw =>
    dsimp only; split
    · exact ⟨rfl, rfl, .inr ⟨hw, rfl, rfl⟩⟩
    · exact ⟨rfl, rfl, .inl ⟨rfl, rfl⟩⟩
  all_goals exact ⟨rfl, rfl, .inl ⟨rfl, rfl⟩⟩

theorem sampledWatch_late (v : Nat) {s : State} (h : PhaseLate s) : PhaseLate (sampledWatch v s) := by
  obtain ⟨hrom, hcycle, hwarm, htrack, hpoint, hdry⟩ := h
  obtain ⟨ewarm, etrack, ewatch⟩ := watchSample_cases v
    { s.climate with humidityValid := true, ring := pushRing s.climate.ring v, sampleTimer := some humiditySampleMs }
  refine ⟨hrom, hcycle, ?_⟩
  unfold WatchLate sampledWatch
  rw [ewarm, etrack]
  rcases ewatch with ⟨e1, e2⟩ | ⟨e1, e2, e3⟩
  · rw [e1, e2]
    exact ⟨hwarm, htrack, hpoint, hdry⟩
  · dsimp only at e1
    rw [e2, e3]
    rw [e1] at hwarm htrack hdry
    exact ⟨by simpa using hwarm, by simpa using htrack, by simp, fun _ => hdry (by decide)⟩

/-! ## The upkeep -/

theorem phaseUpkeep : Upkeep PhaseLate PhaseFormed PhaseFormed PhaseFormed where
  asked_of_kept := id
  phase_of_asked := id
  late_of_phase := PhaseFormed.late
  phase_of_late := phaseFormed_of_timely
  late_congr := phaseLate_congr
  phase_congr := phaseFormed_congr
  asked_congr hv := phaseFormed_congr (phaseView_of_requestView hv)
  kept_congr hv := phaseFormed_congr (phaseView_of_requestView (requestView_of_outputView hv))
  settle {s} := phaseFormed_congr (phaseView_settle s)
  asked {s} := phaseFormed_congr (s := s) rfl
  left ha h := leaveTo_formed ha h
  entered := enteredPhase_formed
  held := heldPhase_formed
  run := runOn_late

theorem phaseStepUpkeep : StepUpkeep PhaseLate PhaseFormed PhaseFormed PhaseFormed where
  toUpkeep := phaseUpkeep
  reset {s} hc hm _ := by
    refine ⟨.inl (by rw [hc]; rfl), ?_, watchFormed_of_off (by rw [hm]; exact ⟨rfl, rfl, rfl, rfl, rfl⟩)⟩
    simp [CycleFormed, PhaseInHand, hc, Cycle.reset]
  fired {s} := phaseFormed_congr (s := s) rfl
  released {s} := phaseFormed_congr (s := s) rfl
  toggled {s} := phaseFormed_congr (s := s) rfl
  warmedUp {s} hw h := by
    obtain ⟨hrom, hcycle, hwarm, -, hpoint, hdry, -⟩ := h
    have hwatch := hwarm.1 hw
    rw [hwatch] at hpoint hdry
    exact ⟨hrom, hcycle, by simpa [WatchFormed] using ⟨by simpa using hpoint, by simpa using hdry⟩⟩
  tracked {s} ht h := by
    obtain ⟨hrom, hcycle, hwarm, htrack, hpoint, hdry, -⟩ := h
    have hwatch := htrack.1 ht
    rw [hwatch] at hwarm hpoint hdry
    exact ⟨hrom, hcycle, by simpa [WatchFormed] using ⟨by simpa using hwarm, by simpa using hpoint, by simpa using hdry⟩⟩
  sampled {s v} h :=
    have hsample := phaseUpkeep.onLate.reportFault .humidityFault false (sampledWatch_late v h.late)
    phaseUpkeep.checkDryPoint_of_late hsample (phaseFormed_of_timely hsample)
  ticked {s n} hst h := by
    obtain ⟨hrom, ⟨-, hothers⟩, hwatch⟩ := h
    exact ⟨hrom, ⟨by simp [hst], hothers⟩, hwatch⟩
  starving {s} hst h := by
    obtain ⟨hrom, ⟨-, hothers⟩, hwatch⟩ := h
    unfold starvedSecond
    split <;> exact ⟨hrom, ⟨by simp [hst], hothers⟩, hwatch⟩
  latched h := h
  paused := pausedPhase_formed
  resumed := resumedPhase_formed
  cooled := coolingCycle_formed

/-- Settles O54: every operation of a step leaves the cycle and the dry watch well formed; between a dry point found in RUNNING and
the end of the phase it brings, all holds but the last part of `WatchFormed`. -/
theorem stepKeepsCycleFormed : Obligations.StepKeepsCycleFormed := by
  intro s t hrom hcycle hwatch e
  have h : PhaseFormed s := ⟨hrom, hcycle, hwatch⟩
  obtain ⟨kept, -⟩ := phaseStepUpkeep.step ⟨h, fun _ => h⟩ e
  exact kept

end Sys2Proof.Machine

namespace Sys2Proof.Machine

/-! PROOFS. The reset state: every item of its tables, and every invariant in it (R16, R50, R60, R62, R79, R103, R122, R139, R149,
R164, R173, R174). -/

theorem reset_settled : settle State.reset = State.reset := by decide

theorem reset_requestFresh : State.reset.request = formRequest State.reset := by decide

theorem reset_phaseFormed : PhaseFormed State.reset := phaseStepUpkeep.reset rfl rfl rfl

/-- The reset state's table is empty at every address. -/
theorem reset_tableFormed : TableFormed State.reset := by
  refine ⟨rfl, fun e he => ?_, by decide, fun _ => rfl, by decide⟩
  rw [List.eq_of_mem_replicate he]
  trivial

theorem reset_loadsSafe : LoadsSafe State.reset :=
  ⟨rfl, Nat.zero_le _, Nat.zero_le _, .inl rfl, fun _ => ⟨rfl, rfl⟩⟩

theorem reset_countsInRange : CountsInRange State.reset := by
  refine ⟨?_, ?_, ?_, ?_, by decide, ?_, ?_⟩
  · simp [CycleInRange, State.reset, Cycle.reset, Request.reset]
  · simp [ClimateInRange, State.reset, Climate.reset, probeHigh]
  · simp [ShareInRange, State.reset, LoadShare.reset]
  · simp [MemberInRange, State.reset, Membership.reset, Framer.reset, presenceStart]
  · simp [FeederInRange, State.reset, Feeder.reset]
  · simp [FaultsInRange, State.reset, FaultUnit.reset, Panel.reset]

/-- Settles O3: each item is read off the reset state, and each invariant holds of it. -/
theorem resetStateIsTabled : Obligations.ResetStateIsTabled := by
  obtain ⟨hrom, hcycle, hwatch⟩ := reset_phaseFormed
  refine ⟨rfl, rfl, rfl, rfl, rfl, rfl, rfl, rfl, rfl, rfl, fun _ => reset_settled, reset_settled ▸ outputsByRule_settle _,
    fun _ => reset_requestFresh, requestTabled_of_formed reset_requestFresh, rfl, hrom, ?_, hcycle, hwatch, reset_loadsSafe,
    ?_, ⟨rfl, rfl⟩, ?_, ?_, ?_, ?_, ?_, reset_tableFormed, ?_, ?_, ?_, ?_, ?_, ?_, ?_, rfl, ?_, reset_countsInRange⟩
  · unfold RequestInRange; decide
  · unfold FanWatched; decide
  · exact ⟨fun _ hd => (nomatch hd), fun _ => rfl⟩
  · unfold SendingFits; decide
  · unfold LockWatched; decide
  · unfold AllowanceInGrant; decide
  · exact fun _ => ⟨rfl, rfl⟩
  · unfold SilentInStandby; decide
  · simp [SlotFits, State.reset, Membership.reset, Framer.reset]
  · simp [ClaimCovers, State.reset, Membership.reset, LoadShare.reset]
  · unfold BootQuiet; decide
  · unfold IsoCapped; decide
  · unfold MainsFormed; decide
  · unfold StrapsFormed; decide
  · exact ⟨List.nodup_nil, List.Pairwise.nil, rfl⟩

end Sys2Proof.Machine

namespace Sys2Proof.Machine

/-! PROOFS. A press of a key: lost without its debounce, taken with its click, and then the Cycle Controller's (R17, R174). -/

/-- START taken with its click. -/
def startClicked (s : State) : State :=
  sound .click { s with panel := { s.panel with start := KeyLine.steady true } }

/-- CANCEL taken with its click and the long-press timer. -/
def cancelClicked (s : State) : State :=
  sound .click { s with panel := { s.panel with cancel := KeyLine.steady true, longPress := some longPressMs } }

/-- POWER taken with its click. -/
def powerClicked (s : State) : State :=
  sound .click { s with panel := { s.panel with power := KeyLine.steady true } }

theorem startPress_of_unsettled {sel2 sel1 sel0 : Bool} {s : State} (h : s.panel.start.settles true = false) :
    startPress sel2 sel1 sel0 s = s := by simp [startPress, h]

theorem cancelPress_of_unsettled {s : State} (h : s.panel.cancel.settles true = false) : cancelPress s = s := by
  simp [cancelPress, h]

theorem powerPress_of_unsettled {s : State} (h : s.panel.power.settles true = false) : powerPress s = s := by
  simp [powerPress, h]

theorem startPress_of_settled {sel2 sel1 sel0 : Bool} {s : State} (h : s.panel.start.settles true = true) :
    startPress sel2 sel1 sel0 s =
      if s.feeder.window.isSome then cycleStart (selectedProgramme sel2 sel1 sel0) (startClicked s) else startClicked s := by
  unfold startPress; rw [if_pos h]; rfl

theorem cancelPress_of_settled {s : State} (h : s.panel.cancel.settles true = true) :
    cancelPress s = if s.feeder.window.isSome then cycleCancel (cancelClicked s) else cancelClicked s := by
  unfold cancelPress; rw [if_pos h]; rfl

theorem powerPress_of_settled {s : State} (h : s.panel.power.settles true = true) :
    powerPress s = if s.feeder.window.isSome then cyclePower (powerClicked s) else powerClicked s := by
  unfold powerPress; rw [if_pos h]; rfl

/-- A START with the door open or a class A or B fault active does nothing, nor one in another state than IDLE and PAUSED
(R18, R38). -/
theorem cycleStart_of_refused (p : Fin 8) {s : State}
    (h : s.lines.doorOpen = true ∨ s.faults.blocking = true ∨ ¬(s.cycle.st = .idle ∨ s.cycle.st = .paused)) :
    cycleStart p s = s := by
  have hallowed : s.cycle.st = .idle ∨ s.cycle.st = .paused → startAllowed s = false := by
    intro hst
    rcases h with h | h | h
    · simp [startAllowed, h]
    · simp [startAllowed, h]
    · exact absurd hst h
  unfold cycleStart; split
  · next hst => rw [hallowed (.inl hst)]; rfl
  · next hst => rw [hallowed (.inr hst)]; rfl
  all_goals rfl

/-- Settles O12: a lost press changes nothing, and a refused one leaves the state in which the key is taken with its click. -/
theorem refusedKeysOnlyClick : Obligations.RefusedKeysOnlyClick := by
  intro sel2 sel1 sel0 s hl
  have press : ∀ f : State → State, ∀ t, f s = t → live f s = .next t := fun f t h => h ▸ live_of_live hl f
  refine ⟨fun h => press _ _ (startPress_of_unsettled h), fun h => press _ _ (cancelPress_of_unsettled h),
    fun h => press _ _ (powerPress_of_unsettled h), fun hkey h => press _ _ ?_, fun hw hkey => press _ _ ?_,
    fun hw hkey => press _ _ ?_⟩
  · rw [startPress_of_settled hkey]
    split
    · next hw =>
      exact cycleStart_of_refused _ (s := startClicked s) (h.resolve_left (by rw [Option.isSome_iff_ne_none] at hw; exact hw))
    · rfl
  · rw [cancelPress_of_settled hkey, hw]; rfl
  · rw [powerPress_of_settled hkey, hw]; rfl

end Sys2Proof.Machine

namespace Sys2Proof.Machine

/-! PROOFS. What stands once the requests are handed over, and what a change of faults leaves of a cycle in which no phase runs. -/

/-! ## Outputs and requests where they are formed -/

/-- The outputs are formed and the requests are as the state gives them. -/
def Handed (s : State) : Prop := settle s = s ∧ s.request = formRequest s

theorem handed_handOver (s : State) : Handed (handOver s) :=
  ⟨settledUpkeep.handOver trivial, requestUpkeep.handOver trivial⟩

theorem Handed.checkLock {s : State} (h : Handed s) : Handed (checkLock s) := by
  obtain ⟨houts, hreq⟩ := h
  exact ⟨settledUpkeep.checkLock houts, requestUpkeep.checkLock hreq⟩

theorem Handed.checkWater {s : State} (h : Handed s) : Handed (checkWater s) := by
  obtain ⟨houts, hreq⟩ := h
  exact ⟨settledUpkeep.checkWater houts, requestUpkeep.checkWater hreq⟩

theorem Handed.reportFault (k : FaultKind) (b : Bool) {s : State} (h : Handed s) : Handed (reportFault k b s) := by
  obtain ⟨houts, hreq⟩ := h
  exact ⟨settledUpkeep.reportFault k b houts, requestUpkeep.reportFault k b hreq⟩

theorem Handed.sound (p : Pattern) {s : State} (h : Handed s) : Handed (sound p s) := by
  obtain ⟨houts, hreq⟩ := h
  exact ⟨settled_congr (s := s) rfl houts, hreq⟩

theorem Handed.outputs {s : State} (h : Handed s) : OutputsByRule s := h.1 ▸ outputsByRule_settle s

/-- With nothing wanted no load draws power (R150). -/
theorem levels_of_no_want {s : State} (h : settle s = s) (hw : s.request.want = 0) :
    s.loads.steamLevel = 0 ∧ s.loads.heaterLevel = 0 ∧ s.loads.draw = 0 := by
  have hdraw : s.loads.draw = s.loads.steamLevel + s.loads.heaterLevel := by rw [← h]; exact settle_draw s
  have hdivided : LoadsDivided s := h ▸ loadsDivided_settle s
  obtain ⟨hsteam, hheater, -, -, -, -, hsl, hhl⟩ := hdivided
  obtain ⟨hs, hh⟩ : s.request.steam = 0 ∧ s.request.heater = 0 := by
    unfold Request.want at hw; omega
  rw [hs] at hsteam
  rw [hh] at hheater
  simp_all

/-- Outside RUNNING nothing is wanted (R24, R25, R31). -/
theorem formRequest_of_not_running {s : State} (h : s.cycle.st ≠ .running) :
    (formRequest s).steam = 0 ∧ (formRequest s).heater = 0 ∧ (formRequest s).want = 0 ∧ (formRequest s).cls = 0 ∧
      (formRequest s).valve = false := by
  simp [formRequest, steamPart, heaterPart, classOf, Cycle.steaming, h]

/-- Once handed over outside RUNNING, nothing is wanted and nothing drawn. -/
theorem Handed.off {s : State} (h : Handed s) (hst : s.cycle.st ≠ .running) :
    s.request.want = 0 ∧ s.request.cls = 0 ∧ s.request.valve = false ∧ s.loads.draw = 0 := by
  obtain ⟨houts, hreq⟩ := h
  obtain ⟨-, -, hwant, hcls, hvalve⟩ := formRequest_of_not_running hst
  rw [← hreq] at hwant hcls hvalve
  exact ⟨hwant, hcls, hvalve, (levels_of_no_want houts hwant).2.2⟩

/-- A property that forming the outputs keeps and that no change of sharing, notice and framer touches holds after handing over
when it holds with the requests formed. -/
theorem handOver_induction {P : State → Prop} (settles : ∀ u, P u → P (settle u))
    (aside : ∀ (u : State) (sh : LoadShare) (m : Membership) (f : Framer), P u →
      P { u with share := sh, member := m, framer := f })
    {s : State} (h : P { s with request := formRequest s }) : P (handOver s) := by
  have computed : ∀ u : State, P u → P (compute u) := fun u hu => settles _ (aside u _ u.member u.framer hu)
  have handed : ∀ u : State, P u → P (handFramer u) := by
    intro u hu
    unfold handFramer; split
    · split
      · unfold beginSending; split
        · exact hu
        · exact aside u u.share _ _ hu
      · exact aside u u.share u.member _ hu
    · exact hu
  have loaded : ∀ u : State, P u → P (loadNotice .demand u) := by
    intro u hu
    unfold loadNotice fillSlot; dsimp only; split
    · exact aside u u.share _ u.framer hu
    · exact handed _ (aside (compute _) _ _ _ (computed _ (aside u _ _ u.framer hu)))
  unfold handOver wantRise; dsimp only; split
  · exact settles _ h
  · split
    · exact loaded _ (computed _ h)
    · exact computed _ h

/-- With want, class and boost as they were, handing over only forms the outputs on the new requests (R81). -/
theorem handOver_of_same_want {s : State} (hw : (formRequest s).want = s.request.want)
    (hc : (formRequest s).cls = s.request.cls) (hb : (formRequest s).boost = s.request.boost) :
    handOver s = settle { s with request := formRequest s } := by
  unfold handOver; exact if_pos ⟨hw, hc, hb⟩

theorem KeepsNotice.refl (s : State) : KeepsNotice s s := ⟨rfl, rfl, rfl, rfl, rfl, rfl, rfl⟩

theorem KeepsNotice.trans {s t u : State} (h : KeepsNotice s t) (g : KeepsNotice t u) : KeepsNotice s u := by
  obtain ⟨h1, h2, h3, h4, h5, h6, h7⟩ := h
  obtain ⟨g1, g2, g3, g4, g5, g6, g7⟩ := g
  exact ⟨g1.trans h1, g2.trans h2, g3.trans h3, g4.trans h4, g5.trans h5, g6.trans h6, g7.trans h7⟩

/-- Forming the outputs leaves the notice and its framer. -/
theorem settle_keepsNotice (s : State) : KeepsNotice s (settle s) := by simp [KeepsNotice]

/-- A hand-over that raises no want leaves the notice, its framer and the raise-ready timer (R110). -/
theorem handOver_keepsNotice {s : State} (h : (formRequest s).want ≤ s.request.want) : KeepsNotice s (handOver s) := by
  have hrise : ∀ u : State, u.request.want ≤ s.request.want → wantRise s.request.want u = u := by
    intro u hu
    unfold wantRise
    rw [if_neg (fun hr => by omega)]
  unfold handOver; dsimp only; split
  · simp [KeepsNotice]
  · rw [hrise _ (by simpa using h)]
    simp [KeepsNotice]

/-! ## The phase lamp -/

/-- The phase lamp and its flash timer as forming the outputs leaves them: a lamp that goes on flashing for the same kind keeps its
rhythm, any other is as the cycle asks (R175, log entry 15). -/
def formedLamp (s : State) : PhaseLamp × Timer :=
  let target := phaseLampFor s.cycle
  if target.flashes ≠ none ∧ target.flashes = s.panel.phaseLamp.flashes then (s.panel.phaseLamp, s.panel.flash)
  else (target, if target.flashes = none then none else some lampFlashMs)

theorem formedLamp_of_settled {s : State} (h : settle s = s) : (s.panel.phaseLamp, s.panel.flash) = formedLamp s := by
  obtain ⟨-, -, -, -, hlamps⟩ := (settled_iff s).1 h
  obtain ⟨hnew, -⟩ := (formLamps_fixed_iff s).1 hlamps
  unfold formedLamp; dsimp only; split
  · rfl
  · next hn =>
    obtain ⟨hp, hf⟩ := hnew hn
    rw [hp, hf]

theorem phaseLampFor_of_phase {c d : Cycle} (hst : d.st = c.st) (hrec : d.record = c.record) :
    phaseLampFor d = phaseLampFor c := by
  unfold phaseLampFor Cycle.kind; rw [hst, hrec]

theorem settle_lamp (s : State) :
    (settle s).panel.phaseLamp = (formedLamp s).1 ∧ (settle s).panel.flash = (formedLamp s).2 := by
  have hc : phaseLampFor (formStarved (formLevels (formLock (formFan s)))).cycle = phaseLampFor s.cycle :=
    phaseLampFor_of_phase (by simp [formStarved]) (by simp [formStarved])
  unfold settle formLamps formedLamp
  dsimp only
  rw [hc]
  simp only [formStarved_panel, formLevels_panel, formLock_panel, formFan_panel]
  generalize phaseLampFor s.cycle = target
  by_cases h1 : target.flashes = none
  · simp [h1]
  · by_cases h2 : target.flashes = s.panel.phaseLamp.flashes
    · simp [h2, h2 ▸ h1]
    · simp [h1, h2]

/-- Forming the outputs again leaves the lamp. -/
theorem formedLamp_settle (s : State) : formedLamp (settle s) = formedLamp s := by
  obtain ⟨h1, h2⟩ := settle_lamp s
  rw [← formedLamp_of_settled (settle_settle s), h1, h2]

theorem formedLamp_handOver (s : State) : formedLamp (handOver s) = formedLamp s :=
  handOver_induction (P := fun u => formedLamp u = formedLamp s) (fun u hu => (formedLamp_settle u).trans hu)
    (fun _ _ _ _ hu => hu) rfl

/-- A lamp that begins to flash starts lit for 500 ms (R175). -/
theorem formedLamp_of_new_flash {s : State} {k : PhaseKind} (htarget : phaseLampFor s.cycle = .flashing k true)
    (hnew : ∀ on, s.panel.phaseLamp ≠ .flashing k on) : formedLamp s = (.flashing k true, some 500) := by
  have hnot : s.panel.phaseLamp.flashes ≠ some k := by
    intro hf
    cases hp : s.panel.phaseLamp with
    | flashing j on =>
      rw [hp] at hf
      obtain rfl : j = k := Option.some.inj hf
      exact hnew on hp
    | dark => rw [hp] at hf; cases hf
    | lit j => rw [hp] at hf; cases hf
  unfold formedLamp
  rw [htarget]
  dsimp only
  rw [if_neg (fun hk => hnot hk.2.symm)]
  rfl

/-! ## A cycle in which no phase runs -/

/-- No phase is RUNNING or HELD, and nothing of its starvation is left. -/
def Resting (c : Cycle) : Prop := c.st ≠ .running ∧ c.st ≠ .held ∧ c.starved = false ∧ c.starvedSecs = 0

theorem resting_putAway {c : Cycle} {st : CycleState} (hr : st ≠ .running) (hh : st ≠ .held) : Resting (c.putAway st) :=
  ⟨hr, hh, rfl, rfl⟩

/-- What a change of faults of class B and C leaves of such a state: cycle, readings and dry watch, keys, buzzer, lamp, history and
notice. -/
structure RestKept (s t : State) : Prop where
  cycle : t.cycle = s.cycle
  climate : t.climate = s.climate
  start : t.panel.start = s.panel.start
  cancel : t.panel.cancel = s.panel.cancel
  power : t.panel.power = s.panel.power
  longPress : t.panel.longPress = s.panel.longPress
  buzzer : t.panel.buzzer = s.panel.buzzer
  lamp : formedLamp t = formedLamp s
  history : t.faults.history = s.faults.history
  notice : KeepsNotice s t

theorem RestKept.refl (s : State) : RestKept s s := ⟨rfl, rfl, rfl, rfl, rfl, rfl, rfl, rfl, rfl, .refl s⟩

theorem RestKept.trans {s t u : State} (h : RestKept s t) (g : RestKept t u) : RestKept s u :=
  ⟨g.cycle.trans h.cycle, g.climate.trans h.climate, g.start.trans h.start, g.cancel.trans h.cancel, g.power.trans h.power,
    g.longPress.trans h.longPress, g.buzzer.trans h.buzzer, g.lamp.trans h.lamp, g.history.trans h.history, h.notice.trans g.notice⟩

theorem handOver_restKept {s : State} (hr : Resting s.cycle) : RestKept s (handOver s) := by
  obtain ⟨hst, -, hflag, hsecs⟩ := hr
  obtain ⟨hclimate, hfaults, hstart, hcancel, hpower, hlong, hbuzzer, -⟩ := handOver_keeps s
  obtain ⟨-, -, hwant, -⟩ := formRequest_of_not_running hst
  exact ⟨handOver_cycle_of_not_running hst hflag hsecs, hclimate, hstart, hcancel, hpower, hlong, hbuzzer,
    formedLamp_handOver s, by rw [hfaults], handOver_keepsNotice (by rw [hwant]; exact Nat.zero_le _)⟩

theorem settle_restKept {s : State} (hr : Resting s.cycle) : RestKept s (settle s) := by
  obtain ⟨hst, -, hflag, hsecs⟩ := hr
  have hcycle : (settle s).cycle = s.cycle := by
    have unstarved : starvation (formLevels (formLock (formFan s))) = false := by simp [starvation, hst]
    simp [settle, formLamps, formStarved, unstarved, ← hflag, ← hsecs]
  exact ⟨hcycle, by simp, by simp, by simp, by simp, by simp, by simp, formedLamp_settle s, by simp,
    settle_keepsNotice s⟩

/-- An activation of no class A fault only ends a history display (R168, R171). -/
theorem activate_of_not_classA {s : State} (h : s.faults.activeClass ≠ some .a) : activate s = endDisplay s := by
  unfold activate; dsimp only; split
  · rfl
  · next k hk =>
    rw [endDisplay_faults_active] at hk
    rw [if_neg]
    intro ha
    exact h (by simp [FaultUnit.activeClass, hk, ha])

/-- Where no phase runs, a class that is not A only hands the requests over (R32). -/
theorem cycleOnClass_of_rest {s : State} (hst : s.cycle.st ≠ .running) (h : s.faults.activeClass ≠ some .a) :
    cycleOnClass s = handOver s := by
  unfold cycleOnClass; split
  · next ha => exact absurd ha h
  · rw [if_neg hst]
  · rfl
  · rfl

/-- A change of the faults that makes none of class A active, where no phase runs. -/
theorem cycleOnFall_activate_restKept {s : State} {f : FaultUnit} (b : Option FaultClass) (hr : Resting s.cycle)
    (ha : f.activeClass ≠ some .a) (hh : f.history = s.faults.history) :
    RestKept s (cycleOnFall b (activate { s with faults := f })) ∧
      (cycleOnFall b (activate { s with faults := f })).faults = { f with code := f.activeCode } := by
  have hact : activate { s with faults := f } = endDisplay { s with faults := f } := activate_of_not_classA ha
  have e : cycleOnFall b (activate { s with faults := f }) = handOver (endDisplay { s with faults := f }) := by
    rw [hact, cycleOnFall, if_neg (fun h => hr.2.1 h.2.1)]
    exact cycleOnClass_of_rest hr.1 ha
  have hended : RestKept s (endDisplay { s with faults := f }) := ⟨rfl, rfl, rfl, rfl, rfl, rfl, rfl, rfl, hh, .refl s⟩
  rw [e, handOver_faults]
  exact ⟨hended.trans (handOver_restKept hr), rfl⟩

/-- A raise leaves the active fault or makes its own kind active (R165). -/
theorem raiseInto_active (k : FaultKind) (f : FaultUnit) :
    (raiseInto k f).active = f.active ∨ (raiseInto k f).active = some k := by
  unfold raiseInto; split
  · exact .inl rfl
  · split
    · exact .inr rfl
    · split
      · exact .inr rfl
      · exact .inl rfl

/-- A withdraw leaves the active fault, or takes it away and makes the first waiting one active (R166). -/
theorem withdrawFrom_active (k : FaultKind) (f : FaultUnit) :
    (withdrawFrom k f).active = f.active ∨
      (f.active = some k ∧ (withdrawFrom k f).active = f.waiting.head? ∧ (withdrawFrom k f).waiting = f.waiting.tail) := by
  unfold withdrawFrom; split
  · next ha => split <;> exact .inr ⟨ha, by simp_all, by simp_all⟩
  · exact .inl rfl

theorem withdrawFrom_history (k : FaultKind) (f : FaultUnit) : (withdrawFrom k f).history = f.history := by
  unfold withdrawFrom; split
  · split <;> rfl
  · rfl

/-- Nothing of class A waits behind a fault of class B or C (R165). -/
theorem head_not_classA {f : FaultUnit} (ho : FaultsOrdered f) {k : FaultKind} (hk : k.cls ≠ .a) (ha : f.active = some k) :
    f.waiting.head?.map FaultKind.cls ≠ some .a := by
  obtain ⟨-, -, hrank⟩ := ho
  rw [ha] at hrank
  intro h
  obtain ⟨j, hj, hcls⟩ := Option.map_eq_some_iff.1 h
  have hle := hrank.2 j (List.mem_of_mem_head? hj)
  have hk0 : k.rank ≠ 0 := by cases k <;> simp [FaultKind.cls] at hk <;> decide
  have hj0 : j.rank = 0 := by simp [FaultKind.rank, hcls, FaultClass.rank]
  omega

/-- A raise of class B or C where no phase runs. -/
theorem raiseFault_restKept {k : FaultKind} (hk : k.cls ≠ .a) {s : State} (hr : Resting s.cycle) :
    RestKept s (raiseFault k s) := by
  have hh : (raiseInto k s.faults).history = s.faults.history := raiseInto_history k s.faults
  unfold raiseFault; dsimp only; split
  · exact RestKept.trans (t := { s with faults := raiseInto k s.faults }) ⟨rfl, rfl, rfl, rfl, rfl, rfl, rfl, rfl, hh, .refl s⟩
      (settle_restKept hr)
  · next hne =>
    have hact : (raiseInto k s.faults).active = some k := (raiseInto_active k s.faults).resolve_left hne
    have hc : (raiseInto k s.faults).activeClass ≠ some .a := by simpa [FaultUnit.activeClass, hact] using hk
    obtain ⟨hkept, -⟩ := cycleOnFall_activate_restKept none hr hc hh
    rwa [cycleOnFall, if_neg (by simp)] at hkept

/-- A withdraw of class B or C where no phase runs, with the faults it leaves. -/
theorem withdrawCore_restKept {k : FaultKind} (hk : k.cls ≠ .a) {s : State} (ho : FaultsOrdered s.faults)
    (hr : Resting s.cycle) :
    RestKept s (withdrawCore k s) ∧ (withdrawCore k s).faults.active = (withdrawFrom k s.faults).active ∧
      (withdrawCore k s).faults.waiting = (withdrawFrom k s.faults).waiting := by
  have hh : (withdrawFrom k s.faults).history = s.faults.history := withdrawFrom_history k s.faults
  unfold withdrawCore; dsimp only; split
  · refine ⟨RestKept.trans (t := { s with faults := withdrawFrom k s.faults })
      ⟨rfl, rfl, rfl, rfl, rfl, rfl, rfl, rfl, hh, .refl s⟩ (settle_restKept hr), by simp, by simp⟩
  · next hne =>
    obtain ⟨ha, hnew, -⟩ := (withdrawFrom_active k s.faults).resolve_left hne
    have hc : (withdrawFrom k s.faults).activeClass ≠ some .a := by
      unfold FaultUnit.activeClass; rw [hnew]; exact head_not_classA ho hk ha
    obtain ⟨hkept, hfaults⟩ := cycleOnFall_activate_restKept s.faults.activeClass hr hc hh
    exact ⟨hkept, by rw [hfaults], by rw [hfaults]⟩

theorem checkLock_restKept {s : State} (ho : FaultsOrdered s.faults) (hr : Resting s.cycle) : RestKept s (checkLock s) := by
  unfold checkLock; split
  · exact (withdrawCore_restKept (by decide) ho hr).1
  · exact .refl s

theorem faultsOrdered_of_lists {f g : FaultUnit} (h : FaultsOrdered f) (ha : g.active = f.active)
    (hw : g.waiting = f.waiting) : FaultsOrdered g := by
  unfold FaultsOrdered; rwa [ha, hw]

theorem holds_of_lists {f g : FaultUnit} (ha : g.active = f.active) (hw : g.waiting = f.waiting) (k : FaultKind) :
    g.holds k = f.holds k := by
  unfold FaultUnit.holds; rw [ha, hw]

/-- Looking at the lock where no phase runs: of the faults only LOCK_FAULT can go. -/
theorem checkLock_rest {s : State} (ho : FaultsOrdered s.faults) (hr : Resting s.cycle) :
    RestKept s (checkLock s) ∧ FaultsOrdered (checkLock s).faults ∧
      ∀ j, j ≠ .lockFault → (checkLock s).faults.holds j = s.faults.holds j := by
  refine ⟨checkLock_restKept ho hr, ?_⟩
  unfold checkLock; split
  · obtain ⟨-, ha, hw⟩ := withdrawCore_restKept (k := .lockFault) (by decide) ho hr
    refine ⟨faultsOrdered_of_lists (withdrawFrom_ordered ho) ha hw, fun j hj => ?_⟩
    rw [holds_of_lists ha hw, Bool.eq_iff_iff, withdrawFrom_holds ho]
    exact and_iff_right hj
  · exact ⟨ho, fun _ _ => rfl⟩

/-- Handing over where no phase runs, with the lock looked at. -/
theorem checkLock_handOver_restKept {s : State} (ho : FaultsOrdered s.faults) (hr : Resting s.cycle) :
    RestKept s (checkLock (handOver s)) := by
  have hkept := handOver_restKept hr
  exact hkept.trans (checkLock_restKept (by rwa [handOver_faults]) (by rwa [hkept.cycle]))

/-! ## Leaving the phase -/

theorem leaveTo_faults_lists (st : CycleState) (s : State) :
    (leaveTo st s).faults.active = s.faults.active ∧ (leaveTo st s).faults.waiting = s.faults.waiting ∧
      (leaveTo st s).faults.history = s.faults.history := by
  unfold leaveTo; dsimp only; split <;> exact ⟨rfl, rfl, rfl⟩

theorem leaveTo_panel (st : CycleState) (s : State) :
    (leaveTo st s).panel.start = s.panel.start ∧ (leaveTo st s).panel.cancel = s.panel.cancel ∧
      (leaveTo st s).panel.power = s.panel.power ∧ (leaveTo st s).panel.longPress = s.panel.longPress ∧
      (leaveTo st s).panel.buzzer = s.panel.buzzer ∧ (leaveTo st s).panel.phaseLamp = s.panel.phaseLamp ∧
      (leaveTo st s).panel.flash = s.panel.flash := by
  unfold leaveTo; dsimp only; split <;> exact ⟨rfl, rfl, rfl, rfl, rfl, rfl, rfl⟩

theorem leaveTo_ordered (st : CycleState) {s : State} (h : FaultsOrdered s.faults) : FaultsOrdered (leaveTo st s).faults := by
  obtain ⟨ha, hw, -⟩ := leaveTo_faults_lists st s
  exact faultsOrdered_of_lists h ha hw

theorem keepsReadings_of_watchOff {s t : State} (h : t.climate = watchOff s.climate) : KeepsReadings s t := by
  simp [KeepsReadings, h]

/-- The cycle put away in a state without a phase, the requests handed over and the lock looked at (R28, R39 to R41, R43). -/
structure PutAway (st : CycleState) (s t : State) : Prop where
  cycle : t.cycle = s.cycle.putAway st
  climate : t.climate = watchOff s.climate
  longPress : t.panel.longPress = s.panel.longPress
  buzzer : t.panel.buzzer = s.panel.buzzer
  history : t.faults.history = s.faults.history
  ordered : FaultsOrdered t.faults
  notice : KeepsNotice s t
  handed : Handed t
  frame : CabinetFrame s t

theorem leaveTo_keepsNotice (st : CycleState) (s : State) : KeepsNotice s (leaveTo st s) := by
  unfold leaveTo; dsimp only; split <;> exact .refl s

theorem putAway_leaveTo {st : CycleState} (ha : Away st) {s : State} (ho : FaultsOrdered s.faults) :
    PutAway st s (checkLock (handOver (leaveTo st s))) := by
  have hrest : Resting (leaveTo st s).cycle := by
    rw [leaveTo_cycle]
    rcases ha with rfl | rfl | rfl | rfl <;> exact resting_putAway (by decide) (by decide)
  have hkept := checkLock_handOver_restKept (leaveTo_ordered st ho) hrest
  obtain ⟨-, hord, -⟩ := checkLock_rest (s := handOver (leaveTo st s)) (by rw [handOver_faults]; exact leaveTo_ordered st ho)
    (by rw [(handOver_restKept hrest).cycle]; exact hrest)
  obtain ⟨-, -, -, hlong, hbuzzer, -⟩ := leaveTo_panel st s
  obtain ⟨-, -, hhist⟩ := leaveTo_faults_lists st s
  exact ⟨hkept.cycle.trans (leaveTo_cycle st s), hkept.climate.trans (leaveTo_climate st s), hkept.longPress.trans hlong,
    hkept.buzzer.trans hbuzzer, hkept.history.trans hhist, hord, (leaveTo_keepsNotice st s).trans hkept.notice,
    (handed_handOver _).checkLock,
    (leaveTo_cabinetFrame st s).trans ((handOver_cabinetFrame _).trans (checkLock_cabinetFrame _))⟩

/-- What follows from a cycle put away: nothing is wanted and nothing drawn (R24, R25, R150). -/
theorem PutAway.off {st : CycleState} {s t : State} (h : PutAway st s t) (hst : st ≠ .running) :
    t.request.want = 0 ∧ t.request.cls = 0 ∧ t.request.valve = false ∧ t.loads.draw = 0 :=
  h.handed.off (by rw [h.cycle]; exact hst)

theorem PutAway.boost {st : CycleState} {s t : State} (h : PutAway st s t) : t.request.boost = 0 := by
  rw [h.handed.2]; simp [formRequest, h.cycle]

/-- In IDLE, DONE and STANDBY the fan is requested off (R29). -/
theorem PutAway.fan {st : CycleState} {s t : State} (h : PutAway st s t) (hst : st = .idle ∨ st = .done ∨ st = .standby) :
    t.request.fan = 0 := by
  rw [h.handed.2]
  rcases hst with rfl | rfl | rfl <;> simp [formRequest, fanRequest, h.cycle]

theorem PutAway.readings {st : CycleState} {s t : State} (h : PutAway st s t) : KeepsReadings s t :=
  keepsReadings_of_watchOff h.climate

/-- Settles O16: the cycle is put away in IDLE, and the abandon tone is asked for after that. -/
theorem pauseExpiryAbandonsCycle : Obligations.PauseExpiryAbandonsCycle := by
  intro s hl ho hpause
  have h := putAway_leaveTo (st := .idle) (.inl rfl) ho
  obtain ⟨hwant, -, -, hdraw⟩ := h.off (by decide)
  have hexec : exec .pauseTimerExpiry s = .next (sound .abandon (checkLock (handOver (leaveTo .idle s)))) :=
    (live_of_live hl _).trans (congrArg Host.Outcome.next (by simp [pauseExpiry, hpause]))
  exact ⟨_, hexec, h.cycle, by rw [sound_buzzer, h.buzzer], hwant, h.fan (.inl rfl), hdraw, h.readings, h.frame⟩

end Sys2Proof.Machine

namespace Sys2Proof.Machine

/-! PROOFS. CANCEL by cycle state and by Tmax (R35, R40, R41). -/

theorem cancelClicked_cabinetFrame (s : State) : CabinetFrame s (cancelClicked s) :=
  ⟨.refl s, rfl, rfl, rfl, .refl s, .refl s, rfl, rfl, rfl⟩

theorem coolingCycle_cycle (s : State) :
    (coolingCycle s).cycle = { s.cycle.putAway .cancelCool with cancelCool := some 600000 } := by
  show { (leaveTo .cancelCool s).cycle with cancelCool := some cancelCoolMs } = _
  rw [leaveTo_cycle]; rfl

theorem coolingCycle_resting (s : State) : Resting (coolingCycle s).cycle := by
  rw [coolingCycle_cycle]; exact ⟨by simp, by simp, rfl, rfl⟩

/-- In CANCEL_COOL the lamp of COOL begins to flash lit, unless it is flashing already (R175). -/
theorem formedLamp_coolingCycle {s : State} (h : ∀ on, s.panel.phaseLamp ≠ .flashing .cool on) :
    formedLamp (coolingCycle s) = (.flashing .cool true, some 500) := by
  obtain ⟨-, -, -, -, -, hlamp, -⟩ := leaveTo_panel .cancelCool s
  exact formedLamp_of_new_flash (by rw [coolingCycle_cycle]; rfl) (fun on => (show (coolingCycle s).panel.phaseLamp = _ from hlamp) ▸ h on)

/-- The cycle cooling once its requests are handed over and the lock is looked at (R41). -/
structure Cooling (s t : State) : Prop where
  cycle : t.cycle = { s.cycle.putAway .cancelCool with cancelCool := some 600000 }
  climate : t.climate = watchOff s.climate
  longPress : t.panel.longPress = s.panel.longPress
  lamp : (∀ on, s.panel.phaseLamp ≠ .flashing .cool on) →
    t.panel.phaseLamp = .flashing .cool true ∧ t.panel.flash = some 500
  handed : Handed t
  frame : CabinetFrame s t

theorem cooling_enterCancelCool {s : State} (ho : FaultsOrdered s.faults) : Cooling s (checkLock (enterCancelCool s)) := by
  have hkept : RestKept (coolingCycle s) (checkLock (enterCancelCool s)) :=
    checkLock_handOver_restKept (leaveTo_ordered .cancelCool ho) (coolingCycle_resting s)
  have hhanded : Handed (checkLock (enterCancelCool s)) := (handed_handOver (coolingCycle s)).checkLock
  obtain ⟨-, -, -, hlong, -⟩ := leaveTo_panel .cancelCool s
  refine ⟨hkept.cycle.trans (coolingCycle_cycle s), hkept.climate.trans (leaveTo_climate .cancelCool s),
    hkept.longPress.trans hlong, fun hnot => ?_, hhanded, ?_⟩
  · have hpair := (formedLamp_of_settled hhanded.1).trans (hkept.lamp.trans (formedLamp_coolingCycle hnot))
    exact Prod.mk.inj hpair
  · exact (leaveTo_cabinetFrame .cancelCool s).trans
      (CabinetFrame.trans (t := coolingCycle s) ⟨.refl _, rfl, rfl, rfl, .refl _, .refl _, rfl, rfl, rfl⟩
        ((handOver_cabinetFrame _).trans (checkLock_cabinetFrame _)))

theorem cycleCancel_of_phase {s : State} (h : s.cycle.st = .running ∨ s.cycle.st = .held ∨ s.cycle.st = .paused) :
    cycleCancel s = checkLock (if coolTemp ≤ s.climate.tmax then enterCancelCool s else handOver (leaveTo .idle s)) := by
  unfold cycleCancel
  rcases h with h | h | h <;> rw [h]

theorem cycleCancel_of_done {s : State} (h : s.cycle.st = .done ∨ (s.cycle.st = .halted ∧ s.faults.activeClass ≠ some .a)) :
    cycleCancel s = checkLock (handOver (leaveTo .idle s)) := by
  unfold cycleCancel
  rcases h with h | ⟨h, ha⟩
  · rw [h]
  · rw [h]; exact if_neg ha

theorem cycleCancel_of_other {s : State}
    (h : s.cycle.st = .idle ∨ s.cycle.st = .cancelCool ∨ s.cycle.st = .standby ∨
      (s.cycle.st = .halted ∧ s.faults.activeClass = some .a)) : cycleCancel s = s := by
  unfold cycleCancel
  rcases h with h | h | h | ⟨h, ha⟩
  · rw [h]
  · rw [h]
  · rw [h]
  · rw [h]; exact if_pos ha

/-- Settles O14: a press taken after learning acts on the state in which CANCEL is taken with its click, by the three lemmas on
`cycleCancel`. -/
theorem cancelByCycleState : Obligations.CancelByCycleState := by
  intro s hl hkey hlearned ho
  have hexec : exec .cancelPress s = .next (cycleCancel (cancelClicked s)) := by
    refine (live_of_live hl _).trans (congrArg Host.Outcome.next ?_)
    rw [cancelPress_of_settled hkey, if_pos hlearned]
  have hclick := cancelClicked_cabinetFrame s
  refine ⟨fun hst => ?_, fun hst => ?_, fun hst => ?_⟩
  · rw [cycleCancel_of_phase (s := cancelClicked s) hst] at hexec
    refine ⟨_, hexec, ?_⟩
    by_cases hhot : 90 ≤ s.climate.tmax
    · have hc : Cooling (cancelClicked s) _ := cooling_enterCancelCool ho
      rw [if_pos (show coolTemp ≤ (cancelClicked s).climate.tmax from hhot)]
      obtain ⟨hwant, hcls, hvalve, hdraw⟩ := hc.handed.off (by rw [hc.cycle]; simp)
      have hfan : (checkLock (enterCancelCool (cancelClicked s))).request.fan = 3 := by
        rw [hc.handed.2]; simp [formRequest, fanRequest, hc.cycle]
      have hboost : (checkLock (enterCancelCool (cancelClicked s))).request.boost = 0 := by
        rw [hc.handed.2]; simp [formRequest, hc.cycle]
      refine ⟨?_, hwant, hcls, hboost, hvalve, ?_, ?_, hdraw, fun _ hnot => hc.lamp hnot, hc.longPress,
        keepsReadings_of_watchOff hc.climate, hclick.trans hc.frame⟩
      · rw [if_pos hhot, if_pos hhot]; exact hc.cycle
      · rw [if_pos hhot]; exact hfan
      · rw [hc.climate]; exact watchOff_isOff _
    · have hi : PutAway .idle (cancelClicked s) _ := putAway_leaveTo (.inl rfl) ho
      rw [if_neg (show ¬coolTemp ≤ (cancelClicked s).climate.tmax from hhot)]
      obtain ⟨hwant, hcls, hvalve, hdraw⟩ := hi.off (by decide)
      refine ⟨?_, hwant, hcls, hi.boost, hvalve, ?_, ?_, hdraw, fun h => absurd h hhot, hi.longPress, hi.readings,
        hclick.trans hi.frame⟩
      · rw [if_neg hhot, if_neg hhot]; exact hi.cycle
      · rw [if_neg hhot]; exact hi.fan (.inl rfl)
      · rw [hi.climate]; exact watchOff_isOff _
  · have hi : PutAway .idle (cancelClicked s) _ := putAway_leaveTo (.inl rfl) ho
    rw [cycleCancel_of_done (s := cancelClicked s) hst] at hexec
    obtain ⟨hwant, -, -, hdraw⟩ := hi.off (by decide)
    exact ⟨_, hexec, hi.cycle, hwant, hi.fan (.inl rfl), hdraw, hi.longPress, hi.readings, hclick.trans hi.frame⟩
  · rw [cycleCancel_of_other (s := cancelClicked s) hst] at hexec
    exact hexec

end Sys2Proof.Machine

namespace Sys2Proof.Machine

/-! PROOFS. The second timer: the programme's clock, starvation, and the end of a phase (R20 to R22, R27, R28). -/

/-! ## The clock and starvation -/

/-- A second of a phase that neither starves nor ends is taken off it (R20). -/
theorem secondExpiry_of_run {s : State} (hst : s.cycle.st = .running) (hsec : s.cycle.second.isSome = true)
    (hfed : s.cycle.starved = false) (hrem : 1 < s.cycle.remaining) :
    secondExpiry s = { s with cycle := { s.cycle with second := some 1000, remaining := s.cycle.remaining - 1 } } := by
  have hne : s.cycle.remaining - 1 ≠ 0 := by omega
  simp [secondExpiry, hst, hsec, hfed, hne, secondMs]

/-- A starved phase with one more second counted (R22). -/
def countedSecond (s : State) : State :=
  { s with cycle := { s.cycle with second := some 1000, starvedSecs := s.cycle.starvedSecs + 1 } }

/-- A starved phase at its sixtieth second: the count starts again and the boost rises, up to 7 (R22). -/
def boostedSecond (s : State) : State :=
  { s with cycle := { s.cycle with second := some 1000, starvedSecs := 0, boost := min (s.cycle.boost + 1) 7 } }

/-- A second of a starved phase is counted or raises the boost, and the phase is handed over (R20, R22). -/
theorem secondExpiry_of_starved {s : State} (hst : s.cycle.st = .running) (hsec : s.cycle.second.isSome = true)
    (hstarved : s.cycle.starved = true) :
    secondExpiry s = handOver (if s.cycle.starvedSecs + 1 = 60 then boostedSecond s else countedSecond s) := by
  unfold secondExpiry
  rw [if_pos ⟨hsec, hst⟩]
  dsimp only
  rw [if_pos hstarved]
  unfold starvedSecond
  dsimp only
  split
  case isTrue h => rw [if_pos (show s.cycle.starvedSecs + 1 = 60 from h)]; rfl
  case isFalse h => rw [if_neg (show ¬ s.cycle.starvedSecs + 1 = 60 from h)]; rfl

/-- Settles O18: by the starvation flag, and a starved second by whether it is the sixtieth. -/
theorem secondRunsOrStarves : Obligations.SecondRunsOrStarves := by
  intro s hl hst hsec hsettled hfresh
  have hexec : exec .secondTimerExpiry s = .next (secondExpiry s) := live_of_live hl _
  refine ⟨fun hfed hrem => ?_, fun hstarved hlt => ?_, fun hstarved h59 => ?_⟩
  · rw [hexec, secondExpiry_of_run hst hsec hfed hrem]
  · have hsame : settle (countedSecond s) = countedSecond s :=
      settled_of_clock (hsettled hl) (some 1000) s.cycle.remaining (s.cycle.starvedSecs + 1) (.inl hstarved)
    rw [hexec, secondExpiry_of_starved hst hsec hstarved, if_neg (by omega),
      handOver_of_fresh (s := countedSecond s) (hfresh hl), hsame]
    rfl
  · rw [secondExpiry_of_starved hst hsec hstarved, if_pos (by omega)] at hexec
    have hreq : formRequest (boostedSecond s) = { s.request with boost := min (s.cycle.boost + 1) 7 } := by
      rw [hfresh hl]; rfl
    have hcycle : (handOver (boostedSecond s)).cycle = { (boostedSecond s).cycle with
        starved := (handOver (boostedSecond s)).cycle.starved
        starvedSecs := (handOver (boostedSecond s)).cycle.starvedSecs } := handOver_keepsPhase (boostedSecond s)
    have hsecs : (handOver (boostedSecond s)).cycle.starvedSecs = 0 := handOver_starvedSecs_of_zero rfl
    rw [hsecs] at hcycle
    have hframe : CabinetFrame s (boostedSecond s) := ⟨.refl s, rfl, rfl, rfl, .refl s, .refl s, rfl, rfl, rfl⟩
    refine ⟨_, hexec, hcycle, (handOver_request _).trans hreq, handOver_climate _, handOver_faults _, ?_,
      hframe.trans (handOver_cabinetFrame _)⟩
    exact handOver_keepsNotice (s := boostedSecond s) (hreq ▸ Nat.le_refl s.request.want)

end Sys2Proof.Machine

namespace Sys2Proof.Machine

/-! PROOFS. The last second of a phase: the next record is entered, or the programme is complete (R27, R28). -/

/-! ## The next record -/

/-- Only the first phase of a programme uses steam (R13). -/
theorem readRom_succ_usesSteam {p : Fin 8} {i : Nat} {r : Record} (h : readRom p (i + 1) = some r) : r.kind.usesSteam = false := by
  have short : ∀ p : Fin 8, (programme p.val).length ≤ 4 := by decide
  have hi : i + 1 < 4 := by
    obtain ⟨hlt, -⟩ := List.getElem?_eq_some_iff.1 h
    exact Nat.lt_of_lt_of_le hlt (short p)
  obtain ⟨-, hfirst, -⟩ := romFollowsItsPatterns p ⟨i + 1, hi⟩ r h
  have hkind : ¬(r.kind = .steam ∨ r.kind = .freshen) := fun hk => Nat.succ_ne_zero i (hfirst hk).1
  cases hk : r.kind <;> simp [hk] at hkind <;> rfl

/-- The next phase uses no steam, so it is entered whatever the water level (R26, R27). -/
theorem endPhase_of_next {r : Record} {s : State} (h : readRom s.cycle.programme (s.cycle.index + 1) = some r) :
    endPhase s = handOver (enteredPhase (s.cycle.index + 1) r s) := by
  unfold endPhase
  rw [h]
  exact enterPhase_of_water (.inr (readRom_succ_usesSteam h))

/-- A later phase of a programme, entered in RUNNING with its requests handed on (R19, R24, R25, R29, R53). -/
structure NextEntered (r : Record) (s t : State) : Prop where
  cycle : t.cycle =
    { s.cycle with
      st := .running, index := s.cycle.index + 1, record := some r, remaining := 60 * r.minutes, second := some 1000
      starved := t.cycle.starved, starvedSecs := 0, boost := 0, latch := true }
  request : t.request =
    { steam := r.steam.getD 0, heater := r.heater.getD 0, cls := r.kind.cls, boost := 0, fan := r.fan,
      lock := r.kind.needsLock || decide (lockTemp ≤ s.climate.tmax), valve := false }
  climate : t.climate = watchEntry r s.climate
  faults : t.faults = s.faults
  handed : Handed t
  frame : CabinetFrame s t

theorem nextEntered_endPhase {r : Record} {s : State} (h : readRom s.cycle.programme (s.cycle.index + 1) = some r) :
    NextEntered r s (endPhase s) := by
  have hdry := readRom_succ_usesSteam h
  have hreq : formRequest (enteredPhase (s.cycle.index + 1) r s) =
      { steam := r.steam.getD 0, heater := r.heater.getD 0, cls := r.kind.cls, boost := 0, fan := r.fan,
        lock := r.kind.needsLock || decide (lockTemp ≤ s.climate.tmax), valve := false } := by
    rw [formRequest_enteredPhase, hdry, (readRom_fields h).1 hdry]; rfl
  have hcycle : KeepsPhase (enteredPhase (s.cycle.index + 1) r s) (handOver (enteredPhase (s.cycle.index + 1) r s)) :=
    handOver_keepsPhase _
  unfold KeepsPhase at hcycle
  rw [handOver_starvedSecs_of_zero (s := enteredPhase (s.cycle.index + 1) r s) rfl] at hcycle
  have hframe : CabinetFrame s (endPhase s) := endPhase_cabinetFrame s
  rw [endPhase_of_next h] at hframe ⊢
  exact ⟨hcycle, (handOver_request _).trans hreq, handOver_climate _, handOver_faults _, handed_handOver _, hframe⟩

/-- The phase in hand has its lamp lit while it runs (R175). -/
theorem Handed.lamp_of_running {r : Record} {s : State} (h : Handed s) (hst : s.cycle.st = .running)
    (hrec : s.cycle.record = some r) : s.panel.phaseLamp = .lit r.kind := by
  obtain ⟨-, -, -, -, hlamps⟩ := h.outputs
  unfold LampsByTable at hlamps
  obtain ⟨hphase, -⟩ := hlamps
  simpa [hst, Cycle.kind, hrec] using hphase

/-- In DONE its lamp is lit and no phase's (R175). -/
theorem Handed.lamp_of_done {s : State} (h : Handed s) (hst : s.cycle.st = .done) :
    s.panel.doneLamp = true ∧ s.panel.phaseLamp = .dark := by
  obtain ⟨-, -, -, -, hlamps⟩ := h.outputs
  unfold LampsByTable at hlamps
  obtain ⟨hphase, hdone, -⟩ := hlamps
  exact ⟨hdone.2 hst, by simpa [hst] using hphase⟩

/-! ## The end of the programme -/

theorem endPhase_of_last {s : State} (h : readRom s.cycle.programme (s.cycle.index + 1) = none) :
    endPhase s = sound .doneTones (handOver (leaveTo .done s)) := by
  unfold endPhase
  rw [h]
  rfl

/-- Outside IDLE a phase is left with the faults and their code as they stand. -/
theorem leaveTo_faults_of_not_idle {st : CycleState} {s : State} (h : s.cycle.st ≠ .idle) :
    (leaveTo st s).faults = s.faults := by
  unfold leaveTo; rw [if_neg h]

/-! ## The last second -/

/-- The last second of a phase taken off it. -/
def tickedOut (s : State) : State :=
  { s with cycle := { s.cycle with second := some 1000, remaining := 0 } }

theorem tickedOut_cabinetFrame (s : State) : CabinetFrame s (tickedOut s) :=
  ⟨.refl s, rfl, rfl, rfl, .refl s, .refl s, rfl, rfl, rfl⟩

theorem secondExpiry_of_last {s : State} (hst : s.cycle.st = .running) (hsec : s.cycle.second.isSome = true)
    (hfed : s.cycle.starved = false) (hrem : s.cycle.remaining = 1) :
    secondExpiry s = checkLock (endPhase (tickedOut s)) := by
  simp [secondExpiry, hst, hsec, hfed, hrem, tickedOut, secondMs]

/-- Settles O19: the second ends the phase on the state it leaves, and no LOCK_FAULT is held for the lock request to withdraw. -/
theorem phaseEndsByTime : Obligations.PhaseEndsByTime := by
  intro r s hl hst hsec hfed hrem hcalm ho
  have hexec : exec .secondTimerExpiry s = .next (checkLock (endPhase (tickedOut s))) :=
    (live_of_live hl _).trans (congrArg Host.Outcome.next (secondExpiry_of_last hst hsec hfed hrem))
  have hlock : s.faults.holds .lockFault = false := holds_of_calm ho hcalm (by decide)
  refine ⟨fun hr => ?_, fun hr => ?_⟩
  · have h : NextEntered r (tickedOut s) (endPhase (tickedOut s)) := nextEntered_endPhase hr
    rw [checkLock_of_not_held (by rw [h.faults]; exact hlock)] at hexec
    obtain ⟨hwatch, hdrop, hpeak, hwarm, htrack, hpoint⟩ := watchEntry_of_rom hr s.climate
    have hclim : (endPhase (tickedOut s)).climate = watchEntry r s.climate := h.climate
    have hreq := h.request
    refine ⟨_, hexec, ?_, by rw [hreq], by rw [hreq], by rw [hreq], by rw [hreq], by rw [hreq], fun hk => ?_,
      fun hk => ?_, h.handed.lamp_of_running (by rw [h.cycle]) (by rw [h.cycle]), h.faults, ?_,
      (tickedOut_cabinetFrame s).trans h.frame⟩
    · rw [h.cycle, hst.symm]; rfl
    · rw [hclim]; exact watchEntry_off hk _
    · rw [hclim]; exact ⟨hwatch.trans (if_pos hk), hpeak, hdrop, hwarm.trans (if_pos hk), htrack, hpoint⟩
    · unfold KeepsReadings; rw [hclim]; exact watchEntry_keepsReadings r s
  · have hdone : PutAway .done (tickedOut s) (checkLock (handOver (leaveTo .done (tickedOut s)))) :=
      putAway_leaveTo (.inr (.inr (.inl rfl))) ho
    have hfaults : (handOver (leaveTo .done (tickedOut s))).faults = s.faults :=
      (handOver_faults _).trans (leaveTo_faults_of_not_idle (by simp [tickedOut, hst]))
    rw [endPhase_of_last (s := tickedOut s) hr, checkLock_of_not_held (by rw [sound_faults, hfaults]; exact hlock)] at hexec
    rw [checkLock_of_not_held (by rw [hfaults]; exact hlock)] at hdone
    obtain ⟨hwant, hcls, -, -⟩ := hdone.off (by decide)
    obtain ⟨hlamp, hdark⟩ := hdone.handed.lamp_of_done (by rw [hdone.cycle]; rfl)
    refine ⟨_, hexec, hdone.cycle, hwant, hcls, ?_, hlamp, hdark, ?_, hfaults, hdone.readings,
      (tickedOut_cabinetFrame s).trans hdone.frame⟩
    · rw [sound_buzzer, hdone.buzzer]; rfl
    · rw [sound_climate, hdone.climate]; exact watchOff_isOff _

end Sys2Proof.Machine

namespace Sys2Proof.Machine

/-! PROOFS. A steaming phase held by WATER_EMPTY, and an accepted START in PAUSED (R26, R32, R38, R56). -/

/-! ## Held by WATER_EMPTY -/

/-- A RUNNING cycle put on hold (R32). -/
def heldCycle (c : Cycle) : Cycle := { c with st := .held, second := none, starved := false, starvedSecs := 0 }

/-- A steaming phase held by WATER_EMPTY once its requests are withdrawn (R24, R25, R26, R32, R169). -/
structure HeldEmpty (s t : State) : Prop where
  cycle : t.cycle = heldCycle s.cycle
  active : t.faults.active = some .waterEmpty
  code : t.faults.code = 5
  history : t.faults.history = s.faults.history
  request : t.request = formRequest t
  handed : Handed t
  climate : t.climate = s.climate
  frame : CabinetFrame s t

/-- Handing over a steaming phase with the level low, no class A or B fault active, ends where WATER_EMPTY holds it. -/
theorem heldEmpty_checkWater {s : State} (hsteam : s.cycle.steaming = true) (hlow : s.lines.waterLow = true)
    (ho : FaultsOrdered s.faults) (hcalm : s.faults.blocking = false) :
    HeldEmpty s (checkLock (checkWater (handOver s))) := by
  have hst : s.cycle.st = .running := by
    have := (Bool.and_eq_true _ _).mp hsteam
    exact of_decide_eq_true this.1
  have hf : (handOver s).faults = s.faults := handOver_faults s
  have hlines : (handOver s).lines = s.lines := handOver_lines s
  have hsteam' : (handOver s).cycle.steaming = true := by
    unfold Cycle.steaming at hsteam ⊢; rwa [handOver_cycle_st, handOver_cycle_record]
  have hwater : checkWater (handOver s) = holdCycle (endDisplay { handOver s with faults := raiseInto .waterEmpty s.faults }) := by
    unfold checkWater
    rw [if_pos (by rw [hsteam', hlines, hlow]; rfl),
      raiseFault_of_classB_running rfl (by rwa [hf]) (by rwa [hf]) (by rwa [handOver_cycle_st]), hf]
  have hact : (raiseInto .waterEmpty s.faults).active = some .waterEmpty := raiseInto_active_of_calm ho hcalm (by decide)
  have hlock : (raiseInto .waterEmpty s.faults).holds .lockFault = false := by
    rw [← Bool.not_eq_true, raiseInto_holds, holds_of_calm ho hcalm (by decide)]; decide
  have hfaults : (checkWater (handOver s)).faults =
      { raiseInto .waterEmpty s.faults with code := (raiseInto .waterEmpty s.faults).activeCode } := by
    rw [hwater]; exact handOver_faults _
  have hstay : checkLock (checkWater (handOver s)) = checkWater (handOver s) :=
    checkLock_of_not_held (by rw [hfaults]; exact hlock)
  have hcycle : (checkWater (handOver s)).cycle = heldCycle s.cycle := by
    have hphase : KeepsPhase s (handOver s) := handOver_keepsPhase s
    unfold KeepsPhase at hphase
    rw [hwater]
    refine (handOver_cycle_of_not_running (by simp) rfl rfl).trans ?_
    rw [endDisplay_cycle]
    dsimp only
    rw [hphase]; rfl
  have hhanded : Handed (checkWater (handOver s)) := by rw [hwater]; exact handed_handOver _
  rw [hstay]
  refine ⟨hcycle, by rw [hfaults]; exact hact, ?_, by rw [hfaults]; exact raiseInto_history _ _, hhanded.2, hhanded, ?_,
    (handOver_cabinetFrame s).trans (checkWater_cabinetFrame _)⟩
  · rw [hfaults]; simp [FaultUnit.activeCode, hact, FaultKind.code]
  · rw [hwater]; exact (handOver_climate _).trans (handOver_climate s)

/-- A held phase keeps its boost in the request (R25). -/
theorem HeldEmpty.boost {s t : State} (h : HeldEmpty s t) : t.request.boost = s.cycle.boost := by
  rw [h.request]; simp [formRequest, h.cycle, heldCycle]

/-! ## The press -/

/-- START_PRESS in PAUSED, its debounce run out, after learning, with the door closed and no class A or B fault active, restores
the phase (R17, R38, R174). -/
theorem startPress_of_paused {sel2 sel1 sel0 : Bool} {x : PauseContext} {s : State}
    (hkey : s.panel.start.settles true = true) (hlearned : s.feeder.window.isSome = true) (hst : s.cycle.st = .paused)
    (hx : s.cycle.context = some x) (hdoor : s.lines.doorOpen = false) (hcalm : s.faults.blocking = false) :
    startPress sel2 sel1 sel0 s = checkLock (checkWater (handOver (resumedPhase x (startClicked s)))) := by
  have hpaused : (startClicked s).cycle.st = .paused := hst
  have hcontext : (startClicked s).cycle.context = some x := hx
  have hallowed : startAllowed (startClicked s) = true := by
    show (!s.lines.doorOpen && !s.faults.blocking) = true
    rw [hdoor, hcalm]; rfl
  rw [startPress_of_settled hkey, if_pos hlearned]
  unfold cycleStart
  rw [hpaused]
  dsimp only
  rw [if_pos hallowed]
  unfold resumeCycle
  rw [hcontext]
  rfl

theorem resumedPhase_cabinetFrame (x : PauseContext) (s : State) : CabinetFrame s (resumedPhase x (startClicked s)) :=
  ⟨.refl s, rfl, rfl, rfl, .refl s, .refl s, rfl, rfl, rfl⟩

/-- The dry watch of a resumed phase: the ring is empty, a DRY phase warms up afresh on its saved peak, any other leaves it off
(R38, R56). -/
theorem watchResume_of_record (r : Record) (peak : Option Nat) (c : Climate) :
    (watchResume (some r) peak c).ring = [] ∧ (watchResume (some r) peak c).dryPoint = false ∧
      (r.kind = .dry →
        (watchResume (some r) peak c).watch = .warmUp ∧ (watchResume (some r) peak c).peak = peak.getD 0 ∧
          (watchResume (some r) peak c).drop = r.drop ∧ (watchResume (some r) peak c).warmUp = some 120000 ∧
          (watchResume (some r) peak c).tracking = none) ∧
      (r.kind ≠ .dry → WatchIsOff (watchResume (some r) peak c)) := by
  by_cases hd : r.kind = .dry
  · simp [watchResume, hd, warmUpMs]
  · simp [watchResume, hd, watchOff, WatchIsOff]

/-- The requests of a resumed phase with water enough: its record's, at latch on (R24, R25, R38). -/
theorem formRequest_resumedPhase {x : PauseContext} {r : Record} {s : State}
    (hr : readRom s.cycle.programme x.index = some r) (hw : s.lines.waterLow = false ∨ r.kind.usesSteam = false) :
    (formRequest (resumedPhase x s)).steam = r.steam.getD 0 ∧ (formRequest (resumedPhase x s)).heater = r.heater.getD 0 ∧
      (formRequest (resumedPhase x s)).cls = r.kind.cls ∧ (formRequest (resumedPhase x s)).boost = x.boost := by
  have hsteam : r.kind.usesSteam = false → r.steam = none := (readRom_fields hr).1
  refine ⟨?_, by simp [formRequest, resumedPhase, heaterPart, hr], by simp [formRequest, resumedPhase, classOf, hr],
    by simp [formRequest, resumedPhase]⟩
  cases hu : r.kind.usesSteam with
  | false => simp [formRequest, resumedPhase, steamPart, Cycle.steaming, hr, hu, hsteam hu]
  | true =>
    rw [hu] at hw
    simp [formRequest, resumedPhase, steamPart, Cycle.steaming, hr, hu, hw.resolve_right (by decide)]

theorem resumedPhase_steaming {x : PauseContext} {r : Record} {s : State}
    (hr : readRom s.cycle.programme x.index = some r) : (resumedPhase x s).cycle.steaming = r.kind.usesSteam := by
  simp [Cycle.steaming, resumedPhase, hr]

/-- With water enough a resumed phase runs on once its requests are handed on. -/
theorem checkWater_of_water {s : State} (h : s.lines.waterLow = false ∨ s.cycle.steaming = false) :
    checkWater (handOver s) = handOver s := by
  have hs : (handOver s).cycle.steaming = s.cycle.steaming := by
    unfold Cycle.steaming; rw [handOver_cycle_st, handOver_cycle_record]
  unfold checkWater
  rw [hs, handOver_lines]
  rcases h with h | h <;> simp [h]

/-- Settles O13: the press restores the phase; with water enough it ends where the requests are handed on, and with the level low
where WATER_EMPTY holds the phase. -/
theorem startResumesPausedPhase : Obligations.StartResumesPausedPhase := by
  intro sel2 sel1 sel0 x r s hl hkey hlearned hst hx hr hdoor hcalm ho
  have hexec : exec (.startPress sel2 sel1 sel0) s =
      .next (checkLock (checkWater (handOver (resumedPhase x (startClicked s))))) :=
    (live_of_live hl _).trans
      (congrArg Host.Outcome.next (startPress_of_paused hkey hlearned hst hx hdoor hcalm))
  have hsteam : (resumedPhase x (startClicked s)).cycle.steaming = r.kind.usesSteam := resumedPhase_steaming hr
  have hrec : (resumedPhase x (startClicked s)).cycle.record = some r := hr
  have hwatch : (resumedPhase x (startClicked s)).climate = watchResume (some r) x.peak s.climate :=
    congrArg (fun o => watchResume o x.peak s.climate) hr
  obtain ⟨hring, hpoint, hdry, hoff⟩ := watchResume_of_record r x.peak s.climate
  refine ⟨fun hw => ?_, fun hlow hu => ?_⟩
  · have hfaults : (handOver (resumedPhase x (startClicked s))).faults = s.faults := handOver_faults _
    rw [checkWater_of_water (hsteam ▸ hw),
      checkLock_of_not_held (by rw [hfaults]; exact holds_of_calm ho hcalm (by decide))] at hexec
    have hcycle : (handOver (resumedPhase x (startClicked s))).cycle = _ := handOver_keepsPhase _
    have hclim : (handOver (resumedPhase x (startClicked s))).climate = watchResume (some r) x.peak s.climate :=
      (handOver_climate _).trans hwatch
    obtain ⟨hsteamPart, hheater, hcls, hboost⟩ := formRequest_resumedPhase (s := startClicked s) hr hw
    rw [← handOver_request] at hsteamPart hheater hcls hboost
    refine ⟨_, hexec, by rw [hcycle]; rfl, by rw [hcycle]; rfl, by rw [hcycle]; rfl, by rw [hcycle]; rfl, by rw [hcycle]; rfl,
      by rw [hcycle]; exact hrec, by rw [hcycle]; rfl, handOver_starvedSecs_of_zero rfl, by rw [hcycle]; rfl,
      by rw [hcycle]; rfl, by rw [hcycle]; rfl, hsteamPart, hheater, hcls, hboost, by rw [hclim]; exact hring,
      by rw [hclim]; exact hpoint, fun hk => by rw [hclim]; exact hdry hk, fun hk => by rw [hclim]; exact hoff hk, hfaults,
      (resumedPhase_cabinetFrame x s).trans (handOver_cabinetFrame _)⟩
  · have h : HeldEmpty (resumedPhase x (startClicked s)) _ :=
      heldEmpty_checkWater (hsteam.trans hu) hlow ho hcalm
    obtain ⟨hwant, hcls, -, hdraw⟩ := h.handed.off (by rw [h.cycle]; simp [heldCycle])
    have hkind : r.kind ≠ .dry := by intro hk; rw [hk] at hu; cases hu
    have hclim := h.climate.trans hwatch
    refine ⟨_, hexec, ?_, h.active, h.code, h.history, hwant, hcls, h.boost, hdraw, by rw [hclim]; exact hring,
      by rw [hclim]; exact hoff hkind, (resumedPhase_cabinetFrame x s).trans h.frame⟩
    rw [h.cycle, ← hrec]
    rfl

end Sys2Proof.Machine

namespace Sys2Proof.Machine

/-! PROOFS. The door: it pauses a phase and cuts loads, fan and valve; its closing brings the fan back (R36, R37, R56, R151, R157). -/

/-! ## What the door does to the formed outputs -/

/-- With the door open, loads, fan and valve are off wherever the outputs are formed (R36, R151, R157). -/
theorem outputs_of_doorOpen {s : State} (h : settle s = s) (hd : s.lines.doorOpen = true) :
    s.loads.steamLevel = 0 ∧ s.loads.heaterLevel = 0 ∧ s.loads.draw = 0 ∧ s.loads.fan = 0 ∧ s.loads.fanFirst = false ∧
      s.loads.fanSecond = false ∧ s.loads.tachWatchdog = none ∧ s.loads.valve = false ∧ s.loads.fanOff = true := by
  obtain ⟨hfan, -, hlevels, -⟩ := (settled_iff s).1 h
  obtain ⟨hcommand, ⟨hfirst, hsecond⟩, hwatch⟩ := (formFan_fixed_iff s).1 hfan
  obtain ⟨⟨hheaterOff, hsteamOff, hvalveOff, hfanOff⟩, ⟨-, -, hsteam, hheater, hdraw⟩, -, -, hvalve⟩ :=
    (formLevels_fixed_iff s).1 hlevels
  have hzero : s.loads.fan = 0 := hcommand.trans (by simp [fanCommand, hd])
  have hforced : loadsForced s = true := by simp [loadsForced, hd]
  rw [hsteamOff, hforced] at hsteam
  rw [hheaterOff, hforced] at hheater
  refine ⟨hsteam, hheater, by rw [hdraw, hsteam, hheater]; rfl, hzero, by rw [hfirst, hzero]; rfl, by rw [hsecond, hzero]; rfl,
    (hwatch hzero).2, by rw [hvalve, hvalveOff, hd]; simp, hfanOff.trans hd⟩

/-- A fan that forming the outputs turns on gets its tach watchdog (R158). -/
theorem settle_tachWatchdog_of_turnOn {s : State} (hoff : s.loads.fan = 0) (hon : 0 < (settle s).loads.fan) :
    (settle s).loads.tachWatchdog = some 3000 ∧ (settle s).loads.tachConfirmed = s.loads.tachConfirmed := by
  rw [settle_loads_fan] at hon
  have hne : fanCommand s ≠ 0 := by omega
  rw [settle_loads_tachWatchdog, settle_loads_tachConfirmed]
  simp [formFan, driveFan, hne, hoff, tachWatchdogMs]

/-! ## The pause -/

theorem pausedPhase_cabinetFrame (s : State) : CabinetFrame s (pausedPhase s) :=
  ⟨.refl s, rfl, rfl, rfl, .refl s, .refl s, rfl, rfl, rfl⟩

theorem pausedPhase_resting (s : State) : Resting (pausedPhase s).cycle := ⟨by simp [pausedPhase], by simp [pausedPhase], rfl, rfl⟩

/-- The cycle paused once its requests are handed over and the lock is looked at (R37, R56). -/
structure Paused (s t : State) : Prop where
  cycle : t.cycle = (pausedPhase s).cycle
  climate : t.climate = watchOff s.climate
  lamp : ∀ k, s.cycle.kind = some k → (∀ on, s.panel.phaseLamp ≠ .flashing k on) →
    t.panel.phaseLamp = .flashing k true ∧ t.panel.flash = some 500
  handed : Handed t
  frame : CabinetFrame s t

theorem paused_pauseCycle {s : State} (ho : FaultsOrdered s.faults) : Paused s (checkLock (pauseCycle s)) := by
  have hkept : RestKept (pausedPhase s) (checkLock (pauseCycle s)) := checkLock_handOver_restKept ho (pausedPhase_resting s)
  have hhanded : Handed (checkLock (pauseCycle s)) := (handed_handOver (pausedPhase s)).checkLock
  refine ⟨hkept.cycle, hkept.climate, fun k hk hnew => ?_, hhanded, ?_⟩
  · have hkind : (pausedPhase s).cycle.kind = some k := hk
    have htarget : phaseLampFor (pausedPhase s).cycle = .flashing k true := by
      unfold phaseLampFor; rw [hkind]; rfl
    exact Prod.mk.inj ((formedLamp_of_settled hhanded.1).trans (hkept.lamp.trans (formedLamp_of_new_flash htarget hnew)))
  · exact (pausedPhase_cabinetFrame s).trans ((handOver_cabinetFrame _).trans (checkLock_cabinetFrame _))

/-! ## The door -/

/-- The door contact reported (R36). -/
def doorAt (b : Bool) (s : State) : State := { s with lines := { s.lines with doorOpen := b } }

theorem doorOpened_of_phase {s : State} (h : s.cycle.st = .running ∨ s.cycle.st = .held) :
    doorOpened s = checkLock (pauseCycle s) := by
  unfold doorOpened
  rcases h with h | h <;> rw [h]

theorem doorOpened_of_done {s : State} (h : s.cycle.st = .done) : doorOpened s = checkLock (handOver (leaveTo .idle s)) := by
  unfold doorOpened; rw [h]

theorem doorOpened_of_other {s : State} (h : ¬(s.cycle.st = .running ∨ s.cycle.st = .held ∨ s.cycle.st = .done)) :
    doorOpened s = settle s := by
  unfold doorOpened
  cases hst : s.cycle.st <;> simp [hst] at h <;> rfl

theorem CabinetFrame.lines {s t : State} (h : CabinetFrame s t) : t.lines = s.lines := by
  obtain ⟨⟨-, hlines, -⟩, -⟩ := h
  exact hlines

/-- DOOR_OPEN by cycle state (R36, R37, R56). -/
theorem doorOpened_byState {s : State} (ho : FaultsOrdered s.faults) :
    (s.cycle.st = .running ∨ s.cycle.st = .held → Paused s (doorOpened s)) ∧
      (s.cycle.st = .done → PutAway .idle s (doorOpened s)) ∧
      (¬(s.cycle.st = .running ∨ s.cycle.st = .held ∨ s.cycle.st = .done) → doorOpened s = settle s) :=
  ⟨fun h => doorOpened_of_phase h ▸ paused_pauseCycle ho, fun h => doorOpened_of_done h ▸ putAway_leaveTo (.inl rfl) ho,
    doorOpened_of_other⟩

/-- The opening leaves all readings and what no event of the cabinet touches. -/
theorem doorOpened_keeps {s : State} (ho : FaultsOrdered s.faults) :
    KeepsReadings s (doorOpened s) ∧ CabinetFrame s (doorOpened s) := by
  obtain ⟨hphase, hdone, hother⟩ := doorOpened_byState ho
  by_cases hp : s.cycle.st = .running ∨ s.cycle.st = .held
  · exact ⟨keepsReadings_of_watchOff (hphase hp).climate, (hphase hp).frame⟩
  · by_cases hd : s.cycle.st = .done
    · exact ⟨(hdone hd).readings, (hdone hd).frame⟩
    · rw [hother (fun h => h.elim (fun h => hp (.inl h)) (fun h => h.elim (fun h => hp (.inr h)) hd))]
      exact ⟨by simp [KeepsReadings], settle_cabinetFrame s⟩

/-- Settles O20: the opening by what the cycle state makes of it, then the outputs with the door open; the closing forms the
outputs alone. -/
theorem doorByCycleState : Obligations.DoorByCycleState := by
  intro s hl ho
  have hopen : exec .doorOpen s = .next (doorOpened (doorAt true s)) := live_of_live (s := doorAt true s) hl _
  have hclose : exec .doorClose s = .next (settle (doorAt false s)) := live_of_live (s := doorAt false s) hl _
  constructor
  · obtain ⟨hreadings, hframe⟩ := doorOpened_keeps (s := doorAt true s) ho
    obtain ⟨hsteam, hheater, hdraw, hfan, hfirst, hsecond, hwatch, hvalve, hoff⟩ :=
      outputs_of_doorOpen (settledStepUpkeep.doorOpened trivial) (congrArg Lines.doorOpen hframe.lines)
    obtain ⟨hphase, hdone, hother⟩ := doorOpened_byState (s := doorAt true s) ho
    refine ⟨_, hopen, hsteam, hheater, hdraw, hfan, hfirst, hsecond, hwatch, hvalve, hoff, fun hst => ?_, fun hst => ?_,
      fun hst => ?_, hreadings, hframe⟩
    · have h := hphase hst
      have hnot : (doorOpened (doorAt true s)).cycle.st = .paused := by rw [h.cycle]; rfl
      obtain ⟨hwant, hcls, hv, -⟩ := h.handed.off (by rw [hnot]; decide)
      refine ⟨h.cycle, hwant, hcls, ?_, hv, ?_, by rw [h.climate]; exact watchOff_isOff _, h.lamp⟩
      · rw [h.handed.2]; simp [formRequest, fanRequest, hnot]
      · rw [h.handed.2]; simp [formRequest, lockRequest, hnot, h.climate, watchOff, lockTemp]; rfl
    · have h := hdone hst
      obtain ⟨-, -, -, -, hlamps⟩ := h.handed.outputs
      obtain ⟨-, hlamp, -⟩ := hlamps
      refine ⟨h.cycle, ?_⟩
      rw [← Bool.not_eq_true, hlamp, h.cycle]
      simp [Cycle.putAway]
    · rw [hother hst]
      exact ⟨settle_keepsPhase (doorAt true s), settle_request _, settle_climate _, settle_faults _, settle_keepsNotice (doorAt true s)⟩
  · obtain ⟨-, -, htable, -⟩ := outputsByRule_settle (doorAt false s)
    obtain ⟨-, hclosed, hfirst, hsecond⟩ := htable
    obtain ⟨hhalted, hon, -⟩ := hclosed (by simp [doorAt])
    refine ⟨_, hclose, settle_keepsPhase (doorAt false s), settle_request _, settle_climate _, settle_faults _,
      settle_keepsNotice (doorAt false s), fun hst hreq => ?_, fun hst => ?_, hfirst, hsecond,
      fun hzero hpos => settle_tachWatchdog_of_turnOn (s := doorAt false s) hzero hpos, settle_cabinetFrame _⟩
    · exact (hon (by rwa [settle_cycle_st]) (by rwa [settle_request])).trans (by rw [settle_request]; rfl)
    · exact (hhalted (by rwa [settle_cycle_st])).trans (by rw [settle_faults]; rfl)

end Sys2Proof.Machine

namespace Sys2Proof.Machine

/-! PROOFS. POWER by cycle state and membership state (R43, R117, R118). -/

/-! ## A report of class B or C where no phase runs -/

/-- A fault of class B or C raised or withdrawn where no phase runs: the cycle stands, and the other faults do, but for LOCK_FAULT,
which may be withdrawn. -/
structure RestReport (k : FaultKind) (b : Bool) (s t : State) : Prop where
  kept : RestKept s t
  ordered : FaultsOrdered t.faults
  reported : t.faults.holds k = b
  others : ∀ j, j ≠ k → j ≠ .lockFault → t.faults.holds j = s.faults.holds j

theorem reportFault_rest {k : FaultKind} (hk : k.cls ≠ .a) (hne : k ≠ .lockFault) (b : Bool) {s : State}
    (ho : FaultsOrdered s.faults) (hr : Resting s.cycle) : RestReport k b s (reportFault k b s) := by
  have finish : ∀ {u : State}, RestKept s u → FaultsOrdered u.faults → u.faults.holds k = b →
      (∀ j, j ≠ k → u.faults.holds j = s.faults.holds j) → RestReport k b s (checkLock u) := by
    intro u hu hord hrep hoth
    obtain ⟨hkept, hordered, hholds⟩ := checkLock_rest hord (by rwa [hu.cycle])
    exact ⟨hu.trans hkept, hordered, (hholds k hne).trans hrep, fun j hj hl => (hholds j hl).trans (hoth j hj)⟩
  unfold reportFault
  split
  · next hb => exact ⟨.refl s, ho, hb.symm, fun _ _ _ => rfl⟩
  · split
    · next htrue =>
      obtain ⟨ha, hw⟩ := raiseFault_faults k s
      refine finish (raiseFault_restKept hk hr) (faultsOrdered_of_lists (raiseInto_ordered ho) ha hw) ?_ fun j hj => ?_
      · rw [holds_of_lists ha hw, htrue, raiseInto_holds]; exact .inl rfl
      · rw [holds_of_lists ha hw, Bool.eq_iff_iff, raiseInto_holds]; exact or_iff_right hj
    · next hfalse =>
      obtain ⟨hkept, ha, hw⟩ := withdrawCore_restKept hk ho hr
      refine finish hkept (faultsOrdered_of_lists (withdrawFrom_ordered ho) ha hw) ?_ fun j hj => ?_
      · rw [holds_of_lists ha hw, Bool.eq_false_iff.2 hfalse, ← Bool.not_eq_true, withdrawFrom_holds ho]; simp
      · rw [holds_of_lists ha hw, Bool.eq_iff_iff, withdrawFrom_holds ho]; exact and_iff_right hj

/-! ## Membership where no phase runs -/

theorem compute_cycle_of_rest {s : State} (hr : Resting s.cycle) : (compute s).cycle = s.cycle := by
  refine (settle_restKept ?_).cycle
  exact hr

theorem setMember_cycle_of_rest (m : MemberState) {s : State} (hr : Resting s.cycle) : (setMember m s).cycle = s.cycle :=
  compute_cycle_of_rest (s := { s with member := _, share := _ }) hr

theorem loadNotice_cycle_of_rest (k : NoticeKind) {s : State} (hr : Resting s.cycle) : (loadNotice k s).cycle = s.cycle := by
  unfold loadNotice fillSlot; dsimp only; split
  · rfl
  · rw [handFramer_cycle]
    exact compute_cycle_of_rest (s := { s with member := _, share := _ }) hr

theorem setMember_frame (m : MemberState) (s : State) :
    KeepsInputs s (setMember m s) ∧ (setMember m s).table = s.table ∧ (setMember m s).feeder = s.feeder ∧
      KeepsShedding s (setMember m s) ∧ (setMember m s).climate = s.climate ∧
      (setMember m s).member = { s.member with st := m } ∧ (setMember m s).framer = s.framer := by
  simp [setMember, KeepsInputs, KeepsShedding]

/-! ## A LEAVE loaded -/

/-- A LEAVE that falls due takes the slot, or is held over, whatever stands there (R104, R107). -/
theorem slotKeeps_leave (slot : Option Notice) : slotKeeps .leave slot = .leave := by
  cases slot with
  | none => rfl
  | some n =>
    have hrank : ¬n.kind.rank < NoticeKind.leave.rank := by cases n.kind <;> decide
    unfold slotKeeps; exact if_neg hrank

theorem holdOver_leave (held : Option NoticeKind) : holdOver .leave held = some .leave := by
  rcases held with _ | ⟨_ | _ | _ | _ | _⟩ <;> rfl

/-- The station leaving with its LEAVE loaded (R89, R95, R104, R107, R117). -/
structure Leaving (s t : State) : Prop where
  cycle : t.cycle = s.cycle
  st : t.member.st = .leaving
  powerless : t.share.grant = 0 ∧ t.share.allowance = 0
  raiseReady : s.member.st = .member → t.share.raiseReady = none
  free : s.member.inFlight = false → t.member.slot = some .leave ∧ t.member.heldOver = s.member.heldOver
  inFlight : s.member.inFlight = true → t.member.slot = s.member.slot ∧ t.member.heldOver = some .leave
  table : t.table = s.table
  feeder : t.feeder = s.feeder
  shedding : KeepsShedding s t
  climate : t.climate = s.climate
  inputs : KeepsInputs s t

theorem leaving_loadNotice {s : State} (hr : Resting s.cycle) : Leaving s (loadNotice .leave (setMember .leaving s)) := by
  obtain ⟨hin, htable, hfeeder, hshed, hclim, hmember, -⟩ := setMember_frame .leaving s
  obtain ⟨hin', htable', hfeeder', -, hshed', -⟩ := loadNotice_cabinetFrame .leave (setMember .leaving s)
  have hcycle := setMember_cycle_of_rest .leaving hr
  have hready : s.member.st = .member → (setMember .leaving s).share.raiseReady = none := by
    intro hm; simp [setMember, hm]
  by_cases hfly : s.member.inFlight = true
  · have hfly' : (setMember .leaving s).member.inFlight = true := by rw [hmember]; exact hfly
    have e : loadNotice .leave (setMember .leaving s) =
        { setMember .leaving s with member := { (setMember .leaving s).member with heldOver := some .leave } } := by
      unfold loadNotice; rw [if_pos hfly', holdOver_leave]
    rw [e]
    exact ⟨hcycle, by simp, setMember_powerless (by simp [Powerless]) s, hready, fun h => by simp [hfly] at h,
      fun _ => ⟨by simp [hmember], rfl⟩, htable, hfeeder, hshed, hclim, hin⟩
  · have hfree' : ¬(setMember .leaving s).member.inFlight = true := by rw [hmember]; exact hfly
    have e : loadNotice .leave (setMember .leaving s) = fillSlot .leave (setMember .leaving s) := by
      unfold loadNotice; rw [if_neg hfree', slotKeeps_leave]; rfl
    have hcycle' := loadNotice_cycle_of_rest .leave (s := setMember .leaving s) (by rwa [hcycle])
    rw [e] at hcycle' hin' htable' hfeeder' hshed' ⊢
    have hgrant : grantOf (setMember .leaving s) = 0 := by simp [grantOf, baseGrant]
    refine ⟨hcycle'.trans hcycle, by simp, ⟨(fillSlot_grant _ _).trans hgrant, ?_⟩, fun _ => by simp, fun _ => ⟨?_, ?_⟩,
      fun h => absurd h hfly, htable'.trans htable, hfeeder'.trans hfeeder, hshed.trans hshed',
      (fillSlot_climate _ _).trans hclim, hin.trans hin'⟩
    · have hallow : (fillSlot .leave (setMember .leaving s)).share.allowance ≤ (fillSlot .leave (setMember .leaving s)).share.grant := by
        simp only [fillSlot, handFramer_share]
        exact compute_allowance_le _
      rw [fillSlot_grant, hgrant] at hallow
      exact Nat.le_zero.1 hallow
    · rw [fillSlot_slot]; rfl
    · rw [fillSlot_member_heldOver, hmember]

/-! ## Into STANDBY and back -/

/-- The station's own items as STANDBY leaves them, before its state is taken: the slot empty, the share period stopped, the framer
silent (R80, R99, R118). -/
def standingDown (s : State) : State :=
  let u := emptySlot s
  { u with
    member := { u.member with joinNonce := none, periodCount := 0, returnMark := false, dwell := none, lineFree := false }
    share := { u.share with period := none, hold := 0, arm := true }
    framer := framerSilent u.framer }

theorem enterStandby_of_unmarked {s : State} (h : s.member.returnMark = false) :
    enterStandby s = setTable emptyTable (setMember .standby (standingDown s)) := by
  unfold enterStandby standingDown
  dsimp only
  rw [h]
  rfl

/-- The station in STANDBY (R62, R80, R89, R99, R118). -/
structure StoodDown (s t : State) : Prop where
  cycle : t.cycle = s.cycle
  st : t.member.st = .standby
  slot : t.member.slot = none
  heldOver : t.member.heldOver = none
  joinNonce : t.member.joinNonce = none
  periodCount : t.member.periodCount = 0
  table : t.table = emptyTable
  share : t.share.period = none ∧ t.share.hold = 0 ∧ t.share.arm = true ∧ t.share.allowance = 0
  framer : t.framer.st = .silent
  feeder : t.feeder = s.feeder
  climate : t.climate = s.climate
  inputs : KeepsInputs s t

theorem stoodDown_enterStandby {s : State} (ho : FaultsOrdered s.faults) (hr : Resting s.cycle)
    (hmark : s.member.returnMark = false) : StoodDown s (enterStandby s) := by
  rw [enterStandby_of_unmarked hmark]
  obtain ⟨hin, -, hfeeder, ⟨hperiod, hhold, harm, -⟩, hclim, hmember, hframer⟩ := setMember_frame .standby (standingDown s)
  have hcycle : (setMember .standby (standingDown s)).cycle = s.cycle := setMember_cycle_of_rest .standby hr
  have hfaults : (setMember .standby (standingDown s)).faults = s.faults := compute_faults _
  generalize setMember .standby (standingDown s) = u at *
  have hreport : RestReport .bankOverflow (overflows u.straps.bankSize emptyTable) { u with table := emptyTable } _ :=
    reportFault_rest (by decide) (by decide) _ (by rw [hfaults]; exact ho) (by rw [hcycle]; exact hr)
  obtain ⟨hin', htable', hfeeder', hstanding', ⟨hperiod', hhold', harm', -⟩, -⟩ :=
    reportFault_cabinetFrame .bankOverflow (overflows u.straps.bankSize emptyTable) { u with table := emptyTable }
  obtain ⟨hslot', -, hheld', -, -, hframer', -⟩ := hreport.kept.notice
  have hcycle' := hreport.kept.cycle
  have hclim' := hreport.kept.climate
  unfold setTable
  generalize reportFault .bankOverflow (overflows u.straps.bankSize emptyTable) { u with table := emptyTable } = v at *
  have hst : v.member.st = .standby := by rw [hstanding']; simp [hmember]
  have hgrant : grantOf v = 0 := by simp [grantOf, baseGrant, hst]
  have hin'' : KeepsInputs s v := hin.trans hin'
  refine ⟨?_, by simp [hst], ?_, ?_, ?_, ?_, by simpa using htable', ?_, ?_, ?_, ?_, hin''.trans (compute_cabinetFrame v).1⟩
  · rw [compute_cycle_of_rest (by rw [hcycle', hcycle]; exact hr), hcycle']; exact hcycle
  · rw [compute_member, hslot', hmember]; rfl
  · rw [compute_member, hheld', hmember]; rfl
  · rw [compute_member, hstanding']; simp [hmember, standingDown]
  · rw [compute_member, hstanding']; simp [hmember, standingDown]
  · refine ⟨?_, ?_, ?_, by simp [hst, hgrant]⟩
    · rw [compute_share_period, hperiod', hperiod]; rfl
    · rw [compute_share_hold, hhold', hhold]; rfl
    · rw [compute_share_arm, harm', harm]; rfl
  · rw [compute_framer, hframer', hframer]; rfl
  · rw [compute_feeder, hfeeder', hfeeder]; rfl
  · rw [compute_climate, hclim', hclim]; rfl

/-- The station back from STANDBY in JOIN_LISTEN (R80, R111, R117, R123). -/
structure Rejoining (s t : State) : Prop where
  cycle : t.cycle = s.cycle
  member : t.member = { s.member with st := .joinListen, periodCount := 0, refWant := 0, joinNonce := none }
  framer : t.framer = framerListens s.framer
  period : t.share.period = some s.straps.periodMs
  allowance : t.share.allowance = 0
  table : t.table = s.table
  feeder : t.feeder = s.feeder
  climate : t.climate = s.climate
  inputs : KeepsInputs s t

theorem rejoining_enterJoinListen {s : State} (hr : Resting s.cycle) : Rejoining s (enterJoinListen s) := by
  unfold enterJoinListen
  obtain ⟨hin, htable, hfeeder, ⟨hperiod, -⟩, hclim, hmember, hframer⟩ := setMember_frame .joinListen
    { s with
      member := { s.member with periodCount := 0, refWant := 0, joinNonce := none }
      share := { s.share with period := some s.straps.periodMs }
      framer := framerListens s.framer }
  exact ⟨setMember_cycle_of_rest _ hr, hmember, hframer, hperiod, (setMember_powerless (by simp [Powerless]) _).2, htable,
    hfeeder, hclim, hin⟩

/-! ## The press -/

theorem powerClicked_cabinetFrame (s : State) : CabinetFrame s (powerClicked s) :=
  ⟨.refl s, rfl, rfl, rfl, .refl s, .refl s, rfl, rfl, rfl⟩

/-- The state a cycle in IDLE, DONE or STANDBY takes at POWER (R43). -/
def powerTarget (st : CycleState) : CycleState := if st = .standby then .idle else .standby

theorem cyclePower_of_away {s : State} (h : s.cycle.st = .idle ∨ s.cycle.st = .done ∨ s.cycle.st = .standby) :
    cyclePower s = memberPower (checkLock (handOver (leaveTo (powerTarget s.cycle.st) s))) := by
  unfold cyclePower powerTarget
  rcases h with h | h | h <;> rw [h] <;> rfl

theorem cyclePower_of_other {s : State} (h : ¬(s.cycle.st = .idle ∨ s.cycle.st = .done ∨ s.cycle.st = .standby)) :
    cyclePower s = s := by
  unfold cyclePower
  cases hst : s.cycle.st <;> simp [hst] at h <;> rfl

/-- A cycle put away keeps the membership whole (R81, R110). -/
theorem PutAway.member {st : CycleState} {s t : State} (h : PutAway st s t) : t.member = s.member := by
  obtain ⟨hslot, hfly, hheld, hpres, href, -⟩ := h.notice
  obtain ⟨-, -, -, hstanding, -⟩ := h.frame
  unfold KeepsStanding at hstanding
  rw [hstanding, hslot, hfly, hheld, hpres, href]

/-- Settles O15: the cycle is put away, which leaves membership and notice, and then the station acts by its membership state. -/
theorem powerByMembership : Obligations.PowerByMembership := by
  intro s hl hkey hlearned ho
  have hexec : exec .powerPress s = .next (cyclePower (powerClicked s)) := by
    refine (live_of_live hl _).trans (congrArg Host.Outcome.next ?_)
    rw [powerPress_of_settled hkey, if_pos hlearned]
  have haway : Away (powerTarget s.cycle.st) := by unfold powerTarget Away; split <;> simp
  have hput : PutAway (powerTarget s.cycle.st) (powerClicked s) _ := putAway_leaveTo haway (s := powerClicked s) ho
  have hord := hput.ordered
  have hrest : Resting (checkLock (handOver (leaveTo (powerTarget s.cycle.st) (powerClicked s)))).cycle := by
    rw [hput.cycle]
    rcases haway with h | h | h | h <;> rw [h] <;> exact resting_putAway (by decide) (by decide)
  have hpower : s.cycle.st = .idle ∨ s.cycle.st = .done ∨ s.cycle.st = .standby → exec .powerPress s =
      .next (memberPower (checkLock (handOver (leaveTo (powerTarget s.cycle.st) (powerClicked s))))) := by
    intro h
    rw [hexec, cyclePower_of_away (s := powerClicked s) h]
    rfl
  obtain ⟨hin, htable, hfeeder, -, hshed, -⟩ := (powerClicked_cabinetFrame s).trans hput.frame
  have hmember := hput.member
  have hcycle := hput.cycle
  have hreadings := hput.readings
  obtain ⟨-, -, -, -, -, hframer, -⟩ := hput.notice
  generalize checkLock (handOver (leaveTo (powerTarget s.cycle.st) (powerClicked s))) = u at *
  have hrange : KeepsReadings s u := hreadings
  refine ⟨fun hst hm => ?_, fun hst hm hmark => ?_, fun hst hm hsilent => ?_, fun hst hm => ?_, fun hst => ?_⟩
  · have htarget : powerTarget s.cycle.st = .standby := by
      unfold powerTarget; rw [if_neg]; rintro h; simp [h] at hst
    have hum : u.member.st = s.member.st := congrArg Membership.st hmember
    have e : memberPower u = loadNotice .leave (setMember .leaving u) := by
      unfold memberPower; rcases hm with hm | hm | hm | hm <;> rw [hum, hm]
    have h := leaving_loadNotice hrest
    rw [hpower (by tauto), e]
    refine ⟨_, rfl, h.cycle.trans (by rw [hcycle, htarget]; rfl), h.st, h.powerless.1, h.powerless.2,
      fun hmem => h.raiseReady (hum.trans hmem), fun hfree => ?_, fun hfly => ?_, h.table.trans htable,
      h.feeder.trans hfeeder, hshed.trans h.shedding, ?_, hin.trans h.inputs⟩
    · obtain ⟨hslot, hheld⟩ := h.free (by rw [hmember]; exact hfree)
      exact ⟨hslot, hheld.trans (by rw [hmember]; rfl)⟩
    · obtain ⟨hslot, hheld⟩ := h.inFlight (by rw [hmember]; exact hfly)
      exact ⟨hslot.trans (by rw [hmember]; rfl), hheld⟩
    · unfold KeepsReadings; rw [h.climate]; exact hrange
  · have htarget : powerTarget s.cycle.st = .standby := by
      unfold powerTarget; rw [if_neg]; rintro h; simp [h] at hst
    have hum : u.member.st = s.member.st := congrArg Membership.st hmember
    have e : memberPower u = enterStandby u := by
      unfold memberPower; rcases hm with hm | hm <;> rw [hum, hm]
    have h := stoodDown_enterStandby hord hrest (by rw [hmember]; exact hmark)
    obtain ⟨hperiod, hhold, harm, hallow⟩ := h.share
    rw [hpower (by tauto), e]
    refine ⟨_, rfl, h.cycle.trans (by rw [hcycle, htarget]; rfl), h.st, h.slot, h.heldOver, h.joinNonce, h.periodCount,
      h.table, hperiod, hhold, harm, hallow, h.framer, h.feeder.trans hfeeder, ?_, hin.trans h.inputs⟩
    unfold KeepsReadings; rw [h.climate]; exact hrange
  · have htarget : powerTarget s.cycle.st = .idle := by unfold powerTarget; rw [if_pos hst]
    have hum : u.member.st = s.member.st := congrArg Membership.st hmember
    have e : memberPower u = enterJoinListen u := by unfold memberPower; rw [hum, hm]
    have h := rejoining_enterJoinListen hrest
    have hframed : framerListens u.framer = touchLine { s.framer with st := .listen, failures := 0 } := by
      rw [hframer]; unfold framerListens; exact if_pos hsilent
    have hstraps : u.straps = s.straps := hin.1
    rw [hpower (by tauto), e]
    refine ⟨_, rfl, h.cycle.trans (by rw [hcycle, htarget]; rfl), by rw [h.member], by rw [h.member], by rw [h.member],
      by rw [h.member], h.period.trans (by rw [hstraps]), h.allowance, by rw [h.framer, hframed]; rfl,
      by rw [h.framer, hframed]; rfl, by rw [h.framer, hframed]; rfl, h.table.trans htable, h.feeder.trans hfeeder, ?_,
      hin.trans h.inputs⟩
    unfold KeepsReadings; rw [h.climate]; exact hrange
  · have hum : u.member.st = s.member.st := congrArg Membership.st hmember
    rw [hpower hst]
    rcases hm with hm | hm
    · have e : memberPower u = { u with member := { u.member with returnMark := !u.member.returnMark } } := by
        unfold memberPower; rw [hum, hm]
      rw [e, if_pos hm]
      exact ⟨_, rfl, hcycle, by rw [hmember]; rfl, hframer, htable, hfeeder, hshed, hrange, hin⟩
    · have e : memberPower u = u := by unfold memberPower; rw [hum, hm]
      rw [e, if_neg (show s.member.st ≠ .leaving by rw [hm]; decide)]
      exact ⟨_, rfl, hcycle, hmember, hframer, htable, hfeeder, hshed, hrange, hin⟩
  · rw [hexec, cyclePower_of_other (s := powerClicked s) hst]
    rfl

end Sys2Proof.Machine

namespace Sys2Proof.Machine

/-! PROOFS. The water level: WATER_EMPTY holds a steaming phase, and a refill lets it run on (R24, R26, R32, R33, R166). -/

/-- The level contact reported (R26). -/
def waterAt (low : Bool) (s : State) : State := { s with lines := { s.lines with waterLow := low } }

theorem waterReported_of_low {s : State} (h : s.lines.waterLow = true) :
    waterReported s = checkLock (checkWater (handOver s)) := by
  unfold waterReported; exact if_pos h

theorem waterReported_of_adequate {s : State} (h : s.lines.waterLow = false) :
    waterReported s = reportFault .waterEmpty false (handOver s) := by
  unfold waterReported; exact if_neg (by simp [h])

/-- The level changes nothing in the requests of a cycle that does not steam (R24). -/
theorem formRequest_waterAt {s : State} (h : s.cycle.steaming = false) (low : Bool) :
    formRequest (waterAt low s) = formRequest s := by
  simp [formRequest, steamPart, waterAt, h]

theorem handOver_waterAt {s : State} (hl : Live s) (hfresh : RequestFresh s) (h : s.cycle.steaming = false) (low : Bool) :
    handOver (waterAt low s) = settle (waterAt low s) :=
  handOver_of_fresh (s := waterAt low s) ((hfresh hl).trans (formRequest_waterAt h low).symm)

/-! ## The refill -/

/-- A held phase whose dry point is not due and which does not lack water runs on (R33). -/
theorem returnToRunning_of_sound {s : State} (hdry : s.cycle.kind ≠ some .dry ∨ s.climate.dryPoint = false)
    (hwater : s.lines.waterLow = false) : returnToRunning s = handOver (runOn s) := by
  have hclim : (handOver (runOn s)).climate = s.climate := handOver_climate _
  have hkind : (handOver (runOn s)).cycle.kind = s.cycle.kind := by unfold Cycle.kind; rw [handOver_cycle_record]; rfl
  have htimely : checkDryPoint (handOver (runOn s)) = handOver (runOn s) := by
    unfold checkDryPoint
    rw [if_neg]
    rintro ⟨-, hk, hp⟩
    rw [hkind] at hk
    rw [hclim] at hp
    rcases hdry with h | h
    · exact h hk
    · rw [h] at hp; cases hp
  show checkWater (checkDryPoint (handOver (runOn s))) = _
  rw [htimely]
  exact checkWater_of_water (.inl hwater)

/-- Taking back the active fault changes it: the kind is held nowhere else (R163). -/
theorem withdrawFrom_of_active {k : FaultKind} {f : FaultUnit} (ho : FaultsOrdered f) (ha : f.active = some k) :
    (withdrawFrom k f).active = f.waiting.head? ∧ (withdrawFrom k f).waiting = f.waiting.tail ∧
      (withdrawFrom k f).active ≠ f.active := by
  have hnot : (withdrawFrom k f).holds k = false := by
    rw [← Bool.not_eq_true, withdrawFrom_holds ho]; simp
  have hne : (withdrawFrom k f).active ≠ f.active := by
    intro e
    have hheld : (withdrawFrom k f).holds k = true := (holds_iff _ _).2 (.inl (e.trans ha))
    rw [hnot] at hheld; cases hheld
  obtain ⟨-, hact, hwait⟩ := (withdrawFrom_active k f).resolve_left hne
  exact ⟨hact, hwait, hne⟩

/-- With a class C fault or none to follow, the refill lets the held phase run on (R33). -/
theorem withdrawCore_of_lastHold {k : FaultKind} (hk : k.cls = .b) {s : State} (ho : FaultsOrdered s.faults)
    (ha : s.faults.active = some k) (hc : ∀ j ∈ s.faults.waiting, j.cls = .c) (hst : s.cycle.st = .held) :
    withdrawCore k s = returnToRunning (endDisplay { s with faults := withdrawFrom k s.faults }) := by
  obtain ⟨hact, -, hne⟩ := withdrawFrom_of_active ho ha
  have hcls : (withdrawFrom k s.faults).activeClass = some .c ∨ (withdrawFrom k s.faults).activeClass = none := by
    unfold FaultUnit.activeClass
    rw [hact]
    cases hw : s.faults.waiting with
    | nil => exact .inr rfl
    | cons j l => exact .inl (congrArg some (hc j (by simp [hw])))
  have hnota : (withdrawFrom k s.faults).activeClass ≠ some .a := by rcases hcls with h | h <;> simp [h]
  have hactivate : activate { s with faults := withdrawFrom k s.faults } =
      endDisplay { s with faults := withdrawFrom k s.faults } := activate_of_not_classA hnota
  have hcalm : (endDisplay { s with faults := withdrawFrom k s.faults }).faults.blocking = false := by
    show (withdrawFrom k s.faults).blocking = false
    unfold FaultUnit.blocking; rcases hcls with h | h <;> simp [h]
  unfold withdrawCore
  dsimp only
  rw [if_neg hne, hactivate]
  unfold cycleOnFall
  rw [if_pos ⟨by simp [FaultUnit.activeClass, ha, hk], hst, hcalm⟩]

/-- A withdrawn active fault that lets no held phase run on only hands the requests over: the phase, if one is held, stays held by
the class B fault behind it (R32, R33). -/
theorem withdrawCore_of_stillHeld {k : FaultKind} (hk : k.cls ≠ .a) {s : State} (ho : FaultsOrdered s.faults)
    (ha : s.faults.active = some k) (hst : s.cycle.st ≠ .running)
    (hb : s.cycle.st = .held → s.faults.waiting.head?.map FaultKind.cls = some .b) :
    withdrawCore k s = handOver (endDisplay { s with faults := withdrawFrom k s.faults }) := by
  obtain ⟨hact, -, hne⟩ := withdrawFrom_of_active ho ha
  have hcls : (withdrawFrom k s.faults).activeClass = s.faults.waiting.head?.map FaultKind.cls := by
    unfold FaultUnit.activeClass; rw [hact]
  have hnota : (withdrawFrom k s.faults).activeClass ≠ some .a := hcls ▸ head_not_classA ho hk ha
  have hactivate : activate { s with faults := withdrawFrom k s.faults } =
      endDisplay { s with faults := withdrawFrom k s.faults } := activate_of_not_classA hnota
  unfold withdrawCore
  dsimp only
  rw [if_neg hne, hactivate]
  unfold cycleOnFall
  rw [if_neg]
  · exact cycleOnClass_of_rest hst hnota
  · rintro ⟨-, hheld, hcalm⟩
    have hblock : (withdrawFrom k s.faults).blocking = true := by
      unfold FaultUnit.blocking; rw [hcls, hb hheld]; rfl
    have hsame : (withdrawFrom k s.faults).blocking = false := hcalm
    rw [hblock] at hsame; cases hsame

/-- A report of a kind that is held and holds no more. -/
theorem reportFault_of_withdrawn {k : FaultKind} {s : State} (h : s.faults.holds k = true) :
    reportFault k false s = checkLock (withdrawCore k s) := by
  unfold reportFault; rw [h]; rfl

theorem reportFault_of_unheld {k : FaultKind} {s : State} (h : s.faults.holds k = false) : reportFault k false s = s := by
  unfold reportFault; rw [h]; rfl

/-- Of a kind that is pending only the waiting list changes (R166). -/
theorem withdrawFrom_of_waiting {k : FaultKind} {f : FaultUnit} (h : f.active ≠ some k) :
    withdrawFrom k f = { f with waiting := f.waiting.filter fun j => j ≠ k } := by
  unfold withdrawFrom; exact if_neg h

/-- What no event of the cabinet touches, a report of the water level does not. -/
theorem waterReported_cabinetFrame (s : State) : CabinetFrame s (waterReported s) := by
  unfold waterReported; split
  · exact (handOver_cabinetFrame s).trans ((checkWater_cabinetFrame _).trans (checkLock_cabinetFrame _))
  · exact (handOver_cabinetFrame s).trans (reportFault_cabinetFrame _ _ _)

/-! ## A held phase refilled -/

/-- The held phase running on once the refill has withdrawn WATER_EMPTY, before its requests are handed over (R33). -/
def refilledHold (s : State) : State :=
  runOn (endDisplay { handOver (waterAt false s) with faults := withdrawFrom .waterEmpty s.faults })

theorem refilledHold_cycle (s : State) :
    (refilledHold s).cycle =
      { s.cycle with
        st := .running, second := some 1000, starved := (refilledHold s).cycle.starved
        starvedSecs := (refilledHold s).cycle.starvedSecs } := by
  have hphase : KeepsPhase (waterAt false s) (handOver (waterAt false s)) := handOver_keepsPhase _
  unfold KeepsPhase at hphase
  show { (handOver (waterAt false s)).cycle with st := .running, second := some secondMs } = _
  rw [hphase]
  rfl

/-- The requests of a steaming phase that runs on with water enough: steam and class of its record (R24, R25). -/
theorem formRequest_refilledHold {r : Record} {s : State} (hr : s.cycle.record = some r) (hu : r.kind.usesSteam = true) :
    (formRequest (refilledHold s)).steam = r.steam.getD 0 ∧ (formRequest (refilledHold s)).cls = r.kind.cls := by
  have hrec : (refilledHold s).cycle.record = some r := by rw [refilledHold_cycle]; exact hr
  have hst : (refilledHold s).cycle.st = .running := rfl
  have hwater : (refilledHold s).lines.waterLow = false := congrArg Lines.waterLow (handOver_lines (waterAt false s))
  simp [formRequest, steamPart, classOf, Cycle.steaming, hrec, hst, hu, hwater]

/-- A refill that withdraws the one class B fault held lets a steaming phase run on (R33). -/
theorem waterReported_of_lastHold {r : Record} {s : State} (ho : FaultsOrdered s.faults) (hst : s.cycle.st = .held)
    (ha : s.faults.active = some .waterEmpty) (hc : ∀ k ∈ s.faults.waiting, k.cls = .c) (hr : s.cycle.record = some r)
    (hu : r.kind.usesSteam = true) : waterReported (waterAt false s) = handOver (refilledHold s) := by
  have hf : (handOver (waterAt false s)).faults = s.faults := handOver_faults _
  have hlines : (handOver (waterAt false s)).lines.waterLow = false := congrArg Lines.waterLow (handOver_lines (waterAt false s))
  have hkind : (handOver (waterAt false s)).cycle.kind ≠ some .dry := by
    unfold Cycle.kind
    rw [handOver_cycle_record]
    show s.cycle.record.map Record.kind ≠ _
    rw [hr]
    rintro hk
    obtain hk : r.kind = .dry := Option.some.inj hk
    rw [hk] at hu; cases hu
  have hcore : withdrawCore .waterEmpty (handOver (waterAt false s)) = handOver (refilledHold s) := by
    rw [withdrawCore_of_lastHold rfl (by rwa [hf]) (by rwa [hf]) (by rwa [hf]) ((handOver_cycle_st (waterAt false s)).trans hst), hf]
    exact returnToRunning_of_sound (.inl hkind) hlines
  have hlock : (withdrawFrom .waterEmpty s.faults).holds .lockFault = false := by
    rw [← Bool.not_eq_true, withdrawFrom_holds ho, holds_iff, ha]
    rintro ⟨-, h | h⟩
    · cases h
    · cases hc _ h
  rw [waterReported_of_adequate (s := waterAt false s) rfl,
    reportFault_of_withdrawn (by rw [hf]; exact (holds_iff _ _).2 (.inl ha)), hcore]
  refine checkLock_of_not_held ?_
  rw [handOver_faults]
  exact hlock

/-! ## Where the phase stands -/

/-- With the lock watched, forming the outputs on requests that leave the lock request alone withdraws no LOCK_FAULT (R161). -/
theorem checkLock_of_settled {s t : State} (hl : Live s) (hw : LockWatched s) (hlock : t.loads.lock = s.request.lock)
    (hlines : t.lines.locked = s.lines.locked) (hh : t.faults.holds .lockFault = true → s.faults.holds .lockFault = true) :
    checkLock t = t := by
  obtain ⟨hcommand, -⟩ := hw hl
  refine checkLock_of_watched (s := { s with lines := t.lines }) hl ?_ (hlock.trans hcommand.symm) rfl hh
  unfold LockWatched at hw ⊢
  rw [hlines]
  exact hw

/-- A low level reported to a cycle that does not steam only forms the outputs (R24, R26). -/
theorem waterReported_of_unsteaming {s : State} (hl : Live s) (hw : LockWatched s) (hfresh : RequestFresh s)
    (h : s.cycle.steaming = false) : waterReported (waterAt true s) = settle (waterAt true s) := by
  have hsteam : (waterAt true s).cycle.steaming = false := h
  rw [waterReported_of_low (s := waterAt true s) rfl, checkWater_of_water (.inr hsteam), handOver_waterAt hl hfresh h]
  refine checkLock_of_settled hl hw (by simp [waterAt]) (by simp [waterAt]) ?_
  rw [settle_faults]; exact id

/-- A refill with WATER_EMPTY not the active fault takes it off the waiting list, if it is there, and leaves the phase (R166). -/
theorem waterReported_of_pending {s : State} (hl : Live s) (ho : FaultsOrdered s.faults) (hw : LockWatched s)
    (hfresh : RequestFresh s) (ha : s.faults.active ≠ some .waterEmpty) :
    (waterReported (waterAt false s)).faults = withdrawFrom .waterEmpty s.faults ∧
      KeepsPhase (waterAt false s) (waterReported (waterAt false s)) ∧
      (waterReported (waterAt false s)).climate = s.climate := by
  have hf : (handOver (waterAt false s)).faults = s.faults := handOver_faults _
  have hphase : KeepsPhase (waterAt false s) (handOver (waterAt false s)) := handOver_keepsPhase _
  have hclim : (handOver (waterAt false s)).climate = s.climate := handOver_climate _
  rw [waterReported_of_adequate (s := waterAt false s) rfl]
  cases hheld : s.faults.holds .waterEmpty with
  | false =>
    have hnone : (s.faults.waiting.filter fun j => j ≠ .waterEmpty) = s.faults.waiting := by
      refine List.filter_eq_self.2 fun j hj => decide_eq_true ?_
      rintro rfl
      rw [← Bool.not_eq_true, holds_iff] at hheld
      exact hheld (.inr hj)
    rw [reportFault_of_unheld (by rw [hf]; exact hheld), withdrawFrom_of_waiting ha, hnone]
    exact ⟨hf, hphase, hclim⟩
  | true =>
    have hsame : (withdrawFrom .waterEmpty s.faults).active = s.faults.active := by rw [withdrawFrom_of_waiting ha]
    have hcore : withdrawCore .waterEmpty (handOver (waterAt false s)) =
        settle { handOver (waterAt false s) with faults := withdrawFrom .waterEmpty s.faults } := by
      unfold withdrawCore; dsimp only; rw [hf, if_pos hsame]
    have hlock : (handOver (waterAt false s)).request.lock = s.request.lock := by
      rw [handOver_request, hfresh hl]; rfl
    have hlocked : (handOver (waterAt false s)).lines.locked = s.lines.locked := by rw [handOver_lines]; rfl
    have hstay : checkLock (withdrawCore .waterEmpty (handOver (waterAt false s))) =
        settle { handOver (waterAt false s) with faults := withdrawFrom .waterEmpty s.faults } := by
      rw [hcore]
      refine checkLock_of_settled hl hw (by rw [settle_loads_lock]; exact hlock) ?_ ?_
      · rw [settle_lines]; exact hlocked
      · rw [settle_faults]; exact fun h => ((withdrawFrom_holds ho _ _).1 h).2
    rw [reportFault_of_withdrawn (by rw [hf]; exact hheld), hstay]
    refine ⟨settle_faults _, ?_, (settle_climate _).trans hclim⟩
    exact hphase.trans (settle_keepsPhase { handOver (waterAt false s) with faults := withdrawFrom .waterEmpty s.faults })

/-- A refill that withdraws the active WATER_EMPTY where no phase can run on ends the display, and nothing else of the phase changes
(R32, R33, R166). -/
theorem waterReported_of_stillHeld {s : State} (hl : Live s) (ho : FaultsOrdered s.faults) (hw : LockWatched s)
    (hfresh : RequestFresh s) (ha : s.faults.active = some .waterEmpty) (hst : s.cycle.st ≠ .running)
    (hb : s.cycle.st = .held → s.faults.waiting.head?.map FaultKind.cls = some .b) :
    waterReported (waterAt false s) =
      settle (endDisplay { settle (waterAt false s) with faults := withdrawFrom .waterEmpty s.faults }) := by
  have hsteam : s.cycle.steaming = false := by simp [Cycle.steaming, hst]
  have hf : (settle (waterAt false s)).faults = s.faults := settle_faults _
  have hlocked : (settle (waterAt false s)).lines.locked = s.lines.locked := by rw [settle_lines]; rfl
  have hreq : (settle (waterAt false s)).request = formRequest (settle (waterAt false s)) :=
    requestUpkeep.settle (s := waterAt false s) ((hfresh hl).trans (formRequest_waterAt hsteam false).symm)
  have hcore : withdrawCore .waterEmpty (settle (waterAt false s)) =
      settle (endDisplay { settle (waterAt false s) with faults := withdrawFrom .waterEmpty s.faults }) := by
    rw [withdrawCore_of_stillHeld (by decide) (by rwa [hf]) (by rwa [hf]) (by rwa [settle_cycle_st])
      (by rw [settle_cycle_st, hf]; exact hb), hf]
    exact handOver_of_fresh (s := endDisplay { settle (waterAt false s) with faults := withdrawFrom .waterEmpty s.faults }) hreq
  rw [waterReported_of_adequate (s := waterAt false s) rfl, handOver_waterAt hl hfresh hsteam,
    reportFault_of_withdrawn (by rw [hf]; exact (holds_iff _ _).2 (.inl ha)), hcore]
  refine checkLock_of_settled hl hw ?_ ?_ ?_
  · rw [settle_loads_lock]; exact congrArg Request.lock (settle_request (waterAt false s))
  · rw [settle_lines]; exact hlocked
  · rw [settle_faults]; exact fun h => ((withdrawFrom_holds ho _ _).1 h).2

/-- Settles O21: by the level reported and by what WATER_EMPTY, raised or withdrawn, lets the cycle do. -/
theorem waterLevelHoldsSteam : Obligations.WaterLevelHoldsSteam := by
  intro r s hl ho
  have hexec : ∀ low : Bool, exec (.waterLevelChange !low) s = .next (waterReported (waterAt low s)) := by
    intro low
    have h := live_of_live (s := waterAt low s) hl waterReported
    cases low <;> exact h
  have hframe : ∀ low : Bool, CabinetFrame (waterAt low s) (waterReported (waterAt low s)) :=
    fun low => waterReported_cabinetFrame _
  have hlow : exec (.waterLevelChange false) s = .next (waterReported (waterAt true s)) := hexec true
  have hfull : exec (.waterLevelChange true) s = .next (waterReported (waterAt false s)) := hexec false
  have hgone : (withdrawFrom .waterEmpty s.faults).holds .waterEmpty = false := by
    rw [← Bool.not_eq_true, withdrawFrom_holds ho]; simp
  refine ⟨fun hsteam hcalm => ?_, fun hst ha hc hr hu => ?_, fun hsteam hw hfresh => ?_, fun hw hfresh => ⟨fun ha => ?_,
    fun ha hst hb => ?_⟩⟩
  · have h : HeldEmpty (waterAt true s) _ := heldEmpty_checkWater (s := waterAt true s) hsteam rfl ho hcalm
    obtain ⟨hwant, hcls, -, hdraw⟩ := h.handed.off (by rw [h.cycle]; simp [heldCycle])
    rw [waterReported_of_low (s := waterAt true s) rfl] at hlow
    exact ⟨_, hlow, h.cycle, h.active, h.code, h.history, hwant, hcls, h.boost, hdraw, h.climate, h.frame⟩
  · have hframe := hframe false
    rw [waterReported_of_lastHold ho hst ha hc hr hu] at hfull hframe
    have hphase : (handOver (refilledHold s)).cycle = _ := handOver_keepsPhase (refilledHold s)
    obtain ⟨hsteam, hcls⟩ := formRequest_refilledHold hr hu
    obtain ⟨hact, -, -⟩ := withdrawFrom_of_active ho ha
    refine ⟨_, hfull, ?_, by rwa [handOver_request], by rwa [handOver_request], ?_, ?_, hframe⟩
    · rw [hphase, refilledHold_cycle]
    · rw [handOver_faults]; exact hact
    · rw [handOver_climate]; exact handOver_climate (waterAt false s)
  · have hframe := hframe true
    rw [waterReported_of_unsteaming hl hw hfresh hsteam] at hlow hframe
    exact ⟨_, hlow, settle_cycle_st _, settle_faults _, settle_climate _, settle_request _, hframe⟩
  · obtain ⟨hfaults, hphase, hclim⟩ := waterReported_of_pending hl ho hw hfresh ha
    exact ⟨_, hfull, by rw [hfaults, withdrawFrom_of_waiting ha], by rw [hfaults]; exact hgone, hphase, hclim, hframe false⟩
  · have hframe := hframe false
    rw [waterReported_of_stillHeld hl ho hw hfresh ha hst hb] at hfull hframe
    obtain ⟨hact, hwait, -⟩ := withdrawFrom_of_active ho ha
    have hphase : KeepsPhase (waterAt false s) (settle (waterAt false s)) := settle_keepsPhase _
    refine ⟨_, hfull, ?_, ?_, ?_, ?_, ?_, ?_, ?_, ?_, hframe⟩
    · rw [settle_faults]; exact hact
    · rw [settle_faults]; exact hwait
    · rw [settle_faults]; exact hgone
    · rw [settle_faults]; rfl
    · rw [settle_faults]; exact withdrawFrom_history _ _
    · exact hphase.trans (settle_keepsPhase (endDisplay _))
    · rw [settle_request]; exact settle_request (waterAt false s)
    · rw [settle_climate]; exact settle_climate (waterAt false s)

end Sys2Proof.Machine

namespace Sys2Proof.Machine

/-! PROOFS. The dry watch: what a valid sample does in each of its states, and the dry point that ends a DRY phase (R27, R54, R55). -/

/-! ## The ring and the test -/

theorem humiditySampleOf_ofNat {v : Nat} (h : v ≤ 200) : humiditySampleOf (v : Int) = some v := by
  have hrange : 0 ≤ (v : Int) ∧ (v : Int) ≤ humidityHigh := by unfold humidityHigh; omega
  unfold humiditySampleOf
  rw [if_pos hrange]; simp

/-- A sample fills the ring when 60 are in it, and the oldest then is the one before the last 60 (R51). -/
theorem pushRing_of_full {ring : List Nat} (hlong : 60 ≤ ring.length) (hle : ring.length ≤ 61) (v : Nat) :
    (pushRing ring v).length = ringLength ∧ (pushRing ring v).headD 0 = (ring.drop (ring.length - 60)).headD 0 := by
  have headD_push : ∀ l : List Nat, l ≠ [] → (l ++ [v]).headD 0 = l.headD 0 := by
    intro l hl; cases l with
    | nil => exact absurd rfl hl
    | cons x l => rfl
  unfold pushRing ringLength
  by_cases hfull : 61 ≤ ring.length
  · have hlen : ring.length = 61 := by omega
    rw [if_pos hfull, hlen]
    refine ⟨by simp [hlen], headD_push _ (fun h => ?_)⟩
    have := congrArg List.length h
    simp [hlen] at this
  · have hlen : ring.length = 60 := by omega
    rw [if_neg hfull, hlen]
    refine ⟨by simp [hlen], headD_push _ (fun h => ?_)⟩
    simp [h] at hlen

theorem pushRing_length_of_short {ring : List Nat} (h : ring.length < 60) (v : Nat) :
    (pushRing ring v).length ≠ ringLength := by
  unfold pushRing ringLength
  rw [if_neg (by omega)]
  simp; omega

/-- The dry-point test passes, in the terms of a sample that joins the ring (R55). -/
def PassesDryTest (s : State) (v : Nat) : Prop :=
  60 ≤ s.climate.ring.length ∧ (v : Int) + (s.climate.drop.getD 0 : Nat) ≤ (max s.climate.peak v : Nat) ∧
    (((s.climate.ring.drop (s.climate.ring.length - 60)).headD 0 : Nat) : Int) - v ≤ 4

/-- The Climate Measurement Unit with a sample in its ring and the peak raised by it. -/
def raisedClimate (v : Nat) (c : Climate) : Climate :=
  { c with
    humidityValid := true, ring := pushRing c.ring v, sampleTimer := some humiditySampleMs, peak := max c.peak v }

theorem dryTest_raisedClimate {s : State} (h : s.climate.ring.length ≤ 61) (v : Nat) :
    dryTest (raisedClimate v s.climate) v = true ↔ PassesDryTest s v := by
  have htest : dryTest (raisedClimate v s.climate) v =
      (decide ((pushRing s.climate.ring v).length = ringLength) &&
          decide ((v : Int) ≤ ((max s.climate.peak v : Nat) : Int) - ((s.climate.drop.getD 0 : Nat) : Int)) &&
        decide ((((pushRing s.climate.ring v).headD 0 : Nat) : Int) - (v : Int) ≤ dryRate)) := rfl
  rw [htest, Bool.and_eq_true, Bool.and_eq_true, decide_eq_true_eq, decide_eq_true_eq, decide_eq_true_eq]
  unfold PassesDryTest dryRate
  by_cases hlong : 60 ≤ s.climate.ring.length
  · obtain ⟨hlen, hhead⟩ := pushRing_of_full hlong h v
    rw [hhead]
    constructor
    · rintro ⟨⟨-, hpeak⟩, hrate⟩; exact ⟨hlong, by omega, hrate⟩
    · rintro ⟨-, hpeak, hrate⟩; exact ⟨⟨hlen, by omega⟩, hrate⟩
  · have hlen := pushRing_length_of_short (Nat.lt_of_not_le hlong) v
    constructor
    · rintro ⟨⟨hfull, -⟩, -⟩; exact absurd hfull hlen
    · rintro ⟨hfull, -⟩; exact absurd hfull hlong

/-! ## A sample at the dry watch -/

/-- In TESTING a sample raises the peak, and one that passes the test finds the dry point (R55). -/
theorem sampledWatch_of_testing {s : State} (hw : s.climate.watch = .testing) (hring : s.climate.ring.length ≤ 61) (v : Nat) :
    (PassesDryTest s v →
        (sampledWatch v s).climate = { raisedClimate v s.climate with watch := .found, dryPoint := true }) ∧
      (¬PassesDryTest s v → (sampledWatch v s).climate = raisedClimate v s.climate) := by
  have hsample : (sampledWatch v s).climate =
      if dryTest (raisedClimate v s.climate) v then { raisedClimate v s.climate with watch := .found, dryPoint := true }
      else raisedClimate v s.climate := by
    simp only [sampledWatch, watchSample, hw, raisedClimate]
  rw [hsample, ← dryTest_raisedClimate hring v]
  exact ⟨fun h => if_pos h, fun h => if_neg h⟩

/-- In TRACKING a sample only raises the peak, and in WARM_UP it only joins the ring (R54). -/
theorem sampledWatch_of_early {s : State} (hw : s.climate.watch = .tracking ∨ s.climate.watch = .warmUp) (v : Nat) :
    (sampledWatch v s).climate.watch = s.climate.watch ∧ (sampledWatch v s).climate.dryPoint = s.climate.dryPoint ∧
      (sampledWatch v s).climate.peak = (if s.climate.watch = .tracking then max s.climate.peak v else s.climate.peak) ∧
      (sampledWatch v s).climate.warmUp = s.climate.warmUp ∧ (sampledWatch v s).climate.tracking = s.climate.tracking ∧
      (sampledWatch v s).climate.drop = s.climate.drop := by
  rcases hw with hw | hw <;> simp [sampledWatch, watchSample, hw]

theorem sampledWatch_cabinetFrame (v : Nat) (s : State) : CabinetFrame s (sampledWatch v s) :=
  ⟨.refl s, rfl, rfl, rfl, .refl s, .refl s, rfl, rfl, rfl⟩

/-- A valid sample with no HUMIDITY_FAULT held reaches the dry watch, the dry point and the lock (R51, R55, R27). -/
theorem humidityReading_of_sample {v : Nat} {s : State} (hv : v ≤ 200) (hh : s.faults.holds .humidityFault = false) :
    humidityReading v s = checkLock (checkDryPoint (sampledWatch v s)) := by
  have hnone : reportFault .humidityFault false (sampledWatch v s) = sampledWatch v s := reportFault_of_unheld hh
  unfold humidityReading
  rw [humiditySampleOf_ofNat hv]
  exact congrArg (fun u => checkLock (checkDryPoint u)) hnone

/-- Where the dry point ends no phase, a valid sample changes the Climate Measurement Unit alone. -/
theorem humidityReading_of_timely {v : Nat} {s : State} (hl : Live s) (hw : LockWatched s) (hv : v ≤ 200)
    (hh : s.faults.holds .humidityFault = false)
    (htimely : s.cycle.st ≠ .running ∨ (sampledWatch v s).climate.dryPoint = false) :
    humidityReading v s = sampledWatch v s := by
  have hpoint : checkDryPoint (sampledWatch v s) = sampledWatch v s := by
    unfold checkDryPoint
    rw [if_neg]
    rintro ⟨hst, -, hp⟩
    rcases htimely with h | h
    · exact h hst
    · rw [h] at hp; cases hp
  rw [humidityReading_of_sample hv hh, hpoint]
  exact checkLock_of_watched hl hw rfl rfl id

/-! ## The dry point -/

/-- A COOL record wants nothing (R2, R10). -/
theorem readRom_cool {p : Fin 8} {i : Nat} {r : Record} (h : readRom p i = some r) (hk : r.kind = .cool) :
    r.steam.getD 0 = 0 ∧ r.heater.getD 0 = 0 := by
  have table : ∀ p : Fin 8, ∀ r ∈ programme p.val, r.kind = .cool → r.steam.getD 0 = 0 ∧ r.heater.getD 0 = 0 := by decide
  exact table p r (mem_programme_of_readRom h) hk

/-- The dry point found in RUNNING ends the phase (R27). -/
theorem humidityReading_of_due {v : Nat} {s : State} (hv : v ≤ 200) (hh : s.faults.holds .humidityFault = false)
    (hst : s.cycle.st = .running) (hk : s.cycle.kind = some .dry) (hpoint : (sampledWatch v s).climate.dryPoint = true) :
    humidityReading v s = checkLock (endPhase (sampledWatch v s)) := by
  rw [humidityReading_of_sample hv hh]
  unfold checkDryPoint
  rw [if_pos ⟨hst, hk, hpoint⟩]

/-- Settles O28: the timers are the watch's own steps; a sample that passes the test ends the phase in RUNNING, and every other one
changes the Climate Measurement Unit alone. -/
theorem dryPointEndsDryPhase : Obligations.DryPointEndsDryPhase := by
  intro v r s hl
  refine ⟨fun hwarm => ?_, fun htrack => ?_, fun hv hk _ hh hring ho => ?_⟩
  · refine (live_of_live hl _).trans (congrArg Host.Outcome.next ?_)
    unfold warmUpExpiry; exact if_pos hwarm
  · refine (live_of_live hl _).trans (congrArg Host.Outcome.next ?_)
    unfold trackingExpiry; exact if_pos htrack
  have hexec : exec (.humiditySample v) s = .next (humidityReading v s) := live_of_live hl _
  have hframe := sampledWatch_cabinetFrame v s
  refine ⟨fun hw hlong hpeak hrate => ⟨fun hst hcalm hr hcool => ?_, fun hst hlock => ?_⟩, fun hw hpoint hlock hfails => ?_,
    fun hw hpoint hlock => ?_⟩
  · have hclim := (sampledWatch_of_testing hw hring v).1 ⟨hlong, hpeak, hrate⟩
    have h : NextEntered r (sampledWatch v s) (endPhase (sampledWatch v s)) := nextEntered_endPhase hr
    obtain ⟨hsteam, hheater⟩ := readRom_cool hr hcool
    have hfaults : (endPhase (sampledWatch v s)).faults = s.faults := h.faults
    rw [humidityReading_of_due hv hh hst hk (by rw [hclim]),
      checkLock_of_not_held (by rw [hfaults]; exact holds_of_calm ho hcalm (by decide))] at hexec
    refine ⟨_, hexec, by rw [h.cycle], by rw [h.cycle]; rfl, by rw [h.cycle], by rw [h.cycle], ?_, ?_, ?_, hfaults,
      hframe.trans h.frame⟩
    · rw [h.request]; simp [Request.want, hsteam, hheater]
    · rw [h.request, hcool]; rfl
    · rw [h.climate]; exact watchEntry_off (by simp [hcool]) _
  · have hclim := (sampledWatch_of_testing hw hring v).1 ⟨hlong, hpeak, hrate⟩
    rw [humidityReading_of_timely hl hlock hv hh (.inl (by simp [hst]))] at hexec
    exact ⟨_, hexec, by rw [hclim], by rw [hclim], by rw [hclim]; rfl, rfl, rfl, hframe⟩
  · have hnot : ¬PassesDryTest s v := by
      rintro ⟨hlong, hpeak, hrate⟩
      omega
    have hclim := (sampledWatch_of_testing hw hring v).2 hnot
    have hnone : (sampledWatch v s).climate.dryPoint = false := by rw [hclim]; exact hpoint
    rw [humidityReading_of_timely hl hlock hv hh (.inr hnone)] at hexec
    exact ⟨_, hexec, by rw [hclim]; exact hw, hnone, by rw [hclim]; rfl, rfl, rfl, hframe⟩
  · obtain ⟨hwatch, hdry, hpeak, hwarm, htrack, hdrop⟩ := sampledWatch_of_early hw v
    rw [humidityReading_of_timely hl hlock hv hh (.inr (hdry.trans hpoint))] at hexec
    exact ⟨_, hexec, hwatch, hdry.trans hpoint, hpeak, hwarm, htrack, hdrop, rfl, rfl, hframe⟩

end Sys2Proof.Machine

namespace Sys2Proof.Machine

/-! PROOFS. A probe round: its readings, and the reports that leave the phase where it stands (R23, R41, R44 to R49). -/

/-! ## The readings -/

/-- The readings of a round that are within range (R45). -/
def roundReadings (r0 r1 r2 : Int) : List Int :=
  [r0, r1, r2].filter fun r : Int => decide (-20 ≤ r) && decide (r ≤ 220)

theorem sampleProbe_of_inRange {r : Int} (h : probeInRange r = true) (p : Probe) :
    sampleProbe p r = { reading := some r, valid := true } := by
  unfold sampleProbe; rw [if_pos h]

theorem sampleProbe_of_outOfRange {r : Int} (h : probeInRange r = false) (p : Probe) :
    sampleProbe p r = { p with valid := false } := by
  unfold sampleProbe; rw [h]; rfl

/-- A list with a reading in front: it counts when it is within range (R45). -/
theorem filter_probe_cons (r : Int) (p : Probe) (ps : List Probe) :
    ((sampleProbe p r :: ps).filterMap fun p => if p.valid then p.reading else none) =
        (if probeInRange r then [r] else []) ++ (ps.filterMap fun p => if p.valid then p.reading else none) ∧
      ((sampleProbe p r :: ps).filter fun p => !p.valid).length =
        (if probeInRange r then 0 else 1) + (ps.filter fun p => !p.valid).length := by
  cases h : probeInRange r with
  | true => rw [sampleProbe_of_inRange h]; simp
  | false => rw [sampleProbe_of_outOfRange h]; simp; omega

theorem filter_reading_cons (r : Int) (l : List Int) :
    ((r :: l).filter fun r : Int => decide (-20 ≤ r) && decide (r ≤ 220)) =
      (if probeInRange r then [r] else []) ++ l.filter fun r : Int => decide (-20 ≤ r) && decide (r ≤ 220) := by
  cases h : probeInRange r with
  | true => exact List.filter_cons_of_pos h
  | false => exact List.filter_cons_of_neg (by rw [show (decide (-20 ≤ r) && decide (r ≤ 220)) = false from h]; simp)

/-- The probes after a round. -/
def sampledProbes (r0 r1 r2 : Int) (c : Climate) : Climate :=
  { c with p0 := sampleProbe c.p0 r0, p1 := sampleProbe c.p1 r1, p2 := sampleProbe c.p2 r2 }

theorem validReadings_sampledProbes (r0 r1 r2 : Int) (c : Climate) :
    validReadings (sampledProbes r0 r1 r2 c) = roundReadings r0 r1 r2 ∧
      invalidCount (sampledProbes r0 r1 r2 c) = 3 - (roundReadings r0 r1 r2).length := by
  obtain ⟨h0, n0⟩ := filter_probe_cons r0 c.p0 [sampleProbe c.p1 r1, sampleProbe c.p2 r2]
  obtain ⟨h1, n1⟩ := filter_probe_cons r1 c.p1 [sampleProbe c.p2 r2]
  obtain ⟨h2, n2⟩ := filter_probe_cons r2 c.p2 []
  have hround : roundReadings r0 r1 r2 = (if probeInRange r0 then [r0] else []) ++
      ((if probeInRange r1 then [r1] else []) ++ ((if probeInRange r2 then [r2] else []) ++ [])) := by
    unfold roundReadings
    rw [filter_reading_cons, filter_reading_cons, filter_reading_cons]; rfl
  constructor
  · show ([sampleProbe c.p0 r0, sampleProbe c.p1 r1, sampleProbe c.p2 r2].filterMap fun p =>
      if p.valid then p.reading else none) = _
    rw [h0, h1, h2, hround]; rfl
  · show ([sampleProbe c.p0 r0, sampleProbe c.p1 r1, sampleProbe c.p2 r2].filter fun p => !p.valid).length = _
    rw [n0, n1, n2, hround]
    cases probeInRange r0 <;> cases probeInRange r1 <;> cases probeInRange r2 <;> rfl

theorem maxReading_mem_ge (x : Int) (l : List Int) :
    maxReading x l ∈ x :: l ∧ ∀ r ∈ x :: l, r ≤ maxReading x l := by
  induction l generalizing x with
  | nil => exact ⟨List.mem_singleton.2 rfl, fun r hr => le_of_eq (List.mem_singleton.1 hr)⟩
  | cons y l ih =>
    obtain ⟨hmem, hge⟩ := ih (max x y)
    have hfold : maxReading x (y :: l) = maxReading (max x y) l := rfl
    rw [hfold]
    refine ⟨?_, fun r hr => ?_⟩
    · rcases List.mem_cons.1 hmem with h | h
      · rcases max_choice x y with hc | hc <;> rw [h, hc] <;> simp
      · exact List.mem_cons_of_mem _ (List.mem_cons_of_mem _ h)
    · have hhead := hge (max x y) (by simp)
      rcases List.mem_cons.1 hr with rfl | hr
      · exact (le_max_left _ _).trans hhead
      · rcases List.mem_cons.1 hr with rfl | hr
        · exact (le_max_right _ _).trans hhead
        · exact hge r (List.mem_cons_of_mem _ hr)

/-- What a round of readings leaves in the Climate Measurement Unit (R45 to R47). -/
structure RoundTaken (l : List Int) (c d : Climate) : Prop where
  invalid : d.invalid = 3 - l.length
  none_valid : l = [] → d.tr = c.tr ∧ d.tmax = c.tmax
  mean : l ≠ [] → d.tr = l.sum / (l.length : Int)
  highest : l ≠ [] → d.tmax ∈ l ∧ ∀ r ∈ l, r ≤ d.tmax
  rest : d.overTemp = c.overTemp ∧ d.ring = c.ring ∧ d.humidityValid = c.humidityValid ∧ d.watch = c.watch ∧
    d.peak = c.peak ∧ d.warmUp = c.warmUp ∧ d.tracking = c.tracking ∧ d.dryPoint = c.dryPoint

theorem roundTaken_sampleProbes (r0 r1 r2 : Int) (c : Climate) :
    RoundTaken (roundReadings r0 r1 r2) c (sampleProbes r0 r1 r2 c) := by
  obtain ⟨hvalid, hinvalid⟩ := validReadings_sampledProbes r0 r1 r2 c
  have hvalid' : validReadings { sampledProbes r0 r1 r2 c with
      invalid := invalidCount (sampledProbes r0 r1 r2 c), roundTimer := some probeRoundMs } = roundReadings r0 r1 r2 := hvalid
  unfold sampleProbes
  dsimp only
  split
  · next h =>
    rw [show roundReadings r0 r1 r2 = [] from hvalid'.symm.trans h] at hinvalid ⊢
    exact ⟨hinvalid, fun _ => ⟨rfl, rfl⟩, fun h => absurd rfl h, fun h => absurd rfl h, rfl, rfl, rfl, rfl, rfl, rfl, rfl, rfl⟩
  · next x rest h =>
    rw [show roundReadings r0 r1 r2 = x :: rest from hvalid'.symm.trans h] at hinvalid ⊢
    exact ⟨hinvalid, fun h => absurd h (List.cons_ne_nil _ _), fun _ => rfl, fun _ => maxReading_mem_ge x rest, rfl, rfl, rfl,
      rfl, rfl, rfl, rfl, rfl⟩

end Sys2Proof.Machine

namespace Sys2Proof.Machine

/-! PROOFS. The reports of a probe round where the cycle stands, the end of cancel cooling, and regulation (R23, R41, R45 to R49). -/

/-! ## A report that leaves the phase where it stands -/

/-- The phase in hand stands, and so does the Climate Measurement Unit. -/
def Stands (s t : State) : Prop := KeepsPhase s t ∧ t.climate = s.climate

theorem Stands.refl (s : State) : Stands s s := ⟨.refl s, rfl⟩

theorem Stands.trans {s t u : State} (h : Stands s t) (g : Stands t u) : Stands s u := ⟨h.1.trans g.1, g.2.trans h.2⟩

theorem Stands.st {s t : State} (h : Stands s t) : t.cycle.st = s.cycle.st := by
  obtain ⟨hphase, -⟩ := h
  unfold KeepsPhase at hphase; rw [hphase]

theorem stands_handOver (s : State) : Stands s (handOver s) := ⟨handOver_keepsPhase s, handOver_climate s⟩

theorem stands_settle (s : State) : Stands s (settle s) := ⟨settle_keepsPhase s, settle_climate s⟩

/-- A class that is not A reaches no phase: it is B only where no phase runs. -/
theorem cycleOnClass_of_standing {s : State} (hb : s.cycle.st ≠ .running ∨ s.faults.activeClass ≠ some .b)
    (ha : s.faults.activeClass ≠ some .a) : cycleOnClass s = handOver s := by
  by_cases hst : s.cycle.st = .running
  · have hcalm : s.faults.blocking = false := by
      have hnotb := hb.resolve_left (fun h => h hst)
      unfold FaultUnit.blocking
      cases hc : s.faults.activeClass with
      | none => rfl
      | some x => cases x <;> simp_all
    exact cycleOnClass_of_calm hcalm
  · exact cycleOnClass_of_rest hst ha

/-- A fall from a class that is not B, or with no cycle held, reaches the cycle as any change of class does (R33). -/
theorem cycleOnFall_of_standing {b : Option FaultClass} {s : State} (h : b ≠ some .b ∨ s.cycle.st ≠ .held) :
    cycleOnFall b s = cycleOnClass s := by
  unfold cycleOnFall
  rw [if_neg]
  rintro ⟨hb, hst, -⟩
  rcases h with h | h
  · exact h hb
  · exact h hst

/-- A raise of class C leaves the phase where it stands. -/
theorem raiseFault_stands {k : FaultKind} {s : State} (hk : k.cls = .c) : Stands s (raiseFault k s) := by
  unfold raiseFault; dsimp only; split
  · exact Stands.trans (t := { s with faults := raiseInto k s.faults }) (.refl s) (stands_settle _)
  · next hne =>
    have hact : (raiseInto k s.faults).active = some k := (raiseInto_active k s.faults).resolve_left hne
    have hcls : (raiseInto k s.faults).activeClass = some .c := by simp [FaultUnit.activeClass, hact, hk]
    rw [show activate { s with faults := raiseInto k s.faults } = endDisplay { s with faults := raiseInto k s.faults } from
        activate_of_not_classA (by simp [hcls]),
      cycleOnClass_of_standing (s := endDisplay { s with faults := raiseInto k s.faults })
        (.inr (by show (raiseInto k s.faults).activeClass ≠ _; simp [hcls]))
        (by show (raiseInto k s.faults).activeClass ≠ _; simp [hcls])]
    exact stands_handOver (endDisplay { s with faults := raiseInto k s.faults })

/-- Nothing of class A or B waits behind a fault of class C (R165). -/
theorem head_classC {f : FaultUnit} (ho : FaultsOrdered f) {k : FaultKind} (hk : k.cls = .c) (ha : f.active = some k) :
    ∀ j ∈ f.waiting, j.cls = .c := by
  obtain ⟨-, -, hrank⟩ := ho
  rw [ha] at hrank
  intro j hj
  have hle := hrank.2 j hj
  have hk2 := (rank_two_iff k).2 hk
  have hj2 := rank_le_two j
  exact (rank_two_iff j).1 (by omega)

/-- A withdraw of class C, and one of class B where no phase runs or is held, leaves the phase where it stands. -/
theorem withdrawCore_stands {k : FaultKind} {s : State} (ho : FaultsOrdered s.faults)
    (hk : k.cls = .c ∨ (k.cls = .b ∧ s.cycle.st ≠ .running ∧ s.cycle.st ≠ .held)) :
    Stands s (withdrawCore k s) ∧ (withdrawCore k s).faults.active = (withdrawFrom k s.faults).active ∧
      (withdrawCore k s).faults.waiting = (withdrawFrom k s.faults).waiting := by
  have hnota : k.cls ≠ .a := by rcases hk with h | ⟨h, -⟩ <;> simp [h]
  unfold withdrawCore; dsimp only; split
  · refine ⟨Stands.trans (t := { s with faults := withdrawFrom k s.faults }) (.refl s) (stands_settle _), by simp, by simp⟩
  · next hne =>
    obtain ⟨ha, hnew, -⟩ := (withdrawFrom_active k s.faults).resolve_left hne
    have hclass : (withdrawFrom k s.faults).activeClass = s.faults.waiting.head?.map FaultKind.cls := by
      unfold FaultUnit.activeClass; rw [hnew]
    have hca : (withdrawFrom k s.faults).activeClass ≠ some .a := hclass ▸ head_not_classA ho hnota ha
    have hcb : s.cycle.st ≠ .running ∨ (withdrawFrom k s.faults).activeClass ≠ some .b := by
      rcases hk with hc | ⟨-, hr, -⟩
      · refine .inr fun h => ?_
        rw [hclass] at h
        obtain ⟨j, hj, hjb⟩ := Option.map_eq_some_iff.1 h
        have := head_classC ho hc ha j (List.mem_of_mem_head? hj)
        rw [this] at hjb; cases hjb
      · exact .inl hr
    have hfall : s.faults.activeClass ≠ some .b ∨ s.cycle.st ≠ .held := by
      rcases hk with hc | ⟨-, -, hh⟩
      · exact .inl (by simp [FaultUnit.activeClass, ha, hc])
      · exact .inr hh
    rw [show activate { s with faults := withdrawFrom k s.faults } = endDisplay { s with faults := withdrawFrom k s.faults } from
      activate_of_not_classA hca]
    rw [cycleOnFall_of_standing (s := endDisplay { s with faults := withdrawFrom k s.faults }) hfall,
      cycleOnClass_of_standing (s := endDisplay { s with faults := withdrawFrom k s.faults }) hcb hca,
      handOver_faults]
    exact ⟨stands_handOver (endDisplay { s with faults := withdrawFrom k s.faults }), rfl, rfl⟩

/-- A report that leaves the phase where it stands: it changes its own kind and, of the others, LOCK_FAULT at most. -/
structure StandReport (k : FaultKind) (b : Bool) (s t : State) : Prop where
  stands : Stands s t
  ordered : FaultsOrdered t.faults
  reported : t.faults.holds k = b
  others : ∀ j, j ≠ k → j ≠ .lockFault → t.faults.holds j = s.faults.holds j
  lock : k ≠ .lockFault → t.faults.holds .lockFault = true → s.faults.holds .lockFault = true

/-- Looking at the lock where no phase runs or is held, or with no LOCK_FAULT held, leaves the phase where it stands. -/
theorem checkLock_stands {s : State} (ho : FaultsOrdered s.faults)
    (h : (s.cycle.st ≠ .running ∧ s.cycle.st ≠ .held) ∨ s.faults.holds .lockFault = false) :
    Stands s (checkLock s) ∧ FaultsOrdered (checkLock s).faults ∧
      (∀ j, j ≠ .lockFault → (checkLock s).faults.holds j = s.faults.holds j) ∧
      ((checkLock s).faults.holds .lockFault = true → s.faults.holds .lockFault = true) := by
  rcases h with hst | hnone
  · unfold checkLock; split
    · obtain ⟨hstands, ha, hw⟩ := withdrawCore_stands (k := .lockFault) ho (.inr ⟨rfl, hst⟩)
      refine ⟨hstands, faultsOrdered_of_lists (withdrawFrom_ordered ho) ha hw, fun j hj => ?_, fun hl => ?_⟩
      · rw [holds_of_lists ha hw, Bool.eq_iff_iff, withdrawFrom_holds ho]; exact and_iff_right hj
      · rw [holds_of_lists ha hw, withdrawFrom_holds ho] at hl; exact hl.2
    · exact ⟨.refl s, ho, fun _ _ => rfl, id⟩
  · rw [checkLock_of_not_held hnone]
    exact ⟨.refl s, ho, fun _ _ => rfl, id⟩

theorem reportFault_stands {k : FaultKind} (hk : k.cls = .c) (b : Bool) {s : State} (ho : FaultsOrdered s.faults)
    (h : (s.cycle.st ≠ .running ∧ s.cycle.st ≠ .held) ∨ s.faults.holds .lockFault = false) :
    StandReport k b s (reportFault k b s) := by
  have hne : FaultKind.lockFault ≠ k := by rintro rfl; cases hk
  have finish : ∀ {u : State}, Stands s u → FaultsOrdered u.faults → u.faults.holds k = b →
      (∀ j, j ≠ k → u.faults.holds j = s.faults.holds j) → StandReport k b s (checkLock u) := by
    intro u hu hord hrep hoth
    have hside : (u.cycle.st ≠ .running ∧ u.cycle.st ≠ .held) ∨ u.faults.holds .lockFault = false := by
      rw [hu.st, hoth _ hne]; exact h
    obtain ⟨hstands, hordered, hholds, hlock⟩ := checkLock_stands hord hside
    exact ⟨hu.trans hstands, hordered, (hholds k hne.symm).trans hrep, fun j hj hl => (hholds j hl).trans (hoth j hj),
      fun _ hl => hoth _ hne ▸ hlock hl⟩
  unfold reportFault
  split
  · next hb => exact ⟨.refl s, ho, hb.symm, fun _ _ _ => rfl, fun _ => id⟩
  · split
    · next htrue =>
      obtain ⟨ha, hw⟩ := raiseFault_faults k s
      refine finish (raiseFault_stands hk) (faultsOrdered_of_lists (raiseInto_ordered ho) ha hw) ?_ fun j hj => ?_
      · rw [holds_of_lists ha hw, htrue, raiseInto_holds]; exact .inl rfl
      · rw [holds_of_lists ha hw, Bool.eq_iff_iff, raiseInto_holds]; exact or_iff_right hj
    · next hfalse =>
      obtain ⟨hstands, ha, hw⟩ := withdrawCore_stands ho (.inl hk)
      refine finish hstands (faultsOrdered_of_lists (withdrawFrom_ordered ho) ha hw) ?_ fun j hj => ?_
      · rw [holds_of_lists ha hw, Bool.eq_false_iff.2 hfalse, ← Bool.not_eq_true, withdrawFrom_holds ho]; simp
      · rw [holds_of_lists ha hw, Bool.eq_iff_iff, withdrawFrom_holds ho]; exact and_iff_right hj

/-- With no class A fault active, none is held (R165). -/
theorem holds_of_not_classA {f : FaultUnit} (ho : FaultsOrdered f) (h : f.activeClass ≠ some .a) {k : FaultKind}
    (hk : k.cls = .a) : f.holds k = false := by
  rw [← Bool.not_eq_true, holds_iff]
  rintro (ha | hw)
  · exact h (by simp [FaultUnit.activeClass, ha, hk])
  · obtain ⟨-, -, hrank⟩ := ho
    cases hact : f.active with
    | none => rw [hact] at hrank; rw [hrank] at hw; cases hw
    | some x =>
      rw [hact] at hrank
      have hle := hrank.2 k hw
      have hk0 : k.rank = 0 := by simp [FaultKind.rank, hk, FaultClass.rank]
      have hx : x.cls = .a := by
        have hx0 : x.rank = 0 := by omega
        cases x <;> simp [FaultKind.rank, FaultKind.cls, FaultClass.rank] at hx0 ⊢
      exact h (by simp [FaultUnit.activeClass, hact, hx])

end Sys2Proof.Machine

namespace Sys2Proof.Machine

/-! PROOFS. The end of cancel cooling, and the regulation latch (R23, R24, R30, R41). -/

/-! ## A round that raises no fault above class C -/

/-- The state with a round of readings taken. -/
def afterRound (r0 r1 r2 : Int) (s : State) : State := { s with climate := sampleProbes r0 r1 r2 s.climate }

/-- With two valid probes at least and Tmax below 70.0 °C on a released trip line, the over-temperature latch open and no class A
fault active, a round ends with what the Cycle Controller makes of it: only PROBE_DEGRADED is reported (R45 to R49). -/
theorem probeRound_of_mild {r0 r1 r2 : Int} {s : State} (ho : FaultsOrdered s.faults) (ha : s.faults.activeClass ≠ some .a)
    (hopen : s.climate.overTemp = false) (htrip : s.lines.trip = false) (hvalid : 2 ≤ (roundReadings r0 r1 r2).length)
    (hmild : ∀ r ∈ roundReadings r0 r1 r2, r < 140)
    (hside : (s.cycle.st ≠ .running ∧ s.cycle.st ≠ .held) ∨ s.faults.holds .lockFault = false) :
    ∃ u b, probeRound r0 r1 r2 s = climateUpdate u ∧ StandReport .probeDegraded b (afterRound r0 r1 r2 s) u ∧
      CabinetFrame s u := by
  have hround := roundTaken_sampleProbes r0 r1 r2 s.climate
  have hne : roundReadings r0 r1 r2 ≠ [] := by rintro h; simp [h] at hvalid
  have hfew : ¬2 ≤ (sampleProbes r0 r1 r2 s.climate).invalid := by rw [hround.invalid]; omega
  have hreport : StandReport .probeDegraded (decide (1 ≤ (sampleProbes r0 r1 r2 s.climate).invalid))
      (afterRound r0 r1 r2 s) _ := reportFault_stands (by decide) _ ho hside
  have hframe : CabinetFrame s _ := CabinetFrame.trans (t := afterRound r0 r1 r2 s)
    ⟨.refl s, rfl, rfl, rfl, .refl s, .refl s, rfl, rfl, rfl⟩
    (reportFault_cabinetFrame .probeDegraded (decide (1 ≤ (sampleProbes r0 r1 r2 s.climate).invalid)) _)
  have hunfold : probeRound r0 r1 r2 s = climateUpdate (evalOverTemp (reportFault .probeFault
      (decide (2 ≤ (sampleProbes r0 r1 r2 s.climate).invalid)) (reportFault .probeDegraded
        (decide (1 ≤ (sampleProbes r0 r1 r2 s.climate).invalid)) (afterRound r0 r1 r2 s)))) := rfl
  rw [hunfold]
  generalize reportFault .probeDegraded (decide (1 ≤ (sampleProbes r0 r1 r2 s.climate).invalid))
    (afterRound r0 r1 r2 s) = u at *
  obtain ⟨-, hclim⟩ := hreport.stands
  have hprobe : u.faults.holds .probeFault = false :=
    (hreport.others _ (by decide) (by decide)).trans (holds_of_not_classA ho ha rfl)
  have hover : u.faults.holds .overTemp = false :=
    (hreport.others _ (by decide) (by decide)).trans (holds_of_not_classA ho ha rfl)
  have hlatch : overTempNext u.climate.overTemp u.lines.trip u.climate.tmax = false := by
    have hopen' : u.climate.overTemp = false := by rw [hclim]; exact hround.rest.1.trans hopen
    have htmax : ¬overTempSet ≤ u.climate.tmax := by
      rw [hclim]
      exact Int.not_le.2 (hmild _ (hround.highest hne).1)
    have htrip' : u.lines.trip = false := by rw [hframe.lines]; exact htrip
    simp [overTempNext, hopen', htmax, htrip']
  have heval : evalOverTemp u = u := by
    have hsame : ({ u with climate := { u.climate with overTemp := false } } : State) = u := by
      have : u.climate.overTemp = false := by rw [hclim]; exact hround.rest.1.trans hopen
      rw [← this]
    calc evalOverTemp u
        = reportFault .overTemp false { u with climate := { u.climate with overTemp := false } } := by
          unfold evalOverTemp; rw [hlatch]
      _ = reportFault .overTemp false u := congrArg _ hsame
      _ = u := reportFault_of_unheld hover
  refine ⟨u, _, ?_, hreport, hframe⟩
  rw [decide_eq_false hfew, reportFault_of_unheld hprobe, heval]

/-! ## Cancel cooling -/

theorem climateUpdate_of_cooled {s : State} (hst : s.cycle.st = .cancelCool) (h : s.climate.tmax < 90) :
    climateUpdate s = checkLock (handOver (leaveTo .idle s)) := by
  have hlatch : latchNext s.cycle s.climate.tr = s.cycle.latch := by simp [latchNext, hst]
  unfold climateUpdate
  dsimp only
  rw [if_pos ⟨hst, h⟩, hlatch]

theorem climateUpdate_of_hot {s : State} (hst : s.cycle.st = .cancelCool) (h : 90 ≤ s.climate.tmax) :
    climateUpdate s = checkLock (handOver s) := by
  have hlatch : latchNext s.cycle s.climate.tr = s.cycle.latch := by simp [latchNext, hst]
  unfold climateUpdate
  dsimp only
  rw [if_neg (fun hc => absurd hc.2 (Int.not_lt.2 h)), hlatch]

/-- Settles O17: the expiry puts the cycle away, and so does a round below 45.0 °C, whose reports leave the phase where it stands. -/
theorem cancelCoolEndsInIdle : Obligations.CancelCoolEndsInIdle := by
  intro p0 p1 p2 s hl ho
  refine ⟨fun hcool => ?_, fun hst ha hopen htrip hvalid => ⟨fun hcold => ?_, fun hwarm hmild => ?_⟩⟩
  · have h := putAway_leaveTo (st := .idle) (.inl rfl) ho
    obtain ⟨hwant, -, -, hdraw⟩ := h.off (by decide)
    have hexec : exec .cancelCoolTimerExpiry s = .next (checkLock (handOver (leaveTo .idle s))) :=
      (live_of_live hl _).trans (congrArg Host.Outcome.next (by unfold cancelCoolExpiry; exact if_pos hcool))
    exact ⟨_, hexec, h.cycle, h.fan (.inl rfl), hwant, hdraw, h.readings, h.frame⟩
  · have hround := roundTaken_sampleProbes p0 p1 p2 s.climate
    have hexec : exec (.probeRound p0 p1 p2) s = .next (probeRound p0 p1 p2 s) := live_of_live hl _
    have hne : roundReadings p0 p1 p2 ≠ [] := by
      intro h; unfold roundReadings at h; rw [h] at hvalid; simp at hvalid
    obtain ⟨u, b, hu, hreport, hframe⟩ := probeRound_of_mild ho ha hopen htrip hvalid
      (fun r hr => Int.lt_trans (hcold r hr) (by decide)) (.inl (by simp [hst]))
    obtain ⟨hphase, hclim⟩ := hreport.stands
    have hust : u.cycle.st = .cancelCool := hreport.stands.st.trans hst
    have htmax : u.climate.tmax < 90 := by rw [hclim]; exact hcold _ (hround.highest hne).1
    rw [hu, climateUpdate_of_cooled hust htmax] at hexec
    have h := putAway_leaveTo (st := .idle) (.inl rfl) hreport.ordered
    obtain ⟨hwant, -, -, hdraw⟩ := h.off (by decide)
    have hlock : (checkLock (handOver (leaveTo .idle u))).request.lock = false := by
      have hcold' : u.climate.tmax < lockTemp := Int.lt_trans htmax (by decide)
      rw [h.handed.2]
      simp [formRequest, lockRequest, h.cycle, h.climate, hcold']
    refine ⟨_, hexec, ?_, h.fan (.inl rfl), hwant, hlock, hdraw, hframe.trans h.frame⟩
    unfold KeepsPhase at hphase
    rw [h.cycle, hphase]
    rfl
  · have hround := roundTaken_sampleProbes p0 p1 p2 s.climate
    have hexec : exec (.probeRound p0 p1 p2) s = .next (probeRound p0 p1 p2 s) := live_of_live hl _
    obtain ⟨r, hr, hhot⟩ := hwarm
    have hne : roundReadings p0 p1 p2 ≠ [] := List.ne_nil_of_mem hr
    obtain ⟨u, b, hu, hreport, hframe⟩ := probeRound_of_mild ho ha hopen htrip hvalid hmild (.inl (by simp [hst]))
    obtain ⟨hphase, hclim⟩ := hreport.stands
    have hust : u.cycle.st = .cancelCool := hreport.stands.st.trans hst
    have htmax : 90 ≤ u.climate.tmax := by rw [hclim]; exact Int.le_trans hhot ((hround.highest hne).2 r hr)
    rw [hu, climateUpdate_of_hot hust htmax] at hexec
    obtain ⟨hstands, -⟩ := checkLock_stands (s := handOver u) (by rw [handOver_faults]; exact hreport.ordered)
      (.inl (by rw [handOver_cycle_st, hust]; decide))
    have hall : Stands u (checkLock (handOver u)) := (stands_handOver u).trans hstands
    have hst' := hall.st.trans hust
    have hhanded := (handed_handOver u).checkLock
    obtain ⟨hwant, -⟩ := hhanded.off (by rw [hst']; decide)
    refine ⟨_, hexec, ?_, ?_, hwant, ?_, hframe.trans ((handOver_cabinetFrame _).trans (checkLock_cabinetFrame _))⟩
    · exact KeepsPhase.trans hphase hall.1
    · rw [hhanded.2]; simp [formRequest, fanRequest, hst']
    · rw [hhanded.2]; simp [formRequest, lockRequest, hst']

/-! ## Regulation -/

theorem roundReadings_of_inRange {p0 p1 p2 : Int} (h0 : -20 ≤ p0) (g0 : p0 < 140) (h1 : -20 ≤ p1) (g1 : p1 < 140)
    (h2 : -20 ≤ p2) (g2 : p2 < 140) : roundReadings p0 p1 p2 = [p0, p1, p2] := by
  refine List.filter_eq_self.2 fun r hr => ?_
  have hr' : r = p0 ∨ r = p1 ∨ r = p2 := by simpa using hr
  simp only [Bool.and_eq_true, decide_eq_true_eq]
  omega

theorem highest_eq_max {p0 p1 p2 m : Int} (hmem : m ∈ [p0, p1, p2]) (hge : ∀ r ∈ [p0, p1, p2], r ≤ m) :
    m = max p0 (max p1 p2) := by
  have hmem' : m = p0 ∨ m = p1 ∨ m = p2 := by simpa using hmem
  have h0 := hge p0 (by simp)
  have h1 := hge p1 (by simp)
  have h2 := hge p2 (by simp)
  omega

/-- The state in which a round in a phase hands its requests over: the regulation latch as Tr has it (R23). -/
def regulated (s : State) : State := { s with cycle := { s.cycle with latch := latchNext s.cycle s.climate.tr } }

theorem climateUpdate_of_phase {s : State} (hst : s.cycle.st = .running ∨ s.cycle.st = .held) :
    climateUpdate s = checkLock (handOver (regulated s)) := by
  have hnot : ¬(s.cycle.st = .cancelCool ∧ s.climate.tmax < coolTemp) := by
    rintro ⟨h, -⟩; simp [h] at hst
  unfold climateUpdate
  dsimp only
  rw [if_neg hnot]
  rfl

/-- The regulation latch in a phase: off at the target or above, on at 2.0 °C below it, kept between (R23). -/
theorem latchNext_of_phase {c : Cycle} {r : Record} {tg tr : Int} (hst : c.st = .running ∨ c.st = .held)
    (hr : c.record = some r) (ht : r.target = some tg) :
    latchNext c tr = if tg ≤ tr then false else if tr ≤ tg - 4 then true else c.latch := by
  unfold latchNext
  rw [if_pos hst, hr, Option.bind_some, ht]
  rfl

/-- The requests of a phase in hand, part by part (R24, R30). -/
theorem formRequest_of_phase {s : State} {r : Record} (hst : s.cycle.st = .running ∨ s.cycle.st = .held)
    (hr : s.cycle.record = some r)
    (hwater : s.cycle.st = .running → s.lines.waterLow = false ∨ r.kind.usesSteam = false) :
    (formRequest s).heater = (if s.cycle.st = .running ∧ s.cycle.latch = true then r.heater.getD 0 else 0) ∧
      (formRequest s).steam = (if s.cycle.st = .running ∧ r.kind.usesSteam = true then r.steam.getD 0 else 0) ∧
      (formRequest s).lock = (r.kind.needsLock || decide (100 ≤ s.climate.tmax)) := by
  have hlock : (formRequest s).lock = (r.kind.needsLock || decide (100 ≤ s.climate.tmax)) := by
    show lockRequest s.cycle s.climate.tmax = _
    unfold lockRequest
    rcases hst with hst | hst <;> rw [hst, hr] <;> rfl
  refine ⟨?_, ?_, hlock⟩
  · simp [formRequest, heaterPart, hr]
  · rcases hst with hst | hst
    · have hw := hwater hst
      cases hu : r.kind.usesSteam with
      | false => simp [formRequest, steamPart, Cycle.steaming, hst, hr, hu]
      | true =>
        rw [hu] at hw
        simp [formRequest, steamPart, Cycle.steaming, hst, hr, hu, hw.resolve_right (by decide)]
    · simp [formRequest, steamPart, Cycle.steaming, hst]

/-- The phase as regulation leaves it: the latch alone has moved (R23). -/
theorem handOver_regulated_cycle {s u : State} (h : KeepsPhase s u) :
    (handOver (regulated u)).cycle =
      { s.cycle with
        starved := (handOver (regulated u)).cycle.starved, starvedSecs := (handOver (regulated u)).cycle.starvedSecs
        latch := (regulated u).cycle.latch } := by
  have hphase : KeepsPhase (regulated u) (handOver (regulated u)) := handOver_keepsPhase _
  unfold KeepsPhase at h hphase
  calc (handOver (regulated u)).cycle
      = { (regulated u).cycle with
          starved := (handOver (regulated u)).cycle.starved
          starvedSecs := (handOver (regulated u)).cycle.starvedSecs } := hphase
    _ = { u.cycle with
          starved := (handOver (regulated u)).cycle.starved, starvedSecs := (handOver (regulated u)).cycle.starvedSecs
          latch := (regulated u).cycle.latch } := rfl
    _ = _ := by rw [h]

/-- Settles O26: the reports of the round leave the phase where it stands, and the latch then follows Tr. -/
theorem regulationFollowsTr : Obligations.RegulationFollowsTr := by
  intro p0 p1 p2 tg r s hl ho hopen htrip hr ht h0 g0 h1 g1 h2 g2 hcase
  have hst : s.cycle.st = .running ∨ s.cycle.st = .held := hcase.imp And.left And.left
  have hall : roundReadings p0 p1 p2 = [p0, p1, p2] := roundReadings_of_inRange h0 g0 h1 g1 h2 g2
  have hround := roundTaken_sampleProbes p0 p1 p2 s.climate
  rw [hall] at hround
  have hlock : s.faults.holds .lockFault = false := by
    rcases hcase with ⟨-, hcalm, -⟩ | ⟨-, -, hlock⟩
    · exact holds_of_calm ho hcalm (by decide)
    · exact hlock
  have ha : s.faults.activeClass ≠ some .a := by
    rcases hcase with ⟨-, hcalm, -⟩ | ⟨-, hb, -⟩
    · intro ha; simp [FaultUnit.blocking, ha] at hcalm
    · simp [hb]
  have hmild : ∀ r ∈ roundReadings p0 p1 p2, r < 140 := by
    rw [hall]
    intro r hr
    have hr' : r = p0 ∨ r = p1 ∨ r = p2 := by simpa using hr
    omega
  obtain ⟨u, b, hu, hreport, hframe⟩ := probeRound_of_mild ho ha hopen htrip (by rw [hall]; exact Nat.le_succ 2) hmild (.inr hlock)
  obtain ⟨hphase, hclim⟩ := hreport.stands
  have hust : u.cycle.st = s.cycle.st := hreport.stands.st
  have hrec : u.cycle.record = some r := by unfold KeepsPhase at hphase; rw [hphase]; exact hr
  have hlatch : u.cycle.latch = s.cycle.latch := by unfold KeepsPhase at hphase; rw [hphase]; rfl
  have htr : u.climate.tr = (p0 + p1 + p2) / 3 := by
    rw [hclim]
    refine (hround.mean (List.cons_ne_nil _ _)).trans ?_
    simp [Int.add_assoc]
  have htmax : u.climate.tmax = max p0 (max p1 p2) := by
    rw [hclim]
    obtain ⟨hmem, hge⟩ := hround.highest (List.cons_ne_nil _ _)
    exact highest_eq_max hmem hge
  have hnext : (regulated u).cycle.latch =
      if tg ≤ (p0 + p1 + p2) / 3 then false else if (p0 + p1 + p2) / 3 ≤ tg - 4 then true else s.cycle.latch := by
    rw [← htr, ← hlatch]
    exact latchNext_of_phase (by rw [hust]; exact hst) hrec ht
  have hnolock : (handOver (regulated u)).faults.holds .lockFault = false := by
    have hkeep := mt (hreport.lock (by decide)) (by rw [show (afterRound p0 p1 p2 s).faults = s.faults from rfl, hlock]; simp)
    rw [handOver_faults]
    exact Bool.not_eq_true _ ▸ hkeep
  have hexec : exec (.probeRound p0 p1 p2) s = .next (handOver (regulated u)) := by
    refine (live_of_live hl _).trans (congrArg Host.Outcome.next ?_)
    rw [hu, climateUpdate_of_phase (by rw [hust]; exact hst), checkLock_of_not_held hnolock]
  have hlatch' : (handOver (regulated u)).cycle.latch = (regulated u).cycle.latch := by
    rw [handOver_regulated_cycle hphase]
  have hlines : (regulated u).lines = s.lines := hframe.lines
  obtain ⟨hheater, hsteam, hlockreq⟩ := formRequest_of_phase (s := regulated u) (r := r) (by rw [← hust] at hst; exact hst)
    hrec (fun hrun => by
      rw [hlines]
      rcases hcase with ⟨-, -, hw⟩ | ⟨hheld, -⟩
      · exact hw
      · have : s.cycle.st = .running := hust.symm.trans hrun
        rw [hheld] at this; cases this)
  have hrun : (regulated u).cycle.st = s.cycle.st := hust
  have hhot : (regulated u).climate.tmax = max p0 (max p1 p2) := htmax
  rw [hrun, ← handOver_request] at hheater hsteam
  rw [hhot, ← handOver_request] at hlockreq
  refine ⟨_, hexec, ?_, by rw [hlatch']; exact hheater, hsteam, hlockreq, ?_⟩
  · rw [← hnext]
    exact handOver_regulated_cycle hphase
  · exact hframe.trans (CabinetFrame.trans (t := regulated u) ⟨.refl u, rfl, rfl, rfl, .refl u, .refl u, rfl, rfl, rfl⟩
      (handOver_cabinetFrame _))

end Sys2Proof.Machine

namespace Sys2Proof.Machine

/-! PROOFS. The trip line and the over-temperature latch (R34, R49, R151, R169). -/

/-! ## What follows at the cycle, beside readings and class A faults -/

/-- The readings are kept, and so are the class A faults held: what a change of class does at the cycle can raise WATER_EMPTY and
withdraw LOCK_FAULT, and no fault of class A. -/
structure Beside (s t : State) : Prop where
  readings : KeepsReadings s t
  ordered : FaultsOrdered s.faults → FaultsOrdered t.faults
  held : FaultsOrdered s.faults → ∀ j : FaultKind, j.cls = .a → t.faults.holds j = s.faults.holds j

theorem Beside.refl (s : State) : Beside s s := ⟨.refl s, id, fun _ _ _ => rfl⟩

theorem Beside.trans {s t u : State} (h : Beside s t) (g : Beside t u) : Beside s u :=
  ⟨h.readings.trans g.readings, fun ho => g.ordered (h.ordered ho),
    fun ho j hj => (g.held (h.ordered ho) j hj).trans (h.held ho j hj)⟩

/-- Where the lists of faults stand. -/
theorem beside_of_lists {s t : State} (hr : KeepsReadings s t) (ha : t.faults.active = s.faults.active)
    (hw : t.faults.waiting = s.faults.waiting) : Beside s t :=
  ⟨hr, fun ho => faultsOrdered_of_lists ho ha hw, fun _ j _ => holds_of_lists ha hw j⟩

theorem keepsReadings_of_climate {s t : State} (h : t.climate = s.climate) : KeepsReadings s t := by
  simp [KeepsReadings, h]

theorem beside_settle (s : State) : Beside s (settle s) :=
  beside_of_lists (keepsReadings_of_climate (settle_climate s)) (by simp) (by simp)

theorem beside_handOver (s : State) : Beside s (handOver s) :=
  beside_of_lists (keepsReadings_of_climate (handOver_climate s)) (by rw [handOver_faults]) (by rw [handOver_faults])

theorem beside_leaveTo (st : CycleState) (s : State) : Beside s (leaveTo st s) := by
  obtain ⟨ha, hw, -⟩ := leaveTo_faults_lists st s
  exact beside_of_lists (keepsReadings_of_watchOff (leaveTo_climate st s)) ha hw

theorem beside_activate (s : State) : Beside s (activate s) := by
  obtain ⟨ha, hw⟩ := activate_faults s
  obtain ⟨-, -, hc, -⟩ := activate_keeps s
  exact beside_of_lists (keepsReadings_of_climate hc) ha hw

theorem beside_cycleOnClass (s : State) : Beside s (cycleOnClass s) := by
  have stay : Beside s (handOver s) := beside_handOver s
  have hold : Beside s (holdCycle s) := Beside.trans (t := heldPhase s) (beside_of_lists (.refl s) rfl rfl) (beside_handOver _)
  have halt : Beside s (haltCycle s) := (beside_leaveTo .halted s).trans (beside_handOver _)
  unfold cycleOnClass
  split
  · split
    all_goals first
      | exact halt
      | exact stay
  · split
    · exact hold
    · exact stay
  · exact stay
  · exact stay

/-- A raise beside class A. -/
theorem beside_raiseInto {k : FaultKind} (hk : k.cls ≠ .a) (s : State) : Beside s { s with faults := raiseInto k s.faults } := by
  refine ⟨.refl s, raiseInto_ordered, fun _ j hj => ?_⟩
  have hne : j ≠ k := by rintro rfl; exact hk hj
  rw [Bool.eq_iff_iff, raiseInto_holds]
  exact or_iff_right hne

/-- A withdraw beside class A. -/
theorem beside_withdrawFrom {k : FaultKind} (hk : k.cls ≠ .a) (s : State) :
    Beside s { s with faults := withdrawFrom k s.faults } := by
  refine ⟨.refl s, withdrawFrom_ordered, fun ho j hj => ?_⟩
  have hne : j ≠ k := by rintro rfl; exact hk hj
  rw [Bool.eq_iff_iff, withdrawFrom_holds ho]
  exact and_iff_right hne

/-- A raise, once the lists have taken it. -/
theorem beside_raiseFault (k : FaultKind) (s : State) : Beside { s with faults := raiseInto k s.faults } (raiseFault k s) := by
  unfold raiseFault; dsimp only; split
  · exact beside_settle _
  · exact (beside_activate _).trans (beside_cycleOnClass _)

theorem beside_checkWater (s : State) : Beside s (checkWater s) := by
  unfold checkWater; split
  · exact (beside_raiseInto (by decide) s).trans (beside_raiseFault .waterEmpty s)
  · exact .refl s

theorem beside_endPhase (s : State) : Beside s (endPhase s) := by
  unfold endPhase; split
  · next r _ =>
    have entered : Beside s (enteredPhase (s.cycle.index + 1) r s) := beside_of_lists (watchEntry_keepsReadings r s) rfl rfl
    exact entered.trans ((beside_handOver _).trans (beside_checkWater _))
  · exact ((beside_leaveTo .done s).trans (beside_handOver _)).trans (beside_of_lists (.refl _) rfl rfl)

theorem beside_returnToRunning (s : State) : Beside s (returnToRunning s) := by
  have run : Beside s (handOver (runOn s)) := Beside.trans (t := runOn s) (beside_of_lists (.refl s) rfl rfl) (beside_handOver _)
  have dry : Beside (handOver (runOn s)) (checkDryPoint (handOver (runOn s))) := by
    unfold checkDryPoint; split
    · exact beside_endPhase _
    · exact .refl _
  exact run.trans (dry.trans (beside_checkWater _))

theorem beside_withdrawCore (k : FaultKind) (s : State) :
    Beside { s with faults := withdrawFrom k s.faults } (withdrawCore k s) := by
  unfold withdrawCore; dsimp only; split
  · exact beside_settle _
  · unfold cycleOnFall; split
    · exact (beside_activate _).trans (beside_returnToRunning _)
    · exact (beside_activate _).trans (beside_cycleOnClass _)

theorem beside_checkLock (s : State) : Beside s (checkLock s) := by
  unfold checkLock; split
  · exact (beside_withdrawFrom (by decide) s).trans (beside_withdrawCore .lockFault s)
  · exact .refl s

/-- A report of class A leaves its kind held as reported, whatever it does at the cycle (R163, R165, R166). -/
theorem reportFault_of_classA {k : FaultKind} (hk : k.cls = .a) (b : Bool) {s : State} (ho : FaultsOrdered s.faults) :
    KeepsReadings s (reportFault k b s) ∧ FaultsOrdered (reportFault k b s).faults ∧ (reportFault k b s).faults.holds k = b := by
  unfold reportFault
  split
  · next hb => exact ⟨.refl s, ho, hb.symm⟩
  · split
    · next htrue =>
      have h := (beside_raiseFault k s).trans (beside_checkLock _)
      have hord : FaultsOrdered (raiseInto k s.faults) := raiseInto_ordered ho
      refine ⟨h.readings, h.ordered hord, ?_⟩
      rw [h.held hord k hk, htrue, raiseInto_holds]
      exact .inl rfl
    · next hfalse =>
      have h := (beside_withdrawCore k s).trans (beside_checkLock _)
      have hord : FaultsOrdered (withdrawFrom k s.faults) := withdrawFrom_ordered ho
      refine ⟨h.readings, h.ordered hord, ?_⟩
      show (checkLock (withdrawCore k s)).faults.holds k = b
      rw [h.held hord k hk, Bool.eq_false_iff.2 hfalse, ← Bool.not_eq_true, withdrawFrom_holds ho]
      simp

end Sys2Proof.Machine

namespace Sys2Proof.Machine

/-! PROOFS. OVER_TEMP newly active, and the trip line's obligation (R34, R49, R151, R169). -/

/-! ## A class A fault newly active -/

/-- A class A fault raised with none of class A active becomes the active one (R165). -/
theorem raiseInto_active_of_classA {f : FaultUnit} (ho : FaultsOrdered f) (h : f.activeClass ≠ some .a) {k : FaultKind}
    (hk : k.cls = .a) : (raiseInto k f).active = some k ∧ (raiseInto k f).active ≠ f.active := by
  have hnew : f.holds k = false := holds_of_not_classA ho h hk
  have hact : (raiseInto k f).active = some k := by
    unfold raiseInto
    rw [if_neg (by simp [hnew])]
    cases ha : f.active with
    | none => rfl
    | some x =>
      have hx : x.rank ≠ 0 := by
        intro hx0
        refine h ?_
        have hxa : x.cls = .a := by cases x <;> simp [FaultKind.rank, FaultKind.cls, FaultClass.rank] at hx0 ⊢
        simp [FaultUnit.activeClass, ha, hxa]
      have hk0 : k.rank = 0 := by simp [FaultKind.rank, hk, FaultClass.rank]
      dsimp only
      rw [if_pos (by omega)]
  refine ⟨hact, fun e => ?_⟩
  have hheld : f.holds k = true := (holds_iff _ _).2 (.inl (e ▸ hact))
  rw [hnew] at hheld; cases hheld

/-- The state a class A fault newly active leaves to the cycle: recorded, its code shown, its tone asked for (R168, R169). -/
def classATold (k : FaultKind) (s : State) : State :=
  sound .classA
    { endDisplay { s with faults := raiseInto k s.faults } with
      faults :=
        { raiseInto k s.faults with
          code := k.code
          history := ({ code := k.code, programme := s.cycle.programme, index := s.cycle.index } :: s.faults.history).take 4 } }

theorem activate_of_classA {k : FaultKind} (hk : k.cls = .a) {s : State}
    (hact : (raiseInto k s.faults).active = some k) :
    activate { s with faults := raiseInto k s.faults } = classATold k s := by
  have hcode : (raiseInto k s.faults).activeCode = k.code := by simp [FaultUnit.activeCode, hact]
  have hend : (endDisplay { s with faults := raiseInto k s.faults }).faults.active = some k := hact
  unfold activate
  dsimp only
  rw [hend]
  dsimp only
  rw [if_pos hk]
  unfold classATold
  simp only [endDisplay, hcode, historyLength, raiseInto_history, hact]

/-- The cycle states a class A fault halts (R34). -/
def Haltable (st : CycleState) : Prop := st = .running ∨ st = .held ∨ st = .paused ∨ st = .cancelCool

theorem cycleOnClass_of_classA {s : State} (h : s.faults.activeClass = some .a) :
    (Haltable s.cycle.st → cycleOnClass s = haltCycle s) ∧ (¬Haltable s.cycle.st → cycleOnClass s = handOver s) := by
  unfold cycleOnClass Haltable
  rw [h]
  dsimp only
  cases hst : s.cycle.st <;> simp

/-- With a fault other than LOCK_FAULT active, the lock can only take LOCK_FAULT off the waiting list (R161, R166). -/
theorem checkLock_of_active {k : FaultKind} {s : State} (ha : s.faults.active = some k) (hk : k ≠ .lockFault) :
    checkLock s = s ∨ checkLock s = settle { s with faults := withdrawFrom .lockFault s.faults } := by
  have hne : s.faults.active ≠ some .lockFault := by rw [ha]; exact fun h => hk (Option.some.inj h)
  have hsame : (withdrawFrom .lockFault s.faults).active = s.faults.active := by rw [withdrawFrom_of_waiting hne]
  unfold checkLock; split
  · refine .inr ?_
    unfold withdrawCore; dsimp only; rw [if_pos hsame]
  · exact .inl rfl

/-- What a class A fault newly active brings about (R34, R165, R169). -/
structure ClassATaken (k : FaultKind) (s t : State) : Prop where
  active : t.faults.active = some k
  history : t.faults.history =
    ({ code := k.code, programme := s.cycle.programme, index := s.cycle.index } :: s.faults.history).take 4
  code : t.faults.code = k.code
  cycle : Haltable s.cycle.st → t.cycle = s.cycle.putAway .halted
  handed : Handed t

/-- The cycle as a class A fault newly active leaves it, before the lock is looked at. -/
theorem classATaken_raiseFault {k : FaultKind} (hk : k.cls = .a) {s : State} (ho : FaultsOrdered s.faults)
    (hnone : s.faults.activeClass ≠ some .a) : ClassATaken k s (raiseFault k s) := by
  obtain ⟨hact, hne⟩ := raiseInto_active_of_classA ho hnone hk
  have hraise : raiseFault k s = cycleOnClass (classATold k s) := by
    unfold raiseFault; dsimp only; rw [if_neg hne, activate_of_classA hk hact]
  have hclass : (classATold k s).faults.activeClass = some .a := by
    show (raiseInto k s.faults).activeClass = _
    simp [FaultUnit.activeClass, hact, hk]
  obtain ⟨hhalt, hstay⟩ := cycleOnClass_of_classA hclass
  rw [hraise]
  by_cases hst : Haltable s.cycle.st
  · have hidle : (classATold k s).cycle.st ≠ .idle := by
      show s.cycle.st ≠ .idle
      rcases hst with h | h | h | h <;> rw [h] <;> decide
    have hfaults : (handOver (leaveTo .halted (classATold k s))).faults = (classATold k s).faults :=
      (handOver_faults _).trans (leaveTo_faults_of_not_idle hidle)
    have hcycle : (handOver (leaveTo .halted (classATold k s))).cycle = s.cycle.putAway .halted := by
      rw [(handOver_restKept (by rw [leaveTo_cycle]; exact resting_putAway (by decide) (by decide))).cycle, leaveTo_cycle]
      rfl
    rw [show cycleOnClass (classATold k s) = handOver (leaveTo .halted (classATold k s)) from hhalt hst]
    exact ⟨by rw [hfaults]; exact hact, by rw [hfaults]; rfl, by rw [hfaults]; rfl, fun _ => hcycle, handed_handOver _⟩
  · rw [show cycleOnClass (classATold k s) = handOver (classATold k s) from hstay hst]
    exact ⟨by rw [handOver_faults]; exact hact, by rw [handOver_faults]; rfl, by rw [handOver_faults]; rfl,
      fun h => absurd h hst, handed_handOver _⟩

/-- A class A fault reported with none of class A active. -/
theorem classATaken_reportFault {k : FaultKind} (hk : k.cls = .a) {s : State} (ho : FaultsOrdered s.faults)
    (hnone : s.faults.activeClass ≠ some .a) : ClassATaken k s (reportFault k true s) := by
  have h := classATaken_raiseFault hk ho hnone
  have hne : k ≠ .lockFault := by rintro rfl; cases hk
  have hreport : reportFault k true s = checkLock (raiseFault k s) := by
    unfold reportFault; rw [if_neg (by rw [holds_of_not_classA ho hnone hk]; simp), if_pos rfl]
  have hhanded : Handed (checkLock (raiseFault k s)) := h.handed.checkLock
  rw [hreport]
  rcases checkLock_of_active h.active hne with e | e
  · rw [e]; exact h
  · rw [e] at hhanded ⊢
    have hactive := h.active
    refine ⟨?_, ?_, ?_, fun hst => ?_, hhanded⟩
    · rw [settle_faults]
      show (withdrawFrom .lockFault (raiseFault k s).faults).active = some k
      rw [withdrawFrom_of_waiting (by rw [hactive]; exact fun h => hne (Option.some.inj h))]
      exact hactive
    · rw [settle_faults]
      exact (withdrawFrom_history _ _).trans h.history
    · rw [settle_faults]
      show (withdrawFrom .lockFault (raiseFault k s).faults).code = k.code
      rw [withdrawFrom_of_waiting (by rw [hactive]; exact fun h => hne (Option.some.inj h))]
      exact h.code
    · have hc := h.cycle hst
      have hr : Resting ({ raiseFault k s with faults := withdrawFrom .lockFault (raiseFault k s).faults } : State).cycle := by
        show Resting (raiseFault k s).cycle
        rw [hc]; exact resting_putAway (by decide) (by decide)
      exact (settle_restKept hr).cycle.trans hc

/-! ## The trip line -/

/-- The state in which the over-temperature latch, evaluated, is reported (R49). -/
def latched (b : Bool) (s : State) : State := { s with climate := { s.climate with overTemp := b } }

/-- The trip line's level reported (R49). -/
def tripAt (active : Bool) (s : State) : State := { s with lines := { s.lines with trip := active } }

/-- An active trip line forces both loads off wherever the outputs are formed (R151). -/
theorem levels_of_trip {s : State} (h : settle s = s) (ht : s.lines.trip = true) :
    s.loads.steamLevel = 0 ∧ s.loads.heaterLevel = 0 := by
  obtain ⟨-, -, hlevels, -⟩ := (settled_iff s).1 h
  obtain ⟨⟨hheaterOff, hsteamOff, -⟩, ⟨-, -, hsteam, hheater, -⟩, -⟩ := (formLevels_fixed_iff s).1 hlevels
  have hforced : loadsForced s = true := by simp [loadsForced, ht]
  rw [hsteamOff, hforced] at hsteam
  rw [hheaterOff, hforced] at hheater
  exact ⟨hsteam, hheater⟩

/-- Settles O24: the outputs follow the line, the latch is evaluated, and OVER_TEMP is reported with it. -/
theorem tripLineWorksLatch : Obligations.TripLineWorksLatch := by
  intro active s hl ho hheld
  have hexec : exec (.tripLineChange active) s = .next (evalOverTemp (settle (tripAt active s))) :=
    live_of_live (s := tripAt active s) hl (fun s => evalOverTemp (settle s))
  have hframe : CabinetFrame (tripAt active s) (evalOverTemp (settle (tripAt active s))) :=
    (settle_cabinetFrame (tripAt active s)).trans (evalOverTemp_cabinetFrame _)
  have hsettled : settle (evalOverTemp (settle (tripAt active s))) = evalOverTemp (settle (tripAt active s)) :=
    settledUpkeep.evalOverTemp (settle_settle _)
  have hphase : KeepsPhase s (settle (tripAt active s)) := settle_keepsPhase (tripAt active s)
  have hclim : (settle (tripAt active s)).climate = s.climate := settle_climate _
  have hfaults : (settle (tripAt active s)).faults = s.faults := settle_faults _
  have htrip : (settle (tripAt active s)).lines.trip = active := by rw [settle_lines]; rfl
  generalize settle (tripAt active s) = v at *
  have heval : evalOverTemp v =
      reportFault .overTemp (overTempNext s.climate.overTemp active s.climate.tmax)
        (latched (overTempNext s.climate.overTemp active s.climate.tmax) v) := by
    unfold evalOverTemp; rw [hclim, htrip]; unfold latched; rw [hclim]
  have hord : FaultsOrdered (latched (overTempNext s.climate.overTemp active s.climate.tmax) v).faults := by
    show FaultsOrdered v.faults; rw [hfaults]; exact ho
  obtain ⟨hreadings, -, hholds⟩ := reportFault_of_classA (k := .overTemp) rfl
    (overTempNext s.climate.overTemp active s.climate.tmax) hord
  rw [← heval] at hreadings hholds
  obtain ⟨-, -, -, -, htr, htmax, hover, hring, -⟩ := hreadings
  refine ⟨_, hexec, hover, hholds.trans hover.symm, fun ha => ?_, fun hset hclear hnone => ?_, ?_, ?_, ?_, hframe⟩
  · exact levels_of_trip hsettled (by rw [hframe.lines]; exact ha)
  · have hlatch : overTempNext s.climate.overTemp active s.climate.tmax = true := hover.symm.trans hset
    rw [heval, hlatch]
    have h : ClassATaken .overTemp (latched true v) _ :=
      classATaken_reportFault rfl (s := latched true v) (by rw [hlatch] at hord; exact hord)
        (by show v.faults.activeClass ≠ _; rw [hfaults]; exact hnone)
    have hcycle : v.cycle.programme = s.cycle.programme ∧ v.cycle.index = s.cycle.index ∧ v.cycle.st = s.cycle.st ∧
        v.cycle.putAway .halted = s.cycle.putAway .halted := by
      unfold KeepsPhase at hphase; rw [hphase]; exact ⟨rfl, rfl, rfl, rfl⟩
    obtain ⟨hprog, hidx, hst, haway⟩ := hcycle
    refine ⟨h.active, ?_, h.code, fun hhalt => ?_⟩
    · rw [h.history]
      show ({ code := 1, programme := v.cycle.programme, index := v.cycle.index } :: v.faults.history).take 4 = _
      rw [hprog, hidx, hfaults]
    · have hcyc : (reportFault .overTemp true (latched true v)).cycle = s.cycle.putAway .halted :=
        (h.cycle (by show Haltable v.cycle.st; rw [hst]; exact hhalt)).trans haway
      obtain ⟨hwant, -⟩ := h.handed.off (by rw [hcyc]; simp [Cycle.putAway])
      refine ⟨hcyc, ?_, hwant⟩
      rw [h.handed.2]
      simp [formRequest, fanRequest, hcyc, Cycle.putAway]
  · rw [htr]; show v.climate.tr = _; rw [hclim]
  · rw [htmax]; show v.climate.tmax = _; rw [hclim]
  · rw [hring]; show v.climate.ring = _; rw [hclim]

end Sys2Proof.Machine

namespace Sys2Proof.Machine

/-! PROOFS. The first readings after a reset: what their reports leave of a part that has started afresh (R44 to R52, R164, R173). -/

/-! ## A part at its first readings -/

/-- The history at the first readings: as it was, or with one record of a class A fault, taken before any programme (R169). -/
def FirstRecord (b s : State) : Prop :=
  s.faults.history = b.faults.history ∨
    (s.faults.activeClass = some .a ∧
      ∃ r, r.programme = 0 ∧ r.index = 0 ∧ s.faults.history = (r :: b.faults.history).take 4)

/-- A part that started as `b` and has taken some of its first readings: cycle, sharing, notice and Peer Table are as they were, and
only climate, faults, panel and outputs follow the readings. -/
structure Waking (b s : State) : Prop where
  cycle : s.cycle = Cycle.reset
  request : s.request.want = 0 ∧ s.request.cls = 0 ∧ s.request.boost = 0
  share : s.share = b.share
  member : s.member = b.member
  framer : s.framer = b.framer
  table : s.table = b.table
  feeder : s.feeder = b.feeder
  inputs : KeepsInputs b s
  gates : KeepsGates b s
  watch : WatchIsOff s.climate
  panel : s.panel.display = none ∧ s.panel.longPress = none
  code : s.faults.code = s.faults.activeCode
  ordered : FaultsOrdered s.faults
  record : FirstRecord b s
  unlocked : s.faults.holds .lockFault = false

theorem resting_reset : Resting Cycle.reset := ⟨by decide, by decide, rfl, rfl⟩

theorem Waking.resting {b s : State} (h : Waking b s) : Resting s.cycle := by
  rw [h.cycle]; exact resting_reset

theorem Waking.settle {b s : State} (h : Waking b s) : Waking b (settle s) := by
  have hcycle : (Machine.settle s).cycle = s.cycle := (settle_restKept h.resting).cycle
  obtain ⟨hdisplay, hlong⟩ := h.panel
  refine ⟨hcycle.trans h.cycle, by simpa using h.request, by simpa using h.share, by simpa using h.member,
    by simpa using h.framer, by simpa using h.table, by simpa using h.feeder, ?_, ?_, by simpa using h.watch,
    ⟨by simpa using hdisplay, by simpa using hlong⟩, by simpa using h.code, by simpa using h.ordered, ?_,
    by simpa using h.unlocked⟩
  · exact h.inputs.trans (settle_cabinetFrame s).1
  · have hgates := h.gates
    unfold KeepsGates at hgates ⊢; simpa using hgates
  · have hrecord := h.record
    unfold FirstRecord at hrecord ⊢; rwa [settle_faults]

/-- A part that waits in IDLE asks for nothing before and after its requests are formed, so handing over only forms the outputs. -/
theorem Waking.handOver_eq {b s : State} (h : Waking b s) : handOver s = Machine.settle { s with request := formRequest s } := by
  obtain ⟨hwant, hcls, hboost⟩ := h.request
  have hst : s.cycle.st ≠ .running := h.resting.1
  obtain ⟨-, -, hw, hc, -⟩ := formRequest_of_not_running hst
  have hb : (formRequest s).boost = 0 := by simp [formRequest, h.cycle, Cycle.reset]
  exact handOver_of_same_want (hw.trans hwant.symm) (hc.trans hcls.symm) (hb.trans hboost.symm)

theorem Waking.handOver {b s : State} (h : Waking b s) : Waking b (handOver s) := by
  rw [h.handOver_eq]
  have hst : s.cycle.st ≠ .running := h.resting.1
  obtain ⟨-, -, hw, hc, -⟩ := formRequest_of_not_running hst
  have hb : (formRequest s).boost = 0 := by simp [formRequest, h.cycle, Cycle.reset]
  have formed : Waking b { s with request := formRequest s } := { h with request := ⟨hw, hc, hb⟩ }
  exact formed.settle

/-- A part that takes readings without a phase: the Climate Measurement Unit alone changes. -/
theorem Waking.reads {b s : State} (h : Waking b s) {c : Climate} (hc : WatchIsOff c) : Waking b { s with climate := c } :=
  { h with watch := hc }

/-! ## Its reports -/

/-- Only where no class A fault is active can a raise change the active fault (R165). -/
theorem activeClass_of_raised {k : FaultKind} {f : FaultUnit} (h : (raiseInto k f).active ≠ f.active) :
    f.activeClass ≠ some .a := by
  intro ha
  obtain ⟨x, hx, hxa⟩ := Option.map_eq_some_iff.1 ha
  have hx0 : x.rank = 0 := by simp [FaultKind.rank, hxa, FaultClass.rank]
  refine h ?_
  unfold raiseInto; split
  · rfl
  · rw [hx]; dsimp only
    rw [if_neg (by omega)]

/-- In IDLE a change of class only hands the requests over (R32, R34). -/
theorem cycleOnClass_of_idle {s : State} (h : s.cycle.st = .idle) : cycleOnClass s = handOver s := by
  unfold cycleOnClass
  rw [h]
  split <;> rfl

/-- A raise whose kind does not become the active fault. -/
theorem Waking.joined {b s : State} (h : Waking b s) {k : FaultKind} (hk : k ≠ .lockFault)
    (hsame : (raiseInto k s.faults).active = s.faults.active) : Waking b { s with faults := raiseInto k s.faults } := by
  have hcode : (raiseInto k s.faults).code = s.faults.code := by
    unfold raiseInto; split
    · rfl
    · split
      · rfl
      · split <;> rfl
  have hlock : (raiseInto k s.faults).holds .lockFault = false := by
    rw [← Bool.not_eq_true, raiseInto_holds, h.unlocked]
    simp [hk.symm]
  refine { h with code := ?_, ordered := raiseInto_ordered h.ordered, record := ?_, unlocked := hlock }
  · show (raiseInto k s.faults).code = (raiseInto k s.faults).activeCode
    unfold FaultUnit.activeCode
    rw [hcode, hsame]
    exact h.code
  · unfold FirstRecord FaultUnit.activeClass
    dsimp only
    rw [hsame, raiseInto_history]
    exact h.record

/-- A raise whose kind becomes the active fault, told to panel and history. -/
theorem Waking.told {b s : State} (h : Waking b s) {k : FaultKind} (hk : k ≠ .lockFault)
    (hne : (raiseInto k s.faults).active ≠ s.faults.active) :
    Waking b (activate { s with faults := raiseInto k s.faults }) := by
  have hact : (raiseInto k s.faults).active = some k := (raiseInto_active k s.faults).resolve_left hne
  have hhist : s.faults.history = b.faults.history := h.record.resolve_right (fun hr => activeClass_of_raised hne hr.1)
  have hlock : (raiseInto k s.faults).holds .lockFault = false := by
    rw [← Bool.not_eq_true, raiseInto_holds, h.unlocked]
    simp [hk.symm]
  have hcode : (raiseInto k s.faults).activeCode = k.code := by simp [FaultUnit.activeCode, hact]
  obtain ⟨-, hlong⟩ := h.panel
  have hord : FaultsOrdered (raiseInto k s.faults) := raiseInto_ordered h.ordered
  by_cases hka : k.cls = .a
  · rw [activate_of_classA hka hact]
    refine { h with panel := ⟨rfl, hlong⟩, code := hcode.symm, ordered := hord, record := .inr ⟨?_, ?_⟩, unlocked := hlock }
    · show (raiseInto k s.faults).activeClass = _
      simp [FaultUnit.activeClass, hact, hka]
    · refine ⟨{ code := k.code, programme := s.cycle.programme, index := s.cycle.index }, ?_, ?_, ?_⟩
      · show s.cycle.programme = 0; rw [h.cycle]; rfl
      · show s.cycle.index = 0; rw [h.cycle]; rfl
      · show List.take 4 (_ :: s.faults.history) = _; rw [hhist]
  · have hnota : (raiseInto k s.faults).activeClass ≠ some .a := by simp [FaultUnit.activeClass, hact, hka]
    rw [show activate { s with faults := raiseInto k s.faults } = endDisplay { s with faults := raiseInto k s.faults } from
      activate_of_not_classA hnota]
    exact { h with
      panel := ⟨rfl, hlong⟩, code := rfl, ordered := hord, record := .inl ((raiseInto_history k s.faults).trans hhist)
      unlocked := hlock }

/-- A fault that the first readings raise. -/
theorem Waking.raise {b s : State} (h : Waking b s) {k : FaultKind} (hk : k ≠ .lockFault) :
    Waking b (raiseFault k s) ∧ (raiseFault k s).climate = s.climate := by
  unfold raiseFault; dsimp only; split
  · next hsame => exact ⟨(h.joined hk hsame).settle, settle_climate _⟩
  · next hne =>
    have htold := h.told hk hne
    obtain ⟨hcycle, -, hclim, -⟩ := activate_keeps { s with faults := raiseInto k s.faults }
    rw [cycleOnClass_of_idle (by rw [htold.cycle]; rfl)]
    exact ⟨htold.handOver, (handOver_climate _).trans hclim⟩

/-- A report at the first readings of a kind not held: it is held then as reported, and the others as they were. -/
theorem Waking.report {b s : State} (h : Waking b s) {k : FaultKind} (hk : k ≠ .lockFault) (hnew : s.faults.holds k = false)
    (v : Bool) :
    Waking b (reportFault k v s) ∧ (reportFault k v s).climate = s.climate ∧ (reportFault k v s).faults.holds k = v ∧
      ∀ j, j ≠ k → (reportFault k v s).faults.holds j = s.faults.holds j := by
  cases v with
  | false =>
    rw [reportFault_of_unheld hnew]
    exact ⟨h, rfl, hnew, fun _ _ => rfl⟩
  | true =>
    obtain ⟨hwaking, hclim⟩ := h.raise hk
    have hreport : reportFault k true s = raiseFault k s := by
      unfold reportFault
      rw [if_neg (by rw [hnew]; decide), if_pos rfl]
      exact checkLock_of_not_held hwaking.unlocked
    obtain ⟨ha, hw⟩ := raiseFault_faults k s
    rw [hreport]
    refine ⟨hwaking, hclim, ?_, fun j hj => ?_⟩
    · rw [holds_of_lists ha hw, raiseInto_holds]; exact .inl rfl
    · rw [holds_of_lists ha hw, Bool.eq_iff_iff, raiseInto_holds]; exact or_iff_right hj

end Sys2Proof.Machine

namespace Sys2Proof.Machine

/-! PROOFS. A reset: the first probe round and the first humidity reading on a part that has started afresh, after power-on and at the
RESET pin (R16, R44 to R52, R111, R139, R164, R173). -/

/-! ## The first probe round -/

/-- The over-temperature latch after the first round: it was open (R49). -/
def firstLatch (trip : Bool) (tmax : Int) : Bool := decide (140 ≤ tmax) || trip

/-- In IDLE an update of Tr and Tmax only hands the requests over. -/
theorem climateUpdate_of_waking {b s : State} (h : Waking b s) : climateUpdate s = handOver s := by
  have hidle : s.cycle.st = .idle := by rw [h.cycle]; rfl
  have hlatch : latchNext s.cycle s.climate.tr = s.cycle.latch := by simp [latchNext, hidle]
  unfold climateUpdate
  dsimp only
  rw [if_neg (fun hc => by rw [hidle] at hc; cases hc.1), hlatch]
  exact checkLock_of_not_held h.handOver.unlocked

/-- The first round: its readings stand, and of the faults those are held that they give (R44 to R49). -/
theorem Waking.probeRound {b : State} (h : Waking b b) (hreset : b.climate = Climate.reset)
    (hnone : ∀ j, b.faults.holds j = false) (r0 r1 r2 : Int) :
    Waking b (probeRound r0 r1 r2 b) ∧
      (probeRound r0 r1 r2 b).climate =
        { sampleProbes r0 r1 r2 Climate.reset with
          overTemp := firstLatch b.lines.trip (sampleProbes r0 r1 r2 Climate.reset).tmax } ∧
      ∀ j, (probeRound r0 r1 r2 b).faults.holds j =
        match j with
        | .probeDegraded => decide (1 ≤ (sampleProbes r0 r1 r2 Climate.reset).invalid)
        | .probeFault => decide (2 ≤ (sampleProbes r0 r1 r2 Climate.reset).invalid)
        | .overTemp => firstLatch b.lines.trip (sampleProbes r0 r1 r2 Climate.reset).tmax
        | .mainsLost | .addressConflict | .waterEmpty | .fanStall | .lockFault | .lineIsolated | .bankOverflow
        | .humidityFault => false := by
  have hround := roundTaken_sampleProbes r0 r1 r2 Climate.reset
  have hoff : WatchIsOff (sampleProbes r0 r1 r2 Climate.reset) := by
    obtain ⟨-, -, -, hwatch, hpeak, hwarm, htrack, hpoint⟩ := hround.rest
    exact ⟨hwatch, hpeak, hwarm, htrack, hpoint⟩
  have hopen : (sampleProbes r0 r1 r2 Climate.reset).overTemp = false := hround.rest.1
  have hunfold : Machine.probeRound r0 r1 r2 b = climateUpdate (evalOverTemp (reportFault .probeFault
      (decide (2 ≤ (sampleProbes r0 r1 r2 Climate.reset).invalid)) (reportFault .probeDegraded
        (decide (1 ≤ (sampleProbes r0 r1 r2 Climate.reset).invalid))
        { b with climate := sampleProbes r0 r1 r2 Climate.reset }))) := by rw [← hreset]; rfl
  rw [hunfold]
  generalize sampleProbes r0 r1 r2 Climate.reset = c at *
  obtain ⟨h1, hclim1, hheld1, hoth1⟩ :=
    (h.reads hoff).report (k := .probeDegraded) (by decide) (hnone _) (decide (1 ≤ c.invalid))
  generalize reportFault .probeDegraded (decide (1 ≤ c.invalid)) { b with climate := c } = u at *
  obtain ⟨h2, hclim2, hheld2, hoth2⟩ :=
    h1.report (k := .probeFault) (by decide) ((hoth1 _ (by decide)).trans (hnone _)) (decide (2 ≤ c.invalid))
  generalize reportFault .probeFault (decide (2 ≤ c.invalid)) u = v at *
  have hclim : v.climate = c := hclim2.trans hclim1
  have htrip : v.lines.trip = b.lines.trip := congrArg Lines.trip h2.inputs.2.1
  have hlatch : overTempNext v.climate.overTemp v.lines.trip v.climate.tmax = firstLatch b.lines.trip c.tmax := by
    rw [hclim, htrip, hopen]; rfl
  have heval : evalOverTemp v =
      reportFault .overTemp (firstLatch b.lines.trip c.tmax) (latched (firstLatch b.lines.trip c.tmax) v) := by
    rw [← hlatch]; rfl
  have hoff' : WatchIsOff { v.climate with overTemp := firstLatch b.lines.trip c.tmax } := by rw [hclim]; exact hoff
  obtain ⟨h3, hclim3, hheld3, hoth3⟩ :=
    (h2.reads hoff').report (k := .overTemp) (by decide)
      ((hoth2 _ (by decide)).trans ((hoth1 _ (by decide)).trans (hnone _))) (firstLatch b.lines.trip c.tmax)
  rw [heval]
  change Waking b (reportFault .overTemp _ (latched _ v)) at h3
  rw [climateUpdate_of_waking h3]
  refine ⟨h3.handOver, ?_, fun j => ?_⟩
  · rw [handOver_climate]
    exact hclim3.trans (by rw [hclim])
  · rw [handOver_faults]
    by_cases j3 : j = .overTemp
    · rw [j3]; exact hheld3
    · refine (hoth3 j j3).trans ?_
      by_cases j2 : j = .probeFault
      · rw [j2]; exact hheld2
      · refine (hoth2 j j2).trans ?_
        by_cases j1 : j = .probeDegraded
        · rw [j1]; exact hheld1
        · refine (hoth1 j j1).trans ((hnone j).trans ?_)
          cases j with
          | probeDegraded => exact absurd rfl j1
          | probeFault => exact absurd rfl j2
          | overTemp => exact absurd rfl j3
          | _ => rfl

/-! ## The first humidity reading -/

theorem watchSample_of_off {c : Climate} (h : c.watch = .off) (v : Nat) : watchSample v c = c := by
  unfold watchSample; rw [h]

/-- The first humidity reading: a valid sample is the one in the ring, any other raises HUMIDITY_FAULT (R51, R52). -/
theorem Waking.humidityReading {b s : State} (h : Waking b s) (hring : s.climate.ring = [])
    (hnew : s.faults.holds .humidityFault = false) (rh : Int) :
    Waking b (humidityReading rh s) ∧
      ((humidityReading rh s).climate.invalid = s.climate.invalid ∧ (humidityReading rh s).climate.tr = s.climate.tr ∧
        (humidityReading rh s).climate.tmax = s.climate.tmax ∧
        (humidityReading rh s).climate.overTemp = s.climate.overTemp) ∧
      (humidityReading rh s).climate.humidityValid = decide (0 ≤ rh ∧ rh ≤ 200) ∧
      (humidityReading rh s).climate.ring = (if 0 ≤ rh ∧ rh ≤ 200 then [rh.toNat] else []) ∧
      (humidityReading rh s).faults.holds .humidityFault = !decide (0 ≤ rh ∧ rh ≤ 200) ∧
      ∀ j, j ≠ .humidityFault → (humidityReading rh s).faults.holds j = s.faults.holds j := by
  have hwatch : s.climate.watch = .off := h.watch.1
  by_cases hrange : 0 ≤ rh ∧ rh ≤ 200
  · have hsample : humiditySampleOf rh = some rh.toNat := by unfold humiditySampleOf; exact if_pos hrange
    have hread : Waking b { s with climate := { s.climate with
        humidityValid := true, ring := pushRing s.climate.ring rh.toNat, sampleTimer := some humiditySampleMs } } :=
      h.reads h.watch
    have heq : Machine.humidityReading rh s = { s with climate := { s.climate with
        humidityValid := true, ring := pushRing s.climate.ring rh.toNat, sampleTimer := some humiditySampleMs } } := by
      unfold Machine.humidityReading
      rw [hsample]
      dsimp only
      rw [watchSample_of_off (by exact hwatch), reportFault_of_unheld (by exact hnew)]
      unfold checkDryPoint
      rw [if_neg (fun hd => by rw [show s.cycle.st = .idle by rw [h.cycle]; rfl] at hd; cases hd.1)]
      exact checkLock_of_not_held hread.unlocked
    rw [heq]
    refine ⟨hread, ⟨rfl, rfl, rfl, rfl⟩, (decide_eq_true hrange).symm, ?_, ?_, fun _ _ => rfl⟩
    · rw [if_pos hrange]
      show pushRing s.climate.ring rh.toNat = _
      rw [hring]; rfl
    · rw [decide_eq_true hrange]; exact hnew
  · have hsample : humiditySampleOf rh = none := by unfold humiditySampleOf; exact if_neg hrange
    have hread : Waking b { s with climate := { s.climate with
        humidityValid := false, ring := [], sampleTimer := some humiditySampleMs } } := h.reads h.watch
    obtain ⟨hwaking, hclim, hheld, hoth⟩ := hread.report (k := .humidityFault) (by decide) hnew true
    have heq : Machine.humidityReading rh s = reportFault .humidityFault true { s with climate := { s.climate with
        humidityValid := false, ring := [], sampleTimer := some humiditySampleMs } } := by
      unfold Machine.humidityReading; rw [hsample]
    rw [heq, hclim, hheld, decide_eq_false hrange, if_neg hrange]
    exact ⟨hwaking, ⟨rfl, rfl, rfl, rfl⟩, rfl, rfl, rfl, hoth⟩

/-! ## Both -/

/-- After the first readings the part is as it started, with the readings and the faults they give. -/
theorem Waking.firstReadings {b : State} (h : Waking b b) (hreset : b.climate = Climate.reset)
    (hnone : ∀ j, b.faults.holds j = false) (r0 r1 r2 rh : Int) :
    Waking b (firstReadings r0 r1 r2 rh b) ∧
      FirstReadings r0 r1 r2 rh b.lines.trip (firstReadings r0 r1 r2 rh b) := by
  have hround := roundTaken_sampleProbes r0 r1 r2 Climate.reset
  obtain ⟨h1, hclim1, hheld1⟩ := h.probeRound hreset hnone r0 r1 r2
  have hring : (Machine.probeRound r0 r1 r2 b).climate.ring = [] := by
    rw [hclim1]; exact hround.rest.2.1
  obtain ⟨h2, ⟨hinv, htr, htmax, hover⟩, hvalid, hring2, hheld2, hoth2⟩ := h1.humidityReading hring (hheld1 .humidityFault) rh
  unfold Machine.firstReadings
  generalize Machine.humidityReading rh (Machine.probeRound r0 r1 r2 b) = t at *
  rw [hclim1] at hinv htr htmax hover
  refine ⟨h2, hinv.trans hround.invalid, fun hv => ?_, fun hv => ?_, ?_, hvalid, hring2, h2.ordered, fun k => ?_⟩
  · obtain ⟨hr, hm⟩ := hround.none_valid hv
    exact ⟨htr.trans hr, htmax.trans hm⟩
  · obtain ⟨hmem, hge⟩ := hround.highest hv
    rw [htmax]
    exact ⟨htr.trans (hround.mean hv), hmem, hge⟩
  · rw [hover, htmax]; rfl
  · by_cases hk : k = .humidityFault
    · rw [hk, hvalid]; exact hheld2
    · rw [hoth2 k hk, hheld1 k, hinv, hover]
      cases k with
      | humidityFault => exact absurd rfl hk
      | _ => rfl

end Sys2Proof.Machine

namespace Sys2Proof.Machine

/-! PROOFS. Power-on reset and the release of the RESET pin (R16, R80, R111, R139, R164, R173). -/

/-! ## Power-on -/

/-- The part released from a power-on reset, before its outputs are formed (R173). -/
def releasedPart (s : State) : State :=
  { State.reset with
    loads := { LoadOut.reset with lockConfirm := if s.lines.locked then none else some lockConfirmMs }
    panel :=
      { Panel.reset with
        start := keyAtReset s.panel.start, cancel := keyAtReset s.panel.cancel, power := keyAtReset s.panel.power }
    lines := s.lines
    nonceReads := s.nonceReads
    line := s.line
    pending := s.pending }

/-- A part that waits in IDLE with nothing raised is at its first readings from itself. -/
theorem waking_of_reset {s : State} (hcycle : s.cycle = Cycle.reset) (hrequest : s.request = Request.reset)
    (hclimate : s.climate = Climate.reset) (hdisplay : s.panel.display = none) (hlong : s.panel.longPress = none)
    (hactive : s.faults.active = none) (hwaiting : s.faults.waiting = []) (hcode : s.faults.code = 0) : Waking s s where
  cycle := hcycle
  request := by rw [hrequest]; exact ⟨rfl, rfl, rfl⟩
  share := rfl
  member := rfl
  framer := rfl
  table := rfl
  feeder := rfl
  inputs := .refl s
  gates := ⟨rfl, rfl, rfl⟩
  watch := by rw [hclimate]; exact ⟨rfl, rfl, rfl, rfl, rfl⟩
  panel := ⟨hdisplay, hlong⟩
  code := by unfold FaultUnit.activeCode; rw [hcode, hactive]; rfl
  ordered := by
    unfold FaultsOrdered
    rw [hactive, hwaiting]
    exact ⟨List.nodup_nil, List.Pairwise.nil, rfl⟩
  record := .inl rfl
  unlocked := by unfold FaultUnit.holds; rw [hactive, hwaiting]; rfl

theorem freshStart_cycle (s : State) : (freshStart s).cycle = Cycle.reset :=
  (settle_restKept (s := releasedPart s) resting_reset).cycle

theorem waking_freshStart (s : State) : Waking (freshStart s) (freshStart s) := by
  have hfaults : (freshStart s).faults = FaultUnit.reset := settle_faults (releasedPart s)
  exact waking_of_reset (freshStart_cycle s) (settle_request (releasedPart s)) (settle_climate (releasedPart s))
    (settle_panel_display (releasedPart s)) (settle_panel_longPress (releasedPart s)) (by rw [hfaults]; rfl) (by rw [hfaults]; rfl)
    (by rw [hfaults]; rfl)

/-- The outputs of a part at its first readings, once its requests are handed over: everything is off (R29, R149, R150, R157). -/
theorem Waking.outputs {b s : State} (h : Waking b s) (hh : Handed s) (hstall : s.faults.holds .fanStall = false) :
    s.request.fan = 0 ∧ s.request.valve = false ∧ s.request.lock = decide (100 ≤ s.climate.tmax) ∧
      s.loads.lock = s.request.lock ∧ s.loads.fan = 0 ∧ s.loads.draw = 0 ∧ s.loads.valve = false ∧
      s.panel.phaseLamp = .dark := by
  have hst : s.cycle.st = .idle := by rw [h.cycle]; rfl
  obtain ⟨-, -, hvalve, hdraw⟩ := hh.off (by rw [hst]; decide)
  have hfan : s.request.fan = 0 := by rw [hh.2]; simp [formRequest, fanRequest, hst]
  have hlock : s.request.lock = decide (100 ≤ s.climate.tmax) := by
    have e : s.request.lock = lockRequest s.cycle s.climate.tmax := congrArg Request.lock hh.2
    rw [e]; unfold lockRequest; rw [hst]; rfl
  obtain ⟨-, -, ⟨hopen, hclosed, -⟩, ⟨hcommand, hgate, -⟩, hphase, -⟩ := hh.outputs
  have hfanOff : s.loads.fan = 0 := by
    cases hd : s.lines.doorOpen with
    | true => exact hopen hd
    | false =>
      obtain ⟨-, -, hoff⟩ := hclosed hd
      rw [hoff (by rw [hst]; decide) hfan, hstall]; rfl
  have hshut : s.loads.valve = false := by
    rw [← Bool.not_eq_true, hgate, hvalve]; simp
  exact ⟨hfan, hvalve, hlock, hcommand, hfanOff, hdraw, hshut, by simpa [hst] using hphase⟩

/-- The code lines show the active fault once no history is displayed (R168, R170). -/
theorem Waking.codeShown {b s : State} (h : Waking b s) : CodeShown s := by
  unfold CodeShown codeOut
  rw [h.panel.1]
  exact h.code

/-- The record of a history that was empty (R164, R169). -/
theorem FirstRecord.of_empty {b s : State} (h : FirstRecord b s) (hb : b.faults.history = []) :
    ∀ r ∈ s.faults.history, r.programme = 0 ∧ r.index = 0 := by
  rcases h with h | ⟨-, r, hp, hi, h⟩
  · rw [h, hb]; simp
  · rw [h, hb]
    intro q hq
    obtain rfl : q = r := by simpa using hq
    exact ⟨hp, hi⟩

/-- Settles O4: the part starts afresh and takes its first readings. -/
theorem powerOnStartsAfresh : Obligations.PowerOnStartsAfresh := by
  intro p0 p1 p2 rh s
  have hfaults : (freshStart s).faults = FaultUnit.reset := settle_faults (releasedPart s)
  obtain ⟨h, hread⟩ := (waking_freshStart s).firstReadings (settle_climate (releasedPart s))
    (fun j => by rw [hfaults]; rfl) p0 p1 p2 rh
  have hlines : (freshStart s).lines = s.lines := settle_lines (releasedPart s)
  rw [hlines] at hread
  have hhanded : Handed (firstReadings p0 p1 p2 rh (freshStart s)) :=
    ⟨settledStepUpkeep.powerOn p0 p1 p2 rh s, requestStepUpkeep.powerOn p0 p1 p2 rh s⟩
  have hexec : exec (.powerOnReset p0 p1 p2 rh) s = .next (firstReadings p0 p1 p2 rh (freshStart s)) := rfl
  have hstall : (firstReadings p0 p1 p2 rh (freshStart s)).faults.holds .fanStall = false := by
    obtain ⟨-, -, -, -, -, -, -, hholds⟩ := hread
    exact hholds .fanStall
  obtain ⟨hfan, hvalve, hlock, hcommand, hfanOff, hdraw, hshut, hlamp⟩ := h.outputs hhanded hstall
  obtain ⟨hwant, hcls, hboost⟩ := h.request
  obtain ⟨hdisplay, hlong⟩ := h.panel
  obtain ⟨hheat, hsteam, -⟩ := h.gates
  obtain ⟨hstraps, hlines', hreset, hnonce, hline, hpending⟩ := h.inputs
  refine ⟨_, hexec, h.cycle, h.table.trans (settle_table _), h.share.trans (settle_share _), h.member.trans (settle_member _),
    h.framer.trans (settle_framer _), h.feeder.trans (settle_feeder _), hstraps.trans (settle_straps _), hwant, hcls, hboost,
    hfan, hvalve, hlock, hcommand, hfanOff, hdraw, hshut, ?_, ?_, h.watch, h.record.of_empty (by rw [hfaults]; rfl), hdisplay,
    hlong, hlamp, hreset.trans (settle_inReset _), hread, h.codeShown, hlines'.trans hlines, hline.trans (settle_line _),
    hpending.trans (settle_pending _), hnonce.trans (settle_nonceReads _)⟩
  · exact hheat.trans (settle_loads_heaterGate (releasedPart s))
  · exact hsteam.trans (settle_loads_steamGate (releasedPart s))

/-! ## The RESET pin -/

/-- The part that joins at once after a RESET pin reset, before its first readings (R80, R111, R139). -/
def rejoined (s : State) : State := enterJoinListen (keepLearned s (freshStart s))

theorem rejoined_frame (s : State) : Rejoining (keepLearned s (freshStart s)) (rejoined s) :=
  rejoining_enterJoinListen (by show Resting (freshStart s).cycle; rw [freshStart_cycle]; exact resting_reset)

theorem rejoined_faults (s : State) : (rejoined s).faults = { FaultUnit.reset with history := s.faults.history } := by
  have h : (freshStart s).faults = FaultUnit.reset := settle_faults (releasedPart s)
  refine (compute_faults _).trans ?_
  show { (freshStart s).faults with history := s.faults.history } = _
  rw [h]

theorem waking_rejoined (s : State) : Waking (rejoined s) (rejoined s) := by
  have h := rejoined_frame s
  have hf := rejoined_faults s
  refine waking_of_reset (h.cycle.trans (freshStart_cycle s)) ?_ (h.climate.trans (settle_climate (releasedPart s))) ?_ ?_
    (by rw [hf]; rfl) (by rw [hf]; rfl) (by rw [hf]; rfl)
  · exact (compute_request _).trans (settle_request (releasedPart s))
  · exact (compute_panel_display _).trans (settle_panel_display (releasedPart s))
  · exact (compute_panel_longPress _).trans (settle_panel_longPress (releasedPart s))

/-- In JOIN_LISTEN sharing starts afresh with its own period running (R79, R80, R89). -/
theorem rejoined_share (s : State) : (rejoined s).share = { LoadShare.reset with period := some s.straps.periodMs } := by
  have hshare : (freshStart s).share = LoadShare.reset := settle_share (releasedPart s)
  simp [rejoined, enterJoinListen, setMember, compute, grantOf, baseGrant, keepLearned, hshare, LoadShare.reset]

theorem rejoined_member (s : State) : (rejoined s).member = { Membership.reset with st := .joinListen } := by
  have hmember : (freshStart s).member = Membership.reset := settle_member (releasedPart s)
  rw [(rejoined_frame s).member]
  show { (freshStart s).member with st := MemberState.joinListen, periodCount := 0, refWant := 0, joinNonce := none } = _
  rw [hmember]; rfl

theorem rejoined_framer (s : State) :
    (rejoined s).framer = { Framer.reset with st := .listen, idleHold := some 12, lineFreed := some 100 } := by
  have hframer : (freshStart s).framer = Framer.reset := settle_framer (releasedPart s)
  rw [(rejoined_frame s).framer]
  show framerListens (freshStart s).framer = _
  rw [hframer]; rfl

/-- The history kept, with at most one record before it (R164, R169). -/
theorem FirstRecord.of_kept {b s : State} (h : FirstRecord b s) (hb : b.faults.history.length ≤ 4) :
    ∃ k, k ≤ 1 ∧ s.faults.history = (s.faults.history.take k ++ b.faults.history).take 4 := by
  rcases h with h | ⟨-, r, -, -, h⟩
  · exact ⟨0, by decide, by rw [h, List.take_zero, List.nil_append, List.take_of_length_le hb]⟩
  · exact ⟨1, by decide, by rw [h]; simp⟩

/-- Settles O5: without a window length the release is a power-on reset; with one, the part rejoins and takes its first readings. -/
theorem resetPinKeepsLearned : Obligations.ResetPinKeepsLearned := by
  intro p0 p1 p2 rh s
  refine ⟨fun hw => ?_, fun hw hlen => ?_⟩
  · have hrelease : releaseReset p0 p1 p2 rh s = powerOn p0 p1 p2 rh s := by unfold releaseReset; rw [hw]; rfl
    exact congrArg Host.Outcome.next hrelease
  have hrelease : releaseReset p0 p1 p2 rh s = firstReadings p0 p1 p2 rh (rejoined s) := by
    unfold releaseReset; exact if_pos hw
  have hexec : exec (.resetPinRelease p0 p1 p2 rh) s = .next (firstReadings p0 p1 p2 rh (rejoined s)) :=
    congrArg Host.Outcome.next hrelease
  have hframe := rejoined_frame s
  have hfaults := rejoined_faults s
  obtain ⟨h, hread⟩ := (waking_rejoined s).firstReadings (hframe.climate.trans (settle_climate (releasedPart s)))
    (fun j => by rw [hfaults]; rfl) p0 p1 p2 rh
  have hhanded : Handed (firstReadings p0 p1 p2 rh (rejoined s)) := by
    rw [← hrelease]
    exact ⟨settledStepUpkeep.releaseReset p0 p1 p2 rh s, requestStepUpkeep.releaseReset p0 p1 p2 rh s⟩
  have hstall : (firstReadings p0 p1 p2 rh (rejoined s)).faults.holds .fanStall = false := by
    obtain ⟨-, -, -, -, -, -, -, hholds⟩ := hread
    exact hholds .fanStall
  obtain ⟨hstraps, hlines, hreset, hnonce, hline, hpending⟩ := hframe.inputs.trans h.inputs
  obtain ⟨-, hlines0, -⟩ := hframe.inputs
  rw [show (rejoined s).lines = s.lines from hlines0.trans (settle_lines (releasedPart s))] at hread
  obtain ⟨hfan, -, -, -, hfanOff, hdraw, -⟩ := h.outputs hhanded hstall
  obtain ⟨hwant, -⟩ := h.request
  have hkept : FirstRecord (rejoined s) _ := h.record
  have hhistory : (rejoined s).faults.history = s.faults.history := by rw [hfaults]
  obtain ⟨k, hk, hrecord⟩ := hkept.of_kept (by rw [hhistory]; exact hlen)
  rw [hhistory] at hrecord
  exact ⟨_, hexec, h.cycle, hstraps, h.feeder.trans hframe.feeder, h.member.trans (rejoined_member s),
    h.table.trans (hframe.table.trans (settle_table (releasedPart s))), h.share.trans (rejoined_share s),
    h.framer.trans (rejoined_framer s), ⟨k, hk, hrecord⟩, hwant, hfan, hdraw, hfanOff, h.watch, hread, h.codeShown,
    hreset.trans (settle_inReset (releasedPart s)), hlines.trans (settle_lines (releasedPart s)),
    hline.trans (settle_line (releasedPart s)), hpending.trans (settle_pending (releasedPart s)),
    hnonce.trans (settle_nonceReads (releasedPart s))⟩

end Sys2Proof.Machine

namespace Sys2Proof.Machine

/-! PROOFS. What follows at the cycle leaves every reported fault held as it was, and so a report of any kind but WATER_EMPTY and
LOCK_FAULT stands (R26, R161, R163 to R166). -/

/-! ## What follows at the cycle, beside WATER_EMPTY and LOCK_FAULT -/

/-- The readings are kept, and so is every fault held but WATER_EMPTY, which a change of class can raise at the cycle, and
LOCK_FAULT, which it can withdraw there. -/
structure Follows (s t : State) : Prop extends Beside s t where
  reports : FaultsOrdered s.faults → ∀ j : FaultKind, j ≠ .waterEmpty → j ≠ .lockFault → t.faults.holds j = s.faults.holds j

theorem Follows.refl (s : State) : Follows s s := { Beside.refl s with reports := fun _ _ _ _ => rfl }

theorem Follows.trans {s t u : State} (h : Follows s t) (g : Follows t u) : Follows s u :=
  { h.toBeside.trans g.toBeside with
    reports := fun ho j hw hl => (g.reports (h.ordered ho) j hw hl).trans (h.reports ho j hw hl) }

/-- Where the lists of faults stand. -/
theorem follows_of_lists {s t : State} (hr : KeepsReadings s t) (ha : t.faults.active = s.faults.active)
    (hw : t.faults.waiting = s.faults.waiting) : Follows s t :=
  { beside_of_lists hr ha hw with reports := fun _ j _ _ => holds_of_lists ha hw j }

theorem follows_handOver (s : State) : Follows s (handOver s) :=
  follows_of_lists (keepsReadings_of_climate (handOver_climate s)) (by rw [handOver_faults]) (by rw [handOver_faults])

theorem follows_leaveTo (st : CycleState) (s : State) : Follows s (leaveTo st s) := by
  obtain ⟨ha, hw, -⟩ := leaveTo_faults_lists st s
  exact follows_of_lists (beside_leaveTo st s).readings ha hw

theorem follows_activate (s : State) : Follows s (activate s) := by
  obtain ⟨ha, hw⟩ := activate_faults s
  exact follows_of_lists (beside_activate s).readings ha hw

theorem follows_cycleOnClass (s : State) : Follows s (cycleOnClass s) := by
  obtain ⟨ha, hw, -⟩ := cycleOnClass_faults s
  exact follows_of_lists (beside_cycleOnClass s).readings ha hw

/-- A raise, once the lists have taken it. -/
theorem follows_raiseFault (k : FaultKind) (s : State) :
    Follows { s with faults := raiseInto k s.faults } (raiseFault k s) := by
  obtain ⟨ha, hw⟩ := raiseFault_faults k s
  exact follows_of_lists (beside_raiseFault k s).readings ha hw

theorem raiseInto_holds_of_ne {j k : FaultKind} (h : j ≠ k) (f : FaultUnit) : (raiseInto k f).holds j = f.holds j := by
  rw [Bool.eq_iff_iff, raiseInto_holds]
  exact or_iff_right h

theorem withdrawFrom_holds_of_ne {j k : FaultKind} (h : j ≠ k) {f : FaultUnit} (ho : FaultsOrdered f) :
    (withdrawFrom k f).holds j = f.holds j := by
  rw [Bool.eq_iff_iff, withdrawFrom_holds ho]
  exact and_iff_right h

theorem follows_checkWater (s : State) : Follows s (checkWater s) := by
  have raised : Follows s { s with faults := raiseInto .waterEmpty s.faults } :=
    { beside_raiseInto (by decide) s with reports := fun _ _ hw _ => raiseInto_holds_of_ne hw s.faults }
  unfold checkWater; split
  · exact raised.trans (follows_raiseFault .waterEmpty s)
  · exact .refl s

theorem follows_endPhase (s : State) : Follows s (endPhase s) := by
  unfold endPhase; split
  · next r _ =>
    have entered : Follows s (enteredPhase (s.cycle.index + 1) r s) := follows_of_lists (watchEntry_keepsReadings r s) rfl rfl
    exact entered.trans ((follows_handOver _).trans (follows_checkWater _))
  · exact ((follows_leaveTo .done s).trans (follows_handOver _)).trans (follows_of_lists (.refl _) rfl rfl)

theorem follows_checkDryPoint (s : State) : Follows s (checkDryPoint s) := by
  unfold checkDryPoint; split
  · exact follows_endPhase s
  · exact .refl s

theorem follows_returnToRunning (s : State) : Follows s (returnToRunning s) := by
  have run : Follows s (runOn s) := follows_of_lists (.refl s) rfl rfl
  exact run.trans ((follows_handOver _).trans ((follows_checkDryPoint _).trans (follows_checkWater _)))

/-- A withdraw, once the lists have taken it. -/
theorem follows_withdrawCore (k : FaultKind) (s : State) :
    Follows { s with faults := withdrawFrom k s.faults } (withdrawCore k s) := by
  unfold withdrawCore; dsimp only; split
  · exact follows_of_lists (beside_settle _).readings (by rw [settle_faults]) (by rw [settle_faults])
  · unfold cycleOnFall; split
    · exact (follows_activate _).trans (follows_returnToRunning _)
    · exact (follows_activate _).trans (follows_cycleOnClass _)

theorem follows_checkLock (s : State) : Follows s (checkLock s) := by
  have withdrawn : Follows s { s with faults := withdrawFrom .lockFault s.faults } :=
    { beside_withdrawFrom (by decide) s with reports := fun ho _ _ hl => withdrawFrom_holds_of_ne hl ho }
  unfold checkLock; split
  · exact withdrawn.trans (follows_withdrawCore .lockFault s)
  · exact .refl s

/-! ## A report -/

/-- A report taken, in any phase: the readings stand, the kind is held as reported, and the other reported kinds as they were. -/
structure ReportTaken (k : FaultKind) (b : Bool) (s t : State) : Prop where
  readings : KeepsReadings s t
  ordered : FaultsOrdered t.faults
  reported : t.faults.holds k = b
  others : ∀ j, j ≠ k → j ≠ .waterEmpty → j ≠ .lockFault → t.faults.holds j = s.faults.holds j

/-- What follows at the cycle undoes no report. -/
theorem ReportTaken.follows {k : FaultKind} {b : Bool} {s t u : State} (h : ReportTaken k b s t) (g : Follows t u)
    (hw : k ≠ .waterEmpty) (hl : k ≠ .lockFault) : ReportTaken k b s u where
  readings := h.readings.trans g.readings
  ordered := g.ordered h.ordered
  reported := (g.reports h.ordered k hw hl).trans h.reported
  others j hj jw jl := (g.reports h.ordered j jw jl).trans (h.others j hj jw jl)

theorem reportTaken_raiseInto (k : FaultKind) {s : State} (ho : FaultsOrdered s.faults) :
    ReportTaken k true s { s with faults := raiseInto k s.faults } where
  readings := .refl s
  ordered := raiseInto_ordered ho
  reported := (raiseInto_holds k k s.faults).2 (.inl rfl)
  others _ hj _ _ := raiseInto_holds_of_ne hj s.faults

theorem reportTaken_withdrawFrom (k : FaultKind) {s : State} (ho : FaultsOrdered s.faults) :
    ReportTaken k false s { s with faults := withdrawFrom k s.faults } where
  readings := .refl s
  ordered := withdrawFrom_ordered ho
  reported := by rw [← Bool.not_eq_true, withdrawFrom_holds ho]; exact fun h => h.1 rfl
  others _ hj _ _ := withdrawFrom_holds_of_ne hj ho

/-- A report of a kind that the cycle itself neither raises nor withdraws stands, whatever it does at the cycle (R163, R165, R166). -/
theorem reportTaken_reportFault {k : FaultKind} (hw : k ≠ .waterEmpty) (hl : k ≠ .lockFault) (b : Bool) {s : State}
    (ho : FaultsOrdered s.faults) : ReportTaken k b s (reportFault k b s) := by
  unfold reportFault; split
  · next hsame => exact ⟨.refl s, ho, hsame.symm, fun _ _ _ _ => rfl⟩
  · cases b with
    | true => exact (reportTaken_raiseInto k ho).follows ((follows_raiseFault k s).trans (follows_checkLock _)) hw hl
    | false => exact (reportTaken_withdrawFrom k ho).follows ((follows_withdrawCore k s).trans (follows_checkLock _)) hw hl

end Sys2Proof.Machine

namespace Sys2Proof.Machine

/-! PROOFS. A probe round in any phase: Tr, Tmax, the probe faults and the over-temperature latch (R45 to R49). -/

/-! ## The readings counted -/

/-- The readings of a round that are out of range are those that the others leave (R45). -/
theorem length_outOfRange (r0 r1 r2 : Int) :
    ([r0, r1, r2].filter fun r : Int => decide (r < -20) || decide (220 < r)).length = 3 - (roundReadings r0 r1 r2).length := by
  have hnot : (fun r : Int => decide (r < -20) || decide (220 < r)) =
      fun r : Int => !(decide (-20 ≤ r) && decide (r ≤ 220)) := by
    funext r
    rw [Bool.eq_iff_iff]
    simp only [Bool.or_eq_true, Bool.not_eq_true', Bool.and_eq_false_iff, decide_eq_true_eq, decide_eq_false_iff_not]
    omega
  have hall := List.length_eq_length_filter_add (l := [r0, r1, r2]) fun r : Int => decide (-20 ≤ r) && decide (r ≤ 220)
  have hthree : [r0, r1, r2].length = 3 := rfl
  rw [hnot]
  unfold roundReadings
  omega

theorem length_roundReadings_le (r0 r1 r2 : Int) : (roundReadings r0 r1 r2).length ≤ 3 := List.length_filter_le _ _

/-! ## The round -/

/-- The Cycle Controller's part of a round undoes no report (R23, R41). -/
theorem follows_climateUpdate (s : State) : Follows s (climateUpdate s) := by
  have moved : Follows s (regulated s) := follows_of_lists (.refl s) rfl rfl
  unfold climateUpdate; dsimp only
  refine moved.trans (Follows.trans ?_ ((follows_handOver _).trans (follows_checkLock _)))
  split
  · exact follows_leaveTo .idle (regulated s)
  · exact .refl (regulated s)

/-- The over-temperature latch as a round leaves it (R49). -/
def roundLatch (r0 r1 r2 : Int) (s : State) : Bool :=
  overTempNext s.climate.overTemp s.lines.trip (sampleProbes r0 r1 r2 s.climate).tmax

/-- What a round leaves of the readings, and of the faults it reports (R45 to R49). -/
structure RoundReported (r0 r1 r2 : Int) (s t : State) : Prop where
  readings : KeepsReadings (latched (roundLatch r0 r1 r2 s) (afterRound r0 r1 r2 s)) t
  degraded : t.faults.holds .probeDegraded = decide (1 ≤ t.climate.invalid)
  fault : t.faults.holds .probeFault = decide (2 ≤ t.climate.invalid)
  overTemp : t.faults.holds .overTemp = t.climate.overTemp

/-- The latch takes its own place among the readings; the others are as they were. -/
theorem KeepsReadings.latched {s t : State} (h : KeepsReadings s t) (b : Bool) :
    KeepsReadings (latched b s) (Machine.latched b t) := by
  unfold KeepsReadings at h ⊢
  obtain ⟨h0, h1, h2, hinv, htr, htmax, -, hrest⟩ := h
  exact ⟨h0, h1, h2, hinv, htr, htmax, rfl, hrest⟩

theorem roundReported_probeRound (r0 r1 r2 : Int) {s : State} (ho : FaultsOrdered s.faults) :
    RoundReported r0 r1 r2 s (probeRound r0 r1 r2 s) := by
  have hround := roundTaken_sampleProbes r0 r1 r2 s.climate
  have hunfold : probeRound r0 r1 r2 s = climateUpdate (evalOverTemp (reportFault .probeFault
      (decide (2 ≤ (sampleProbes r0 r1 r2 s.climate).invalid)) (reportFault .probeDegraded
        (decide (1 ≤ (sampleProbes r0 r1 r2 s.climate).invalid)) (afterRound r0 r1 r2 s)))) := rfl
  rw [hunfold]
  have h1 := reportTaken_reportFault (k := .probeDegraded) (by decide) (by decide)
    (decide (1 ≤ (sampleProbes r0 r1 r2 s.climate).invalid)) (s := afterRound r0 r1 r2 s) ho
  have hframe1 := reportFault_cabinetFrame .probeDegraded (decide (1 ≤ (sampleProbes r0 r1 r2 s.climate).invalid))
    (afterRound r0 r1 r2 s)
  generalize reportFault .probeDegraded _ (afterRound r0 r1 r2 s) = u at *
  have h2 := reportTaken_reportFault (k := .probeFault) (by decide) (by decide)
    (decide (2 ≤ (sampleProbes r0 r1 r2 s.climate).invalid)) h1.ordered
  have hframe2 := hframe1.trans
    (reportFault_cabinetFrame .probeFault (decide (2 ≤ (sampleProbes r0 r1 r2 s.climate).invalid)) u)
  generalize reportFault .probeFault _ u = v at *
  have hread := h1.readings.trans h2.readings
  have heval : evalOverTemp v = reportFault .overTemp (roundLatch r0 r1 r2 s) (latched (roundLatch r0 r1 r2 s) v) := by
    obtain ⟨-, -, -, -, -, htmax, hover, -⟩ := hread
    have hnext : overTempNext v.climate.overTemp v.lines.trip v.climate.tmax = roundLatch r0 r1 r2 s := by
      rw [htmax, hover, hframe2.lines]
      show overTempNext (sampleProbes r0 r1 r2 s.climate).overTemp _ _ = _
      rw [hround.rest.1]; rfl
    unfold evalOverTemp; rw [hnext]; rfl
  have h3 := (reportTaken_reportFault (k := .overTemp) (by decide) (by decide) (roundLatch r0 r1 r2 s)
    (s := latched (roundLatch r0 r1 r2 s) v) h2.ordered).follows (follows_climateUpdate _) (by decide) (by decide)
  rw [heval]
  have hkept := (hread.latched (roundLatch r0 r1 r2 s)).trans h3.readings
  obtain ⟨-, -, -, hinv, -, -, hover, -⟩ := id hkept
  refine ⟨hkept, ?_, ?_, h3.reported.trans hover.symm⟩
  · rw [hinv, h3.others _ (by decide) (by decide) (by decide)]
    exact (h2.others _ (by decide) (by decide) (by decide)).trans h1.reported
  · rw [hinv, h3.others _ (by decide) (by decide) (by decide)]
    exact h2.reported

theorem probeRound_cabinetFrame (r0 r1 r2 : Int) (s : State) : CabinetFrame s (probeRound r0 r1 r2 s) :=
  CabinetFrame.trans (t := afterRound r0 r1 r2 s) ⟨.refl s, rfl, rfl, rfl, .refl s, .refl s, rfl, rfl, rfl⟩
    ((reportFault_cabinetFrame _ _ _).trans ((reportFault_cabinetFrame _ _ _).trans
      ((evalOverTemp_cabinetFrame _).trans (climateUpdate_cabinetFrame _))))

/-- Settles O25: the readings stand through the reports of the round, and each report through what follows it at the cycle. -/
theorem probeRoundFormsTemperatures : Obligations.ProbeRoundFormsTemperatures := by
  intro p0 p1 p2 s hl ho _
  have hexec : exec (.probeRound p0 p1 p2) s = .next (probeRound p0 p1 p2 s) := live_of_live hl _
  have hround := roundTaken_sampleProbes p0 p1 p2 s.climate
  obtain ⟨⟨-, -, -, hinv, htr, htmax, hover, hring, -⟩, hdegraded, hfault, hheld⟩ := roundReported_probeRound p0 p1 p2 ho
  have hframe := probeRound_cabinetFrame p0 p1 p2 s
  have hinvalid : (probeRound p0 p1 p2 s).climate.invalid = 3 - (roundReadings p0 p1 p2).length := hinv.trans hround.invalid
  have hle := length_roundReadings_le p0 p1 p2
  refine ⟨_, hexec, hinvalid.trans (length_outOfRange p0 p1 p2).symm, fun hfew => ?_, fun hthree => ?_, hdegraded, hfault, ?_,
    hheld, hring.trans hround.rest.2.1, hframe⟩
  · have hne : roundReadings p0 p1 p2 ≠ [] := by intro h; rw [hinvalid, h] at hfew; exact absurd hfew (by decide)
    have hcount : 3 - ((probeRound p0 p1 p2 s).climate.invalid : Int) = (roundReadings p0 p1 p2).length := by omega
    rw [hcount, htmax]
    exact ⟨htr.trans (hround.mean hne), hround.highest hne⟩
  · have hnil : roundReadings p0 p1 p2 = [] := List.eq_nil_of_length_eq_zero (by omega)
    obtain ⟨hr, hm⟩ := hround.none_valid hnil
    exact ⟨htr.trans hr, htmax.trans hm⟩
  · rw [hover, htmax]; rfl

end Sys2Proof.Machine

namespace Sys2Proof.Machine

/-! PROOFS. A humidity reading in any phase: the ring, its validity and HUMIDITY_FAULT (R51, R52). -/

/-! ## The dry watch under a class C report -/

/-- A raise of class C beside an active fault waits behind it (R165). -/
theorem raiseInto_active_of_classC {k : FaultKind} (hk : k.cls = .c) {f : FaultUnit} (h : f.active ≠ none) :
    (raiseInto k f).active = f.active := by
  unfold raiseInto; split
  · rfl
  · split
    · next hnone => exact absurd hnone h
    · next x hx =>
      have hx2 := rank_le_two x
      have hk2 := (rank_two_iff k).2 hk
      rw [if_neg (by omega)]

theorem active_of_holds {f : FaultUnit} (ho : FaultsOrdered f) {k : FaultKind} (h : f.holds k = true) : f.active ≠ none := by
  obtain ⟨-, -, hact⟩ := ho
  intro hnone
  rw [hnone] at hact
  rcases (holds_iff f k).1 h with ha | hw
  · rw [hnone] at ha; cases ha
  · rw [hact] at hw; cases hw

/-- A raise of class C, with the lock watched, leaves the lock as it is: with LOCK_FAULT held the raise only waits, so that no request
is handed over and the sense still differs from the command (R161, R165). -/
theorem checkLock_raiseFault_of_classC {k : FaultKind} (hk : k.cls = .c) {s : State} (hl : Live s)
    (ho : FaultsOrdered s.faults) (hw : LockWatched s) : checkLock (raiseFault k s) = raiseFault k s := by
  have hne : FaultKind.lockFault ≠ k := by rintro rfl; cases hk
  obtain ⟨ha, hwait⟩ := raiseFault_faults k s
  have hlock : (raiseFault k s).faults.holds .lockFault = s.faults.holds .lockFault :=
    (holds_of_lists ha hwait _).trans (raiseInto_holds_of_ne hne s.faults)
  cases hheld : s.faults.holds .lockFault with
  | false => exact checkLock_of_not_held (hlock.trans hheld)
  | true =>
    have hsettle : raiseFault k s = settle { s with faults := raiseInto k s.faults } := by
      unfold raiseFault; dsimp only
      rw [if_pos (raiseInto_active_of_classC hk (active_of_holds ho hheld))]
    refine checkLock_of_watched hl hw ?_ ?_ fun _ => hheld
    · rw [hsettle, settle_loads_lock]; exact (hw hl).1.symm
    · rw [hsettle, settle_lines]

/-- A class C condition reported, with the lock watched, leaves the whole Climate Measurement Unit as it is. -/
theorem reportFault_climate_of_classC {k : FaultKind} (hk : k.cls = .c) {s : State} (hl : Live s)
    (ho : FaultsOrdered s.faults) (hw : LockWatched s) : (reportFault k true s).climate = s.climate := by
  unfold reportFault; split
  · rfl
  · rw [if_pos rfl, checkLock_raiseFault_of_classC hk hl ho hw]
    exact (raiseFault_stands hk).2

/-! ## The reading -/

/-- The state with an invalid reading taken: the ring is empty (R52). -/
def emptiedRing (s : State) : State :=
  { s with climate := { s.climate with humidityValid := false, ring := [], sampleTimer := some humiditySampleMs } }

theorem humidityReading_of_invalid {rh : Int} (h : ¬(0 ≤ rh ∧ rh ≤ 200)) (s : State) :
    humidityReading rh s = reportFault .humidityFault true (emptiedRing s) := by
  have hnone : humiditySampleOf rh = none := if_neg h
  unfold humidityReading; rw [hnone]; rfl

theorem humidityReading_of_valid {rh : Int} (h : 0 ≤ rh ∧ rh ≤ 200) (s : State) :
    humidityReading rh s = checkLock (checkDryPoint (reportFault .humidityFault false (sampledWatch rh.toNat s))) := by
  have hsome : humiditySampleOf rh = some rh.toNat := if_pos h
  unfold humidityReading; rw [hsome]; rfl

/-- The dry watch's part in a sample touches no reading (R54, R55). -/
theorem watchSample_keepsReadings (v : Nat) (c : Climate) (s : State) :
    KeepsReadings { s with climate := c } { s with climate := watchSample v c } := by
  unfold watchSample KeepsReadings
  cases c.watch with
  | testing => dsimp only; split <;> simp
  | _ => simp

theorem humidityReading_cabinetFrame (rh : Int) (s : State) : CabinetFrame s (humidityReading rh s) := by
  by_cases hrange : 0 ≤ rh ∧ rh ≤ 200
  · rw [humidityReading_of_valid hrange]
    exact (sampledWatch_cabinetFrame _ s).trans ((reportFault_cabinetFrame _ _ _).trans
      ((checkDryPoint_cabinetFrame _).trans (checkLock_cabinetFrame _)))
  · rw [humidityReading_of_invalid hrange]
    exact CabinetFrame.trans (t := emptiedRing s) ⟨.refl s, rfl, rfl, rfl, .refl s, .refl s, rfl, rfl, rfl⟩
      (reportFault_cabinetFrame _ _ _)

/-- A sample with HUMIDITY_FAULT withdrawn stands in the ring through what it brings about at the cycle (R51, R27). -/
theorem reportTaken_of_valid {rh : Int} (h : 0 ≤ rh ∧ rh ≤ 200) {s : State} (ho : FaultsOrdered s.faults) :
    ReportTaken .humidityFault false (sampledWatch rh.toNat s) (humidityReading rh s) := by
  rw [humidityReading_of_valid h]
  exact (reportTaken_reportFault (by decide) (by decide) false (s := sampledWatch rh.toNat s) ho).follows
    ((follows_checkDryPoint _).trans (follows_checkLock _)) (by decide) (by decide)

theorem reportTaken_of_invalid {rh : Int} (h : ¬(0 ≤ rh ∧ rh ≤ 200)) {s : State} (ho : FaultsOrdered s.faults) :
    ReportTaken .humidityFault true (emptiedRing s) (humidityReading rh s) := by
  rw [humidityReading_of_invalid h]
  exact reportTaken_reportFault (by decide) (by decide) true (s := emptiedRing s) ho

theorem pushRing_eq (ring : List Nat) (v : Nat) :
    pushRing ring v = (if 61 ≤ ring.length then ring.drop 1 else ring) ++ [v] := by
  unfold pushRing ringLength; split <;> rfl

/-- Settles O27: the reading stands through its report, and the report through what follows at the cycle. -/
theorem humidityReadingFeedsRing : Obligations.HumidityReadingFeedsRing := by
  intro rh s hl ho
  have hexec : exec (.humiditySample rh) s = .next (humidityReading rh s) := live_of_live hl _
  have hframe := humidityReading_cabinetFrame rh s
  by_cases hrange : 0 ≤ rh ∧ rh ≤ 200
  · have h := reportTaken_of_valid hrange ho
    obtain ⟨-, -, -, -, htr, htmax, hover, hring, hvalid, -⟩ :=
      (watchSample_keepsReadings rh.toNat _ s).trans (t := sampledWatch rh.toNat s) h.readings
    exact ⟨_, hexec, fun _ => ⟨hvalid, h.reported, hring.trans (pushRing_eq _ _)⟩, fun hout => absurd hrange hout, htr, htmax,
      hover, hframe⟩
  · have h := reportTaken_of_invalid hrange ho
    obtain ⟨-, -, -, -, htr, htmax, hover, hring, hvalid, -⟩ := h.readings
    refine ⟨_, hexec, fun hin => absurd hin hrange, fun _ => ⟨hvalid, h.reported, hring, fun hw => ?_⟩, htr, htmax, hover, hframe⟩
    have hclim : (humidityReading rh s).climate = (emptiedRing s).climate := by
      rw [humidityReading_of_invalid hrange]
      exact reportFault_climate_of_classC rfl (s := emptiedRing s) hl ho hw
    rw [hclim]
    exact ⟨rfl, rfl, rfl⟩

end Sys2Proof.Machine

namespace Sys2Proof.Machine

/-! PROOFS. Ranges: the one invariant behind them, by unit, and what each unit must meet when an operation writes it (R22, R47, R51,
R61 to R63, R69, R98, R134, R144, R164, R169). -/

/-! ## The invariant, by unit -/

/-- What every operation keeps: all counts and stores in range and the Peer Table formed, with what these rest on, the order of the
faults, a phase record of the ROM and requests in range. -/
def Ranged (s : State) : Prop :=
  CountsInRange s ∧ TableFormed s ∧ FaultsOrdered s.faults ∧ RecordFromRom s ∧ RequestInRange s.request

/-- The counts of a cycle and of its pause context are in range (section 2.1). -/
def CycleCounts (c : Cycle) : Prop :=
  c.index ≤ 3 ∧ c.remaining ≤ 5400 ∧ c.starvedSecs ≤ 59 ∧ c.boost ≤ 7 ∧
    ∀ x, c.context = some x → x.index ≤ 3 ∧ x.remaining ≤ 5400 ∧ x.boost ≤ 7 ∧ ∀ p, x.peak = some p → p ≤ 200

/-- The counts of a Membership Controller and the notice in its slot are in range (section 6.2). -/
def MemberCounts (m : Membership) : Prop :=
  m.periodCount ≤ 2 ∧ (m.st = .joinListen ∨ m.st = .joinHold → m.periodCount ≤ 1) ∧ m.presence ≤ 7 ∧ m.refWant ≤ 48 ∧
    m.lastClaim ≤ 48 ∧ ∀ n, m.slot = some n → NoticeInRange n

/-- The failure count of a framer and the notice it sends are in range (section 7.2). -/
def FramerCounts (f : Framer) : Prop := f.failures ≤ 8 ∧ ∀ x, f.sending = some x → NoticeInRange x.notice

section
variable {s : State}

theorem Ranged.cycle (h : Ranged s) : CycleCounts s.cycle := by
  obtain ⟨⟨⟨hindex, hremaining, hsecs, hboost, hcontext, -⟩, -⟩, -⟩ := h
  exact ⟨hindex, hremaining, hsecs, hboost, hcontext⟩

theorem Ranged.climate (h : Ranged s) : ClimateInRange s.climate := by
  obtain ⟨⟨-, hclimate, -⟩, -⟩ := h
  exact hclimate

theorem Ranged.share (h : Ranged s) : ShareInRange s.share := by
  obtain ⟨⟨-, -, hshare, -⟩, -⟩ := h
  exact hshare

theorem Ranged.member (h : Ranged s) : MemberCounts s.member := by
  obtain ⟨⟨-, -, -, ⟨hperiods, hjoining, hpresence, href, hclaim, hslot, -⟩, -⟩, -⟩ := h
  exact ⟨hperiods, hjoining, hpresence, href, hclaim, hslot⟩

theorem Ranged.framer (h : Ranged s) : FramerCounts s.framer := by
  obtain ⟨⟨-, -, -, ⟨-, -, -, -, -, -, hsending⟩, hfailures, -⟩, -⟩ := h
  exact ⟨hfailures, hsending⟩

theorem Ranged.feeder (h : Ranged s) : FeederInRange s.feeder := by
  obtain ⟨⟨-, -, -, -, -, hfeeder, -⟩, -⟩ := h
  exact hfeeder

theorem Ranged.faults (h : Ranged s) : FaultsInRange s := by
  obtain ⟨⟨-, -, -, -, -, -, hfaults⟩, -⟩ := h
  exact hfaults

theorem Ranged.counts (h : Ranged s) : CountsInRange s := by
  obtain ⟨hcounts, -⟩ := h
  exact hcounts

theorem Ranged.table (h : Ranged s) : TableFormed s := by
  obtain ⟨-, htable, -⟩ := h
  exact htable

theorem Ranged.ordered (h : Ranged s) : FaultsOrdered s.faults := by
  obtain ⟨-, -, hordered, -⟩ := h
  exact hordered

theorem Ranged.fromRom (h : Ranged s) : RecordFromRom s := by
  obtain ⟨-, -, -, hrom, -⟩ := h
  exact hrom

theorem Ranged.request (h : Ranged s) : RequestInRange s.request := by
  obtain ⟨-, -, -, -, hrequest⟩ := h
  exact hrequest

theorem Ranged.handed (h : Ranged s) : s.request.cls ≤ 3 ∧ s.request.boost ≤ 7 := by
  obtain ⟨⟨⟨-, -, -, -, -, hcls, hboost⟩, -⟩, -⟩ := h
  exact ⟨hcls, hboost⟩

/-- The parts make the invariant. -/
theorem ranged_of_parts (hcycle : CycleCounts s.cycle) (hhanded : s.request.cls ≤ 3 ∧ s.request.boost ≤ 7)
    (hclimate : ClimateInRange s.climate) (hshare : ShareInRange s.share) (hmember : MemberCounts s.member)
    (hframer : FramerCounts s.framer) (hfeeder : FeederInRange s.feeder) (hfaults : FaultsInRange s) (htable : TableFormed s)
    (hordered : FaultsOrdered s.faults) (hrom : RecordFromRom s) (hrequest : RequestInRange s.request) : Ranged s := by
  obtain ⟨hindex, hremaining, hsecs, hboost, hcontext⟩ := hcycle
  obtain ⟨hperiods, hjoining, hpresence, href, hclaim, hslot⟩ := hmember
  obtain ⟨hfailures, hsending⟩ := hframer
  exact ⟨⟨⟨hindex, hremaining, hsecs, hboost, hcontext, hhanded⟩, hclimate, hshare,
    ⟨hperiods, hjoining, hpresence, href, hclaim, hslot, hsending⟩, hfailures, hfeeder, hfaults⟩, htable, hordered, hrom, hrequest⟩

/-! ## A unit written -/

theorem Ranged.withCycle (h : Ranged s) {c : Cycle} (hc : CycleCounts c)
    (hrom : c.record = none ∨ c.record = readRom c.programme c.index) : Ranged { s with cycle := c } :=
  ranged_of_parts hc h.handed h.climate h.share h.member h.framer h.feeder h.faults h.table h.ordered hrom h.request

theorem Ranged.withClimate (h : Ranged s) {c : Climate} (hc : ClimateInRange c) : Ranged { s with climate := c } :=
  ranged_of_parts h.cycle h.handed hc h.share h.member h.framer h.feeder h.faults h.table h.ordered h.fromRom h.request

theorem Ranged.withShare (h : Ranged s) {l : LoadShare} (hl : ShareInRange l) : Ranged { s with share := l } :=
  ranged_of_parts h.cycle h.handed h.climate hl h.member h.framer h.feeder h.faults h.table h.ordered h.fromRom h.request

theorem Ranged.withMember (h : Ranged s) {m : Membership} (hm : MemberCounts m) : Ranged { s with member := m } :=
  ranged_of_parts h.cycle h.handed h.climate h.share hm h.framer h.feeder h.faults h.table h.ordered h.fromRom h.request

theorem Ranged.withFramer (h : Ranged s) {f : Framer} (hf : FramerCounts f) : Ranged { s with framer := f } :=
  ranged_of_parts h.cycle h.handed h.climate h.share h.member hf h.feeder h.faults h.table h.ordered h.fromRom h.request

theorem Ranged.withFeeder (h : Ranged s) {f : Feeder} (hf : FeederInRange f) : Ranged { s with feeder := f } :=
  ranged_of_parts h.cycle h.handed h.climate h.share h.member h.framer hf h.faults h.table h.ordered h.fromRom h.request

theorem Ranged.withTable (h : Ranged s) {t : List Entry} (ht : TableFormed { s with table := t }) :
    Ranged { s with table := t } :=
  ranged_of_parts h.cycle h.handed h.climate h.share h.member h.framer h.feeder h.faults ht h.ordered h.fromRom h.request

/-- The requests formed from a phase in range are in range (R22, R24, R25). -/
theorem Ranged.formed (h : Ranged s) : Ranged { s with request := formRequest s } := by
  obtain ⟨-, -, -, hboost, -⟩ := h.cycle
  have hcls : classOf s.cycle ≤ 3 := by
    have table : ∀ k : PhaseKind, k.cls ≤ 3 := by rintro (_ | _ | _ | _ | _) <;> decide
    unfold classOf; split
    · cases s.cycle.record with
      | none => exact Nat.zero_le _
      | some r => exact table r.kind
    · exact Nat.zero_le _
  exact ranged_of_parts h.cycle ⟨hcls, hboost⟩ h.climate h.share h.member h.framer h.feeder h.faults h.table h.ordered h.fromRom
    (formRequest_inRange h.fromRom)

/-- The eleven kinds (R163). -/
def faultKinds : List FaultKind :=
  [.overTemp, .probeFault, .mainsLost, .addressConflict, .waterEmpty, .fanStall, .lockFault, .lineIsolated, .bankOverflow,
    .probeDegraded, .humidityFault]

/-- Each kind is held once, so that ten at most wait behind an active one (R163, R165). -/
theorem waiting_length_le {f : FaultUnit} (h : FaultsOrdered f) : f.waiting.length ≤ 10 := by
  obtain ⟨hnodup, -, hactive⟩ := h
  cases ha : f.active with
  | none => rw [ha] at hactive; simp [hactive]
  | some x =>
    rw [ha] at hactive
    have hall : x :: f.waiting ⊆ faultKinds := fun k _ => by cases k <;> decide
    have hle := (List.Nodup.subperm (List.nodup_cons.2 ⟨hactive.1, hnodup⟩) hall).length_le
    simp only [List.length_cons] at hle
    exact Nat.le_of_succ_le_succ hle

/-- A change of the faults held alone: history, code lines and display stay. -/
theorem Ranged.withFaults (h : Ranged s) {f : FaultUnit} (hf : FaultsOrdered f) (hhistory : f.history = s.faults.history)
    (hcode : f.code = s.faults.code) : Ranged { s with faults := f } := by
  obtain ⟨-, hlength, hrecords, hdisplay, hlines⟩ := h.faults
  refine ranged_of_parts h.cycle h.handed h.climate h.share h.member h.framer h.feeder ?_ h.table hf h.fromRom h.request
  exact ⟨waiting_length_le hf, hhistory ▸ hlength, hhistory ▸ hrecords, hdisplay, hcode ▸ hlines⟩

end

/-! ## What the units rest on -/

/-- The minutes and the drop of a record of the ROM, and its index (R13). -/
theorem readRom_ranges {p : Fin 8} {i : Nat} {r : Record} (h : readRom p i = some r) :
    i ≤ 3 ∧ 60 * r.minutes ≤ 5400 ∧ ∀ d, r.drop = some d → 16 ≤ d ∧ d ≤ 30 := by
  have phases : ∀ p : Fin 8, (programme p.val).length ≤ 4 := by decide
  have figures : ∀ p : Fin 8, ∀ r ∈ programme p.val, 60 * r.minutes ≤ 5400 ∧ ∀ d ∈ r.drop, 16 ≤ d ∧ d ≤ 30 := by decide
  have hlast : i < (programme p.val).length := (List.getElem?_eq_some_iff.1 h).1
  have := phases p
  obtain ⟨hminutes, hdrop⟩ := figures p r (mem_programme_of_readRom h)
  exact ⟨by omega, hminutes, hdrop⟩

theorem activeCode_le (f : FaultUnit) : f.activeCode ≤ 11 := by
  have table : ∀ k : FaultKind, k.code ≤ 11 := by intro k; cases k <;> decide
  unfold FaultUnit.activeCode
  cases f.active with
  | none => exact Nat.zero_le _
  | some k => exact table k

theorem raiseInto_code (k : FaultKind) (f : FaultUnit) : (raiseInto k f).code = f.code := by
  unfold raiseInto; split
  · rfl
  · split
    · rfl
    · split <;> rfl

theorem withdrawFrom_code (k : FaultKind) (f : FaultUnit) : (withdrawFrom k f).code = f.code := by
  unfold withdrawFrom; split
  · split <;> rfl
  · rfl

/-- The grant is within the ceiling while the want is (R88, R89). -/
theorem Ranged.grantOf_le {s : State} (h : Ranged s) : grantOf s ≤ 48 := by
  obtain ⟨-, -, hwant⟩ := h.request
  exact (grantOf_le_want s).trans (hwant.trans (by decide))

theorem settle_starvedSecs_le (s : State) : (settle s).cycle.starvedSecs ≤ s.cycle.starvedSecs := by
  simp only [settle, formStarved, formLamps_cycle, formLevels_cycle, formLock_cycle, formFan_cycle]
  split
  · exact le_rfl
  · exact Nat.zero_le _

/-- Whatever the allowance, no more than it is drawn (R150, R151). -/
theorem settle_draw_le (s : State) : (settle s).loads.draw ≤ s.share.allowance := by
  obtain ⟨hsteam, hheater, -, -, -, -, hsteamLevel, hheaterLevel⟩ := loadsDivided_settle s
  rw [settle_share, settle_request] at hsteam hheater
  have hs : (settle s).loads.steamLevel ≤ (settle s).loads.steamAssigned := by rw [hsteamLevel]; split <;> omega
  have hh : (settle s).loads.heaterLevel ≤ (settle s).loads.heaterAssigned := by rw [hheaterLevel]; split <;> omega
  have hassigned : (settle s).loads.steamAssigned ≤ s.share.allowance := by rw [hsteam]; split <;> omega
  rw [settle_draw]
  omega

end Sys2Proof.Machine

namespace Sys2Proof.Machine

/-! PROOFS. Ranges: what the shared operations of the share computation, the notice slot, the cycle and the Fault Unit keep. -/

section
variable {s : State}

/-! ## Forming the outputs and the notice slot -/

theorem settle_ranged (h : Ranged s) : Ranged (settle s) := by
  obtain ⟨hindex, hremaining, hsecs, hboost, hcontext⟩ := h.cycle
  have hstarved := (settle_starvedSecs_le s).trans hsecs
  refine ranged_of_parts ⟨?_, ?_, hstarved, ?_, ?_⟩ ?_ ?_ ?_ ?_ ?_ ?_ ?_ ?_ ?_ ?_ ?_
  · simpa using hindex
  · simpa using hremaining
  · simpa using hboost
  · simpa using hcontext
  · simpa using h.handed
  · simpa using h.climate
  · simpa using h.share
  · simpa using h.member
  · simpa using h.framer
  · simpa using h.feeder
  · simpa [FaultsInRange] using h.faults
  · simpa [TableFormed] using h.table
  · simpa using h.ordered
  · simpa [RecordFromRom] using h.fromRom
  · simpa using h.request

theorem compute_ranged (h : Ranged s) : Ranged (compute s) := by
  obtain ⟨-, hallowance, hraise, hhold, hlimit⟩ := h.share
  have hgrant := h.grantOf_le
  refine settle_ranged (h.withShare ⟨hgrant, ?_, hraise, hhold, hlimit⟩)
  dsimp only; split
  · exact (Nat.min_le_left _ _).trans hallowance
  · exact hgrant

theorem beginSending_ranged (h : Ranged s) : Ranged (beginSending s) := by
  obtain ⟨-, -, -, -, -, hslot⟩ := h.member
  obtain ⟨hfailures, -⟩ := h.framer
  unfold beginSending; split
  · exact h
  · next n hn =>
    refine (h.withMember (m := { s.member with inFlight := true }) h.member).withFramer ⟨hfailures, fun x hx => ?_⟩
    obtain rfl := Option.some.inj hx
    exact hslot n hn

theorem handFramer_ranged (h : Ranged s) : Ranged (handFramer s) := by
  unfold handFramer; split
  · split
    · exact beginSending_ranged h
    · exact h
  · exact h

/-- A frame given up or come to an end leaves no notice being sent. -/
theorem FramerCounts.noFrame {f g : Framer} (h : FramerCounts f) (hfailures : g.failures = f.failures) (hsending : g.sending = none) :
    FramerCounts g := by
  obtain ⟨hle, -⟩ := h
  exact ⟨hfailures ▸ hle, fun x hx => by rw [hsending] at hx; cases hx⟩

theorem framerRest_ranged (h : Ranged s) : Ranged (framerRest s) := by
  unfold framerRest; split
  · exact h.withFramer (h.framer.noFrame rfl rfl)
  · exact h

/-- A notice formed right after a computation is in range: its draw is that of outputs formed anew (R105, R127). -/
theorem formNotice_inRange (k : NoticeKind) (h : Ranged s) : NoticeInRange (formNotice k (compute s)) := by
  have hcomputed := compute_ranged h
  obtain ⟨hgrant, hallowance, -⟩ := hcomputed.share
  obtain ⟨hcls, hboost⟩ := hcomputed.handed
  obtain ⟨-, -, hwant⟩ := hcomputed.request
  cases k with
  | demand =>
    have hdraw : (compute s).loads.draw ≤ (compute s).share.allowance := by
      refine (settle_draw_le _).trans (le_of_eq ?_)
      simp
    exact ⟨hcls, hboost, hwant.trans (by decide), hgrant, hdraw.trans hallowance⟩
  | joinConfirm => exact hallowance
  | _ => trivial

theorem fillSlot_ranged (k : NoticeKind) (h : Ranged s) : Ranged (fillSlot k s) := by
  obtain ⟨hgrant, hallowance, -, hhold, hlimit⟩ := h.share
  have hcancelled : Ranged { s with share := { s.share with raiseReady := none } } :=
    h.withShare ⟨hgrant, hallowance, fun r hr => (nomatch hr), hhold, hlimit⟩
  have hcomputed := compute_ranged hcancelled
  obtain ⟨hperiods, hjoining, hpresence, href, hclaim, -⟩ := hcomputed.member
  obtain ⟨-, -, hwant⟩ := hcomputed.request
  refine handFramer_ranged (hcomputed.withMember ⟨hperiods, hjoining, hpresence, ?_, hclaim, fun n hn => ?_⟩)
  · dsimp only; split
    · exact hwant.trans (by decide)
    · exact href
  · cases hn; exact formNotice_inRange k hcancelled

theorem noteLoad_counts (k kept : NoticeKind) {m : Membership} (h : MemberCounts m) : MemberCounts (noteLoad k kept m) := by
  obtain ⟨hperiods, hjoining, hpresence, href, hclaim, hslot⟩ := h
  unfold noteLoad; split
  · exact ⟨hperiods, hjoining, le_rfl, href, hclaim, hslot⟩
  · split
    · exact ⟨hperiods, hjoining, hpresence, Nat.zero_le _, hclaim, hslot⟩
    · exact ⟨hperiods, hjoining, hpresence, href, hclaim, hslot⟩
  all_goals exact ⟨hperiods, hjoining, hpresence, href, hclaim, hslot⟩

theorem loadNotice_ranged (k : NoticeKind) (h : Ranged s) : Ranged (loadNotice k s) := by
  unfold loadNotice; split
  · exact h
  · exact fillSlot_ranged _ (h.withMember (noteLoad_counts _ _ h.member))

theorem refreshSlot_ranged (h : Ranged s) : Ranged (refreshSlot s) := by
  unfold refreshSlot; split
  · exact h
  · exact fillSlot_ranged _ h

theorem endAttempt_ranged (h : Ranged s) : Ranged (endAttempt s) := by
  have hended : Ranged { s with member := { s.member with inFlight := false, heldOver := none } } := h
  unfold endAttempt; dsimp only; split
  · exact loadNotice_ranged _ hended
  · exact refreshSlot_ranged hended

theorem startHold_ranged (originated : Bool) (h : Ranged s) : Ranged (startHold originated s) := by
  obtain ⟨hgrant, hallowance, hraise, -, hlimit⟩ := h.share
  unfold startHold; split
  · exact h
  · exact compute_ranged (h.withShare ⟨hgrant, (Nat.min_le_left _ _).trans hallowance, hraise, le_rfl, hlimit⟩)

theorem clearLineFree_ranged (h : Ranged s) : Ranged (clearLineFree s) := by
  unfold clearLineFree; split <;> exact h

theorem MemberCounts.emptied {m : Membership} (h : MemberCounts m) (inFlight : Bool) (heldOver : Option NoticeKind) :
    MemberCounts { m with slot := none, inFlight, heldOver } := by
  obtain ⟨hperiods, hjoining, hpresence, href, hclaim, -⟩ := h
  exact ⟨hperiods, hjoining, hpresence, href, hclaim, fun n hn => (nomatch hn)⟩

theorem emptySlot_ranged (h : Ranged s) : Ranged (emptySlot s) := by
  refine (h.withMember (h.member.emptied false none)).withFramer ?_
  dsimp only; split
  · exact h.framer.noFrame rfl rfl
  · exact h.framer

/-! ## Handing over, and the cycle -/

theorem handOver_ranged (h : Ranged s) : Ranged (handOver s) := by
  unfold handOver wantRise; dsimp only; split
  · exact settle_ranged h.formed
  · split
    · exact loadNotice_ranged _ (compute_ranged h.formed)
    · exact compute_ranged h.formed

/-- A watch put away or begun anew keeps the readings in range; its drop and peak must be. -/
theorem ClimateInRange.watched {c d : Climate} (h : ClimateInRange c)
    (hd : d = { c with ring := d.ring, watch := d.watch, drop := d.drop, peak := d.peak, warmUp := d.warmUp,
                       tracking := d.tracking, dryPoint := d.dryPoint })
    (hring : d.ring = c.ring ∨ d.ring = []) (hdrop : ∀ v, d.drop = some v → 16 ≤ v ∧ v ≤ 30) (hpeak : d.peak ≤ 200) :
    ClimateInRange d := by
  obtain ⟨hprobes, hinvalid, htr, htmax, hlength, hsamples, -⟩ := h
  have hr : d.ring.length ≤ 61 ∧ ∀ v ∈ d.ring, v ≤ 200 := by
    rcases hring with e | e <;> rw [e]
    · exact ⟨hlength, hsamples⟩
    · exact ⟨Nat.zero_le _, fun v hv => (nomatch hv)⟩
  rw [hd] at hr ⊢
  exact ⟨hprobes, hinvalid, htr, htmax, hr.1, hr.2, hdrop, hpeak⟩

theorem watchOff_inRange {c : Climate} (h : ClimateInRange c) : ClimateInRange (watchOff c) :=
  h.watched rfl (.inl rfl) (fun _ hv => (nomatch hv)) (Nat.zero_le _)

theorem watchEntry_inRange {p : Fin 8} {i : Nat} {r : Record} (hr : readRom p i = some r) {c : Climate} (h : ClimateInRange c) :
    ClimateInRange (watchEntry r c) := by
  obtain ⟨-, -, hdrop⟩ := readRom_ranges hr
  unfold watchEntry; split
  · exact h.watched rfl (.inl rfl) hdrop (Nat.zero_le _)
  · exact watchOff_inRange h

theorem CycleCounts.putAway {c : Cycle} (h : CycleCounts c) (st : CycleState) : CycleCounts (c.putAway st) := by
  obtain ⟨hindex, hremaining, -⟩ := h
  exact ⟨hindex, hremaining, Nat.zero_le _, Nat.zero_le _, fun x hx => (nomatch hx)⟩

theorem endDisplay_ranged (h : Ranged s) : Ranged (endDisplay s) := by
  obtain ⟨hwaiting, hlength, hrecords, -⟩ := h.faults
  refine ranged_of_parts h.cycle h.handed h.climate h.share h.member h.framer h.feeder ?_ h.table h.ordered h.fromRom h.request
  exact ⟨hwaiting, hlength, hrecords, fun d hd => (nomatch hd), (activeCode_le _).trans (by decide)⟩

theorem leaveTo_ranged (st : CycleState) (h : Ranged s) : Ranged (leaveTo st s) := by
  have hput : ∀ {u : State}, Ranged u → Ranged { u with cycle := u.cycle.putAway st, climate := watchOff u.climate } :=
    fun hu => (hu.withCycle (hu.cycle.putAway st) hu.fromRom).withClimate (watchOff_inRange hu.climate)
  unfold leaveTo; dsimp only; split
  · exact hput (endDisplay_ranged h)
  · exact hput h

/-! ## The Fault Unit and the phases -/

theorem activate_ranged (h : Ranged s) : Ranged (activate s) := by
  have hended := endDisplay_ranged h
  have table : ∀ k : FaultKind, k.cls = .a → 1 ≤ k.code ∧ k.code ≤ 4 := by intro k; cases k <;> decide
  unfold activate; dsimp only; split
  · exact hended
  · next k _ =>
    split
    · next hk =>
      obtain ⟨hwaiting, -, hrecords, hdisplay, hcode⟩ := hended.faults
      obtain ⟨hindex, -⟩ := h.cycle
      obtain ⟨hlow, hhigh⟩ := table k hk
      refine ranged_of_parts h.cycle h.handed h.climate h.share h.member h.framer h.feeder ?_ h.table h.ordered h.fromRom h.request
      refine ⟨hwaiting, List.length_take_le _ _, fun r hr => ?_, hdisplay, hcode⟩
      rcases List.mem_cons.1 (List.mem_of_mem_take hr) with rfl | hr
      · exact ⟨hlow, hhigh, hindex⟩
      · exact hrecords r hr
    · exact hended

theorem haltCycle_ranged (h : Ranged s) : Ranged (haltCycle s) := handOver_ranged (leaveTo_ranged _ h)

theorem holdCycle_ranged (h : Ranged s) : Ranged (holdCycle s) := by
  obtain ⟨hindex, hremaining, -, hboost, hcontext⟩ := h.cycle
  exact handOver_ranged (h.withCycle ⟨hindex, hremaining, Nat.zero_le _, hboost, hcontext⟩ h.fromRom)

theorem cycleOnClass_ranged (h : Ranged s) : Ranged (cycleOnClass s) := by
  have stay : Ranged (handOver s) := handOver_ranged h
  unfold cycleOnClass
  split
  · split
    all_goals first
      | exact stay
      | exact haltCycle_ranged h
  · split
    · exact holdCycle_ranged h
    · exact stay
  all_goals exact stay

theorem raiseInto_ranged (k : FaultKind) (h : Ranged s) : Ranged { s with faults := raiseInto k s.faults } :=
  h.withFaults (raiseInto_ordered h.ordered) (raiseInto_history k _) (raiseInto_code k _)

theorem withdrawFrom_ranged (k : FaultKind) (h : Ranged s) : Ranged { s with faults := withdrawFrom k s.faults } :=
  h.withFaults (withdrawFrom_ordered h.ordered) (withdrawFrom_history k _) (withdrawFrom_code k _)

theorem raiseFault_ranged (k : FaultKind) (h : Ranged s) : Ranged (raiseFault k s) := by
  unfold raiseFault; dsimp only; split
  · exact settle_ranged (raiseInto_ranged k h)
  · exact cycleOnClass_ranged (activate_ranged (raiseInto_ranged k h))

theorem checkWater_ranged (h : Ranged s) : Ranged (checkWater s) := by
  unfold checkWater; split
  · exact raiseFault_ranged _ h
  · exact h

/-- A phase is entered in the record read from the ROM, whatever the programme before (R18, R19). -/
theorem enterPhase_ranged {p : Fin 8} {i : Nat} {r : Record} (hr : readRom p i = some r) (h : Ranged s) :
    Ranged (enterPhase i r { s with cycle := { s.cycle with programme := p } }) := by
  obtain ⟨-, -, -, -, hcontext⟩ := h.cycle
  obtain ⟨hindex, hminutes, -⟩ := readRom_ranges hr
  refine checkWater_ranged (handOver_ranged ?_)
  exact (h.withClimate (watchEntry_inRange hr h.climate)).withCycle
    ⟨hindex, hminutes, Nat.zero_le _, Nat.zero_le _, hcontext⟩ (.inr hr.symm)

theorem sound_ranged (p : Pattern) (h : Ranged s) : Ranged (sound p s) := h

theorem completeCycle_ranged (h : Ranged s) : Ranged (completeCycle s) :=
  sound_ranged _ (handOver_ranged (leaveTo_ranged _ h))

theorem endPhase_ranged (h : Ranged s) : Ranged (endPhase s) := by
  unfold endPhase; split
  · next r hr => exact enterPhase_ranged hr h
  · exact completeCycle_ranged h

theorem checkDryPoint_ranged (h : Ranged s) : Ranged (checkDryPoint s) := by
  unfold checkDryPoint; split
  · exact endPhase_ranged h
  · exact h

theorem returnToRunning_ranged (h : Ranged s) : Ranged (returnToRunning s) :=
  checkWater_ranged (checkDryPoint_ranged (handOver_ranged (h.withCycle (c := (runOn s).cycle) h.cycle h.fromRom)))

theorem withdrawCore_ranged (k : FaultKind) (h : Ranged s) : Ranged (withdrawCore k s) := by
  have hactive := activate_ranged (withdrawFrom_ranged k h)
  unfold withdrawCore; dsimp only; split
  · exact settle_ranged (withdrawFrom_ranged k h)
  · unfold cycleOnFall; split
    · exact returnToRunning_ranged hactive
    · exact cycleOnClass_ranged hactive

theorem checkLock_ranged (h : Ranged s) : Ranged (checkLock s) := by
  unfold checkLock; split
  · exact withdrawCore_ranged _ h
  · exact h

theorem reportFault_ranged (k : FaultKind) (holds : Bool) (h : Ranged s) : Ranged (reportFault k holds s) := by
  unfold reportFault; split
  · exact h
  · split
    · exact checkLock_ranged (raiseFault_ranged k h)
    · exact checkLock_ranged (withdrawCore_ranged k h)

end
end Sys2Proof.Machine

namespace Sys2Proof.Machine

/-! PROOFS. Ranges: the Peer Table and the membership operations (R61 to R69, R111 to R119). -/

section
variable {s : State}

/-! ## The Peer Table -/

theorem entryAt_emptyTable (addr : Nat) : entryAt emptyTable addr = .empty := by
  unfold entryAt emptyTable
  rw [List.getD_eq_getElem?_getD, List.getElem?_replicate]
  split <;> rfl

theorem emptyTable_formed {aIso : Nat} {e : Entry} (h : e ∈ emptyTable) : EntryFormed aIso e := by
  rw [List.eq_of_mem_replicate h]; trivial

/-- A cleared table is formed (R62). -/
theorem TableFormed.cleared (h : TableFormed s) : TableFormed { s with table := emptyTable } := by
  obtain ⟨-, -, -, -, hiso⟩ := h
  exact ⟨rfl, fun _ => emptyTable_formed, entryAt_emptyTable _, fun _ => rfl, hiso⟩

/-- Aging keeps an entry within its ranges, with an age its new state allows (R69). -/
theorem aged_formed {aIso : Nat} {e : Entry} (h : EntryFormed aIso e) : EntryFormed aIso e.aged := by
  cases e with
  | empty => trivial
  | joining held age =>
    obtain ⟨hlow, hhigh, -⟩ := h
    unfold Entry.aged; dsimp only; split
    · trivial
    · next hage => exact ⟨hlow, hhigh, Nat.lt_of_not_le hage⟩
  | active a age =>
    obtain ⟨hcls, hboost, hwant, hclaim, hdraw, hage⟩ := h
    unfold Entry.aged; dsimp only; split
    · next hold =>
      refine ⟨hcls, hboost, hwant, hclaim, hdraw, hold, ?_⟩
      unfold activeAge at hage; unfold staleAge; omega
    · next hyoung => exact ⟨hcls, hboost, hwant, hclaim, hdraw, Nat.lt_of_not_le hyoung⟩
  | quiet a age =>
    obtain ⟨hzero, -⟩ := h
    unfold Entry.aged; dsimp only; split
    · trivial
    · next hage => exact ⟨hzero, Nat.lt_of_not_le hage⟩
  | stale a age =>
    obtain ⟨hcls, hboost, hwant, hclaim, hdraw, hold, -⟩ := h
    unfold Entry.aged; dsimp only; split
    · trivial
    · next hage =>
      refine ⟨hcls, hboost, hwant, hclaim, hdraw, ?_, Nat.lt_of_not_le hage⟩
      unfold activeAge ageMax at *; omega

/-- An aged table is formed, and an empty one stays empty (R69). -/
theorem TableFormed.aged (h : TableFormed s) : TableFormed { s with table := s.table.map Entry.aged } := by
  obtain ⟨hlength, hentries, hown, hopen, hiso⟩ := h
  refine ⟨(List.length_map _).trans hlength, fun e he => ?_, ?_, fun hw => ?_, hiso⟩
  · obtain ⟨x, hx, rfl⟩ := List.mem_map.1 he
    exact aged_formed (hentries x hx)
  · show entryAt (s.table.map Entry.aged) s.straps.address = .empty
    rw [entryAt_aged, hown]; rfl
  · show s.table.map Entry.aged = emptyTable
    rw [hopen hw]; rfl

/-- The entry of a notice in range is formed: a JOIN-ASK reserves from the isolated allowance up (R64 to R68). -/
theorem noticeEntry_formed {aIso : Nat} {n : Notice} {before : Entry} (hiso : aIso ≤ 108) (hn : NoticeInRange n)
    (hb : EntryFormed aIso before) : EntryFormed aIso (noticeEntry aIso n before) := by
  have hprior : before.prior ≤ 48 := by
    cases before with
    | active a age =>
      obtain ⟨-, -, -, hclaim, hdraw, -⟩ := hb
      exact Nat.max_le.2 ⟨hclaim, hdraw⟩
    | stale a age =>
      obtain ⟨-, -, -, hclaim, hdraw, -⟩ := hb
      exact Nat.max_le.2 ⟨hclaim, hdraw⟩
    | _ => exact Nat.zero_le _
  cases n with
  | demand a =>
    obtain ⟨hcls, hboost, hwant, hclaim, hdraw⟩ := hn
    exact ⟨hcls, hboost, hwant, hclaim, hdraw, by decide⟩
  | presence => exact ⟨rfl, by decide⟩
  | joinAsk nonce => exact ⟨Nat.le_max_left _ _, Nat.max_le.2 ⟨hiso, hprior.trans (by decide)⟩, by decide⟩
  | joinConfirm nonce held => exact ⟨Nat.zero_le _, Nat.zero_le _, Nat.zero_le _, hn, hn, by decide⟩
  | leave => trivial

theorem entryAt_formed {aIso : Nat} {t : List Entry} (h : ∀ e ∈ t, EntryFormed aIso e) (addr : Nat) :
    EntryFormed aIso (entryAt t addr) := by
  unfold entryAt
  rw [List.getD_eq_getElem?_getD]
  cases he : t[addr]? with
  | none => trivial
  | some e => exact h e (List.mem_of_getElem? he)

/-- A notice of another station leaves the table formed, once the strap window is over (R63). -/
theorem TableFormed.noticed (h : TableFormed s) {addr : Nat} {n : Notice} (hn : NoticeInRange n)
    (haddr : addr ≠ s.straps.address) (hw : s.straps.window = none) :
    TableFormed { s with table := s.table.set addr (noticeEntry s.straps.aIso n (entryAt s.table addr)) } := by
  obtain ⟨hlength, hentries, hown, -, hiso⟩ := h
  refine ⟨List.length_set.trans hlength, fun e he => ?_, (entryAt_set_ne haddr _).trans hown, fun hopen => ?_, hiso⟩
  · rcases List.mem_or_eq_of_mem_set he with he | rfl
    · exact hentries e he
    · exact noticeEntry_formed hiso hn (entryAt_formed hentries addr)
  · exact absurd (show s.straps.window.isSome = true from hopen) (by simp [hw])

theorem setTable_ranged {t : List Entry} (h : Ranged s) (ht : TableFormed { s with table := t }) : Ranged (setTable t s) :=
  compute_ranged (reportFault_ranged _ _ (h.withTable ht))

/-! ## Membership -/

/-- A station in range may change its state to one in which no more than one period stands counted, or none is counted. -/
theorem Ranged.changed {m : MemberState} (h : Ranged s) (hm : m = .joinListen ∨ m = .joinHold → s.member.periodCount ≤ 1) :
    Ranged { s with member := { s.member with st := m } } := by
  obtain ⟨hperiods, -, hcounts⟩ := h.member
  exact h.withMember ⟨hperiods, hm, hcounts⟩

/-- A membership state is entered with the counts that state allows. -/
theorem setMember_ranged {m : MemberState} (h : Ranged { s with member := { s.member with st := m } }) :
    Ranged (setMember m s) := by
  obtain ⟨hgrant, hallowance, hraise, hhold, hlimit⟩ := h.share
  refine compute_ranged (h.withShare ⟨hgrant, hallowance, fun r hr => ?_, hhold, hlimit⟩)
  dsimp only at hr
  split at hr
  · cases hr
  · exact hraise r hr

/-- A membership state that counts no periods is entered with the counts as they stand. -/
theorem setMember_uncounted_ranged {m : MemberState} (h : Ranged s) (hm : m ≠ .joinListen) (hh : m ≠ .joinHold) :
    Ranged (setMember m s) :=
  setMember_ranged (h.changed fun hs => absurd hs (by simp [hm, hh]))

theorem enterJoinListen_ranged (h : Ranged s) : Ranged (enterJoinListen s) := by
  obtain ⟨-, -, hpresence, -, hclaim, hslot⟩ := h.member
  obtain ⟨-, hsending⟩ := h.framer
  have hframer : FramerCounts (framerListens s.framer) := by
    unfold framerListens; split <;> exact ⟨Nat.zero_le _, hsending⟩
  exact setMember_ranged (Ranged.changed
    (((h.withMember (m := { s.member with periodCount := 0, refWant := 0, joinNonce := none })
      ⟨Nat.zero_le _, fun _ => Nat.zero_le _, hpresence, Nat.zero_le _, hclaim, hslot⟩).withShare
        (l := { s.share with period := some s.straps.periodMs }) h.share).withFramer hframer) fun _ => Nat.zero_le _)

theorem enterStandby_ranged (h : Ranged s) : Ranged (enterStandby s) := by
  have hempty := emptySlot_ranged h
  obtain ⟨-, -, hpresence, href, hclaim, hslot⟩ := hempty.member
  obtain ⟨hgrant, hallowance, hraise, -, hlimit⟩ := h.share
  have hreset := ((hempty.withMember
    (m := { (emptySlot s).member with joinNonce := none, periodCount := 0, returnMark := false, dwell := none, lineFree := false })
    ⟨Nat.zero_le _, fun _ => Nat.zero_le _, hpresence, href, hclaim, hslot⟩).withShare
      (l := { s.share with period := none, hold := 0, arm := true })
      ⟨hgrant, hallowance, hraise, Nat.zero_le _, hlimit⟩).withFramer
        (f := framerSilent (emptySlot s).framer) (hempty.framer.noFrame rfl rfl)
  have hstood := setMember_uncounted_ranged (m := .standby) hreset (by decide) (by decide)
  have hcleared := setTable_ranged hstood hstood.table.cleared
  unfold enterStandby; dsimp only; split
  · exact enterJoinListen_ranged hcleared
  · exact hcleared

theorem enterIsolated_ranged (h : Ranged s) : Ranged (enterIsolated s) := by
  have hempty : Ranged { emptySlot s with
      member := { (emptySlot s).member with joinNonce := none, dwell := some isolationDwellMs, lineFree := false } } :=
    emptySlot_ranged h
  exact setMember_uncounted_ranged (reportFault_ranged _ _ hempty) (by decide) (by decide)

theorem exitIsolated_ranged (h : Ranged s) : Ranged (exitIsolated s) := by
  have hleft : Ranged { s with member := { s.member with dwell := none, lineFree := false } } := h
  exact enterJoinListen_ranged (setTable_ranged hleft hleft.table.cleared)

theorem enterDuplicate_ranged (h : Ranged s) : Ranged (enterDuplicate s) := by
  have hempty : Ranged { emptySlot s with member := { (emptySlot s).member with joinNonce := none } } := emptySlot_ranged h
  exact reportFault_ranged _ _ (setMember_uncounted_ranged hempty (by decide) (by decide))

theorem enterJoinAsk_ranged (h : Ranged { s with member := { s.member with st := .joinAsk } }) : Ranged (enterJoinAsk s) := by
  have hasked : Ranged { s with
      member :=
        { s.member with
          st := .joinAsk, nonceCounter := Config.freeNonce s.nonceReads, joinNonce := some (Config.freeNonce s.nonceReads) }
      nonceReads := s.nonceReads + 1 } := h
  exact loadNotice_ranged _ (setMember_ranged hasked)

theorem enterJoinConfirm_ranged (h : Ranged { s with member := { s.member with st := .joinConfirm } }) :
    Ranged (enterJoinConfirm s) :=
  loadNotice_ranged _ (setMember_ranged h)

theorem enterMember_ranged (held : Nat) (h : Ranged s) : Ranged (enterMember held s) := by
  obtain ⟨hperiods, hjoining, -, -, hclaim, hslot⟩ := h.member
  obtain ⟨hgrant, hallowance, hshare⟩ := h.share
  have hjoined := (h.withMember (m := { s.member with presence := presenceStart, refWant := 0, joinNonce := none })
    ⟨hperiods, hjoining, le_rfl, Nat.zero_le _, hclaim, hslot⟩).withShare
      (l := { s.share with allowance := min s.share.allowance held })
      ⟨hgrant, (Nat.min_le_left _ _).trans hallowance, hshare⟩
  have hmember := reportFault_ranged .lineIsolated false
    (setMember_uncounted_ranged (m := .member) hjoined (by decide) (by decide))
  unfold enterMember; dsimp only; split
  · exact loadNotice_ranged _ hmember
  · exact hmember

theorem memberPower_ranged (h : Ranged s) : Ranged (memberPower s) := by
  have left : Ranged (loadNotice .leave (setMember .leaving s)) :=
    loadNotice_ranged _ (setMember_uncounted_ranged h (by decide) (by decide))
  have marked : Ranged { s with member := { s.member with returnMark := !s.member.returnMark } } := h
  unfold memberPower
  cases s.member.st with
  | joinListen => exact enterStandby_ranged h
  | isolated => exact enterStandby_ranged h
  | duplicate => exact h
  | leaving => exact marked
  | standby => exact enterJoinListen_ranged h
  | _ => exact left

theorem defendAddress_ranged (h : Ranged s) : Ranged (defendAddress s) := by
  obtain ⟨hperiods, hjoining, -, -, hclaim, hslot⟩ := h.member
  unfold defendAddress; split
  · exact loadNotice_ranged _ (h.withMember ⟨hperiods, hjoining, Nat.zero_le _, Nat.zero_le _, hclaim, hslot⟩)
  · exact loadNotice_ranged _ h

theorem ownAddress_ranged (k : NoticeKind) (h : Ranged s) : Ranged (ownAddress k s) := by
  have told : Ranged (if k = .joinAsk then defendAddress s else enterDuplicate s) := by
    split
    · exact defendAddress_ranged h
    · exact enterDuplicate_ranged h
  unfold ownAddress; split
  · exact enterDuplicate_ranged h
  · exact enterDuplicate_ranged h
  · exact enterDuplicate_ranged h
  · exact enterDuplicate_ranged h
  · exact told
  all_goals exact h

theorem frameSeen_ranged (h : Ranged s) : Ranged (frameSeen s) :=
  clearLineFree_ranged (h.withFramer (f := touchLine { s.framer with st := .receiving }) h.framer)

/-- A framer that reads the line tells that the strap window is over: before its end the station stands by, SILENT. -/
def ReadsAfterBoot (s : State) : Prop := reading s = true → s.straps.window = none

theorem deliver_ranged (addr : Nat) {n : Notice} (hn : NoticeInRange n) (hboot : ReadsAfterBoot s) (h : Ranged s) :
    Ranged (deliver addr n s) := by
  have hseen := frameSeen_ranged h
  obtain ⟨⟨hstraps, -⟩, -⟩ := frameSeen_lineFrame s
  unfold deliver; dsimp only; split
  · next hreads =>
    refine framerRest_ranged (endAttempt_ranged ?_)
    split
    · exact ownAddress_ranged _ hseen
    · next haddr => exact setTable_ranged hseen (hseen.table.noticed hn haddr (hstraps ▸ hboot hreads))
  · exact h

end
end Sys2Proof.Machine

namespace Sys2Proof.Machine

/-! PROOFS. Ranges: the commands of the cabinet, the climate and the panel (R20, R22, R37 to R39, R45 to R47, R51, R54, R170). -/

section
variable {s : State}

/-! ## Door, water, lock and fan -/

theorem pausedPhase_ranged (h : Ranged s) : Ranged (pausedPhase s) := by
  obtain ⟨hindex, hremaining, -, hboost, -⟩ := h.cycle
  obtain ⟨-, -, -, -, -, -, -, hpeak⟩ := h.climate
  refine (h.withClimate (watchOff_inRange h.climate)).withCycle
    ⟨hindex, hremaining, Nat.zero_le _, Nat.zero_le _, fun x hx => ?_⟩ h.fromRom
  obtain rfl := Option.some.inj hx
  refine ⟨hindex, hremaining, hboost, fun p hp => ?_⟩
  unfold pauseContext at hp
  dsimp only at hp
  split at hp
  · exact Option.some.inj hp ▸ hpeak
  · cases hp

/-- The cycle left for a state without a phase, with the lock looked at. -/
theorem leftAndHanded_ranged (st : CycleState) (h : Ranged s) : Ranged (checkLock (handOver (leaveTo st s))) :=
  checkLock_ranged (handOver_ranged (leaveTo_ranged st h))

theorem doorOpened_ranged (h : Ranged s) : Ranged (doorOpened s) := by
  have paused : Ranged (checkLock (pauseCycle s)) := checkLock_ranged (handOver_ranged (pausedPhase_ranged h))
  unfold doorOpened; split
  · exact paused
  · exact paused
  · exact leftAndHanded_ranged .idle h
  all_goals exact settle_ranged h

theorem waterReported_ranged (h : Ranged s) : Ranged (waterReported s) := by
  unfold waterReported; split
  · exact checkLock_ranged (checkWater_ranged (handOver_ranged h))
  · exact reportFault_ranged _ _ (handOver_ranged h)

theorem lockReported_ranged (was : Bool) (h : Ranged s) : Ranged (lockReported was s) :=
  checkLock_ranged
    (settle_ranged (s := { s with loads := { s.loads with lockConfirm := lockTimer s.loads was s.lines.locked } }) h)

theorem lockConfirmExpiry_ranged (h : Ranged s) : Ranged (lockConfirmExpiry s) := by
  unfold lockConfirmExpiry; split
  · exact reportFault_ranged _ _ (s := { s with loads := { s.loads with lockConfirm := none } }) h
  · exact h

/-- The loads are of no count or store: written and the outputs formed, ranges stand. -/
theorem settle_loads_ranged (h : Ranged s) (l : LoadOut) : Ranged (settle { s with loads := l }) :=
  settle_ranged (s := { s with loads := l }) h

theorem tachPulse_ranged (h : Ranged s) : Ranged (tachPulse s) := by
  unfold tachPulse; split
  · exact h
  · exact reportFault_ranged _ _ (settle_loads_ranged h _)

theorem tachExpiry_ranged (h : Ranged s) : Ranged (tachExpiry s) := by
  unfold tachExpiry; split
  · exact reportFault_ranged _ _ (settle_loads_ranged h _)
  · exact h

/-! ## Climate -/

/-- The mean of readings within range is within range (R45, R46). -/
theorem mean_inRange {l : List Int} (hl : l ≠ []) (h : ∀ r ∈ l, -20 ≤ r ∧ r ≤ 220) :
    -20 ≤ l.sum / (l.length : Int) ∧ l.sum / (l.length : Int) ≤ 220 := by
  have hlow := List.card_nsmul_le_sum l (-20) fun r hr => (h r hr).1
  have hhigh := List.sum_le_card_nsmul l 220 fun r hr => (h r hr).2
  simp only [nsmul_eq_mul] at hlow hhigh
  have hpos : (0 : Int) < l.length := by exact_mod_cast List.length_pos_iff.2 hl
  constructor
  · exact (Int.le_ediv_iff_mul_le hpos).2 (by linarith)
  · exact (Int.ediv_le_iff_le_mul hpos).2 (by linarith)

theorem sampleProbe_inRange {p : Probe} (hp : ∀ v, p.reading = some v → -20 ≤ v ∧ v ≤ 220) (r v : Int)
    (hv : (sampleProbe p r).reading = some v) : -20 ≤ v ∧ v ≤ 220 := by
  cases hr : probeInRange r with
  | true =>
    rw [sampleProbe_of_inRange hr] at hv
    obtain rfl := Option.some.inj hv
    simp only [probeInRange, Bool.and_eq_true, decide_eq_true_eq] at hr
    exact hr
  | false =>
    rw [sampleProbe_of_outOfRange hr] at hv
    exact hp v hv

theorem sampleProbes_probes (r0 r1 r2 : Int) (c : Climate) :
    (sampleProbes r0 r1 r2 c).p0 = sampleProbe c.p0 r0 ∧ (sampleProbes r0 r1 r2 c).p1 = sampleProbe c.p1 r1 ∧
      (sampleProbes r0 r1 r2 c).p2 = sampleProbe c.p2 r2 ∧ (sampleProbes r0 r1 r2 c).drop = c.drop := by
  unfold sampleProbes; dsimp only; split <;> exact ⟨rfl, rfl, rfl, rfl⟩

theorem sampleProbes_inRange (r0 r1 r2 : Int) {c : Climate} (h : ClimateInRange c) :
    ClimateInRange (sampleProbes r0 r1 r2 c) := by
  obtain ⟨hprobes, -, htr, htmax, hlength, hsamples, hdrop, hpeak⟩ := h
  obtain ⟨e0, e1, e2, edrop⟩ := sampleProbes_probes r0 r1 r2 c
  have hround := roundTaken_sampleProbes r0 r1 r2 c
  obtain ⟨-, ering, -, -, epeak, -⟩ := hround.rest
  have hvalid : ∀ r ∈ roundReadings r0 r1 r2, -20 ≤ r ∧ r ≤ 220 := fun r hr => by
    simpa using (List.mem_filter.1 hr).2
  refine ⟨fun p hp => ?_, ?_, ?_, ?_, ering ▸ hlength, ering ▸ hsamples, edrop ▸ hdrop, epeak ▸ hpeak⟩
  · rw [e0, e1, e2] at hp
    simp only [List.mem_cons, List.not_mem_nil, or_false] at hp
    rcases hp with rfl | rfl | rfl
    · exact sampleProbe_inRange (hprobes _ (by simp)) r0
    · exact sampleProbe_inRange (hprobes _ (by simp)) r1
    · exact sampleProbe_inRange (hprobes _ (by simp)) r2
  · rw [hround.invalid]; exact Nat.sub_le _ _
  · by_cases hnone : roundReadings r0 r1 r2 = []
    · rw [(hround.none_valid hnone).1]; exact htr
    · rw [hround.mean hnone]; exact mean_inRange hnone hvalid
  · by_cases hnone : roundReadings r0 r1 r2 = []
    · rw [(hround.none_valid hnone).2]; exact htmax
    · exact hvalid _ (hround.highest hnone).1

theorem evalOverTemp_ranged (h : Ranged s) : Ranged (evalOverTemp s) :=
  reportFault_ranged _ _ (h.withClimate (c := { s.climate with overTemp := _ }) h.climate)

theorem climateUpdate_ranged (h : Ranged s) : Ranged (climateUpdate s) := by
  have latched : Ranged { s with cycle := { s.cycle with latch := latchNext s.cycle s.climate.tr } } :=
    h.withCycle (c := { s.cycle with latch := _ }) h.cycle h.fromRom
  unfold climateUpdate; dsimp only; split
  · exact leftAndHanded_ranged .idle latched
  · exact checkLock_ranged (handOver_ranged latched)

theorem probeRound_ranged (r0 r1 r2 : Int) (h : Ranged s) : Ranged (probeRound r0 r1 r2 s) :=
  climateUpdate_ranged (evalOverTemp_ranged (reportFault_ranged _ _ (reportFault_ranged .probeDegraded _
    (h.withClimate (sampleProbes_inRange r0 r1 r2 h.climate)))))

theorem pushRing_inRange {ring : List Nat} {v : Nat} (hlength : ring.length ≤ 61) (hsamples : ∀ x ∈ ring, x ≤ 200)
    (hv : v ≤ 200) : (pushRing ring v).length ≤ 61 ∧ ∀ x ∈ pushRing ring v, x ≤ 200 := by
  rw [pushRing_eq]
  constructor
  · rw [List.length_append, List.length_singleton]
    split
    · rw [List.length_drop]; omega
    · omega
  · intro x hx
    rcases List.mem_append.1 hx with hx | hx
    · split at hx
      · exact hsamples x (List.mem_of_mem_drop hx)
      · exact hsamples x hx
    · exact List.mem_singleton.1 hx ▸ hv

/-- A sample raises the peak no further than itself (R54, R55). -/
theorem watchSample_inRange {v : Nat} (hv : v ≤ 200) {c : Climate} (h : ClimateInRange c) : ClimateInRange (watchSample v c) := by
  obtain ⟨hprobes, hinvalid, htr, htmax, hlength, hsamples, hdrop, hpeak⟩ := h
  have hmax : max c.peak v ≤ 200 := Nat.max_le.2 ⟨hpeak, hv⟩
  unfold watchSample; split
  · exact ⟨hprobes, hinvalid, htr, htmax, hlength, hsamples, hdrop, hmax⟩
  · dsimp only; split <;> exact ⟨hprobes, hinvalid, htr, htmax, hlength, hsamples, hdrop, hmax⟩
  all_goals exact ⟨hprobes, hinvalid, htr, htmax, hlength, hsamples, hdrop, hpeak⟩

theorem humidityReading_ranged (rh : Int) (h : Ranged s) : Ranged (humidityReading rh s) := by
  obtain ⟨hprobes, hinvalid, htr, htmax, hlength, hsamples, hdrop, hpeak⟩ := h.climate
  by_cases hrange : 0 ≤ rh ∧ rh ≤ 200
  · have hv : rh.toNat ≤ 200 := Int.toNat_le.2 hrange.2
    obtain ⟨hlength', hsamples'⟩ := pushRing_inRange hlength hsamples hv
    rw [humidityReading_of_valid hrange]
    exact checkLock_ranged (checkDryPoint_ranged (reportFault_ranged _ _ (h.withClimate (watchSample_inRange hv
      ⟨hprobes, hinvalid, htr, htmax, hlength', hsamples', hdrop, hpeak⟩))))
  · rw [humidityReading_of_invalid hrange]
    exact reportFault_ranged _ _ (h.withClimate
      ⟨hprobes, hinvalid, htr, htmax, Nat.zero_le _, fun x hx => (nomatch hx), hdrop, hpeak⟩)

theorem warmUpExpiry_ranged (h : Ranged s) : Ranged (warmUpExpiry s) := by
  unfold warmUpExpiry; split <;> exact h

theorem trackingExpiry_ranged (h : Ranged s) : Ranged (trackingExpiry s) := by
  unfold trackingExpiry; split <;> exact h

/-! ## Keys and the cycle's timers -/

theorem startCycle_ranged (p : Fin 8) (h : Ranged s) : Ranged (startCycle p s) := by
  unfold startCycle; split
  · exact h
  · next r hr => exact enterPhase_ranged hr (endDisplay_ranged h)

theorem watchResume_inRange {p : Fin 8} {i : Nat} {peak : Option Nat} (hpeak : ∀ v, peak = some v → v ≤ 200) {c : Climate}
    (h : ClimateInRange c) : ClimateInRange (watchResume (readRom p i) peak c) := by
  have hdrop : ∀ d, (readRom p i).bind Record.drop = some d → 16 ≤ d ∧ d ≤ 30 := by
    intro d hd
    obtain ⟨r, hr, hdr⟩ := Option.bind_eq_some_iff.1 hd
    obtain ⟨-, -, hdrops⟩ := readRom_ranges hr
    exact hdrops d hdr
  have hsaved : peak.getD 0 ≤ 200 := by
    cases peak with
    | none => exact Nat.zero_le _
    | some v => exact hpeak v rfl
  unfold watchResume; dsimp only; split
  · exact h.watched rfl (.inr rfl) hdrop hsaved
  · exact h.watched rfl (.inr rfl) (fun _ hd => (nomatch hd)) (Nat.zero_le _)

/-- A paused phase is restored from counts in range (R38). -/
theorem resumedPhase_ranged {x : PauseContext} (hx : s.cycle.context = some x) (h : Ranged s) : Ranged (resumedPhase x s) := by
  obtain ⟨-, -, -, -, hcontext⟩ := h.cycle
  obtain ⟨hindex, hremaining, hboost, hpeak⟩ := hcontext x hx
  exact (h.withClimate (watchResume_inRange hpeak h.climate)).withCycle
    ⟨hindex, hremaining, Nat.zero_le _, hboost, fun y hy => (nomatch hy)⟩ (.inr rfl)

theorem resumeCycle_ranged (h : Ranged s) : Ranged (resumeCycle s) := by
  unfold resumeCycle; split
  · exact h
  · next x hx => exact checkWater_ranged (handOver_ranged (resumedPhase_ranged hx h))

theorem cycleStart_ranged (p : Fin 8) (h : Ranged s) : Ranged (cycleStart p s) := by
  unfold cycleStart; split
  · split
    · exact checkLock_ranged (startCycle_ranged p h)
    · exact h
  · split
    · exact checkLock_ranged (resumeCycle_ranged h)
    · exact h
  all_goals exact h

theorem coolingCycle_ranged (h : Ranged s) : Ranged (coolingCycle s) :=
  have hleft : Ranged (leaveTo .cancelCool s) := leaveTo_ranged _ h
  hleft.withCycle (c := { (leaveTo .cancelCool s).cycle with cancelCool := some cancelCoolMs }) hleft.cycle hleft.fromRom

theorem cycleCancel_ranged (h : Ranged s) : Ranged (cycleCancel s) := by
  have idled : Ranged (checkLock (handOver (leaveTo .idle s))) := leftAndHanded_ranged .idle h
  have stopped : Ranged (checkLock (if coolTemp ≤ s.climate.tmax then enterCancelCool s else handOver (leaveTo .idle s))) := by
    split
    · exact checkLock_ranged (handOver_ranged (coolingCycle_ranged h))
    · exact idled
  have unhalted : Ranged (if s.faults.activeClass = some .a then s else checkLock (handOver (leaveTo .idle s))) := by
    split
    · exact h
    · exact idled
  unfold cycleCancel; split
  · exact stopped
  · exact stopped
  · exact stopped
  · exact unhalted
  · exact idled
  all_goals exact h

theorem cyclePower_ranged (h : Ranged s) : Ranged (cyclePower s) := by
  unfold cyclePower; split
  · exact memberPower_ranged (leftAndHanded_ranged .standby h)
  · exact memberPower_ranged (leftAndHanded_ranged .standby h)
  · exact memberPower_ranged (leftAndHanded_ranged .idle h)
  all_goals exact h

theorem startPress_ranged (sel2 sel1 sel0 : Bool) (h : Ranged s) : Ranged (startPress sel2 sel1 sel0 s) := by
  have clicked : Ranged (startClicked s) := h
  unfold startPress; dsimp only; split
  · split
    · exact cycleStart_ranged _ clicked
    · exact clicked
  · exact h

theorem cancelPress_ranged (h : Ranged s) : Ranged (cancelPress s) := by
  have clicked : Ranged (cancelClicked s) := h
  unfold cancelPress; dsimp only; split
  · split
    · exact cycleCancel_ranged clicked
    · exact clicked
  · exact h

theorem powerPress_ranged (h : Ranged s) : Ranged (powerPress s) := by
  have clicked : Ranged (powerClicked s) := h
  unfold powerPress; dsimp only; split
  · split
    · exact cyclePower_ranged clicked
    · exact clicked
  · exact h

/-- A starved second counts to fifty-nine and raises the boost to seven at most (R22). -/
theorem starvedSecond_counts {c : Cycle} (h : CycleCounts c) : CycleCounts (starvedSecond c) := by
  obtain ⟨hindex, hremaining, hsecs, hboost, hcontext⟩ := h
  unfold starvedSecond; split
  · exact ⟨hindex, hremaining, Nat.zero_le _, Nat.min_le_right _ _, hcontext⟩
  · next hcount =>
    unfold starvedMinute at hcount
    exact ⟨hindex, hremaining, by dsimp only; omega, hboost, hcontext⟩

theorem starvedSecond_record (c : Cycle) :
    (starvedSecond c).record = c.record ∧ (starvedSecond c).programme = c.programme ∧ (starvedSecond c).index = c.index := by
  unfold starvedSecond; split <;> exact ⟨rfl, rfl, rfl⟩

theorem secondExpiry_ranged (h : Ranged s) : Ranged (secondExpiry s) := by
  obtain ⟨hindex, hremaining, hcounts⟩ := h.cycle
  have starving : Ranged { s with cycle := starvedSecond { s.cycle with second := some secondMs } } := by
    obtain ⟨erecord, eprogramme, eindex⟩ := starvedSecond_record { s.cycle with second := some secondMs }
    refine h.withCycle (starvedSecond_counts (c := { s.cycle with second := some secondMs }) h.cycle) ?_
    rw [erecord, eprogramme, eindex]; exact h.fromRom
  have ticked : Ranged { s with cycle := { s.cycle with second := some secondMs, remaining := s.cycle.remaining - 1 } } :=
    h.withCycle ⟨hindex, (Nat.sub_le _ _).trans hremaining, hcounts⟩ h.fromRom
  unfold secondExpiry; dsimp only; split
  · split
    · exact handOver_ranged starving
    · split
      · exact checkLock_ranged (endPhase_ranged ticked)
      · exact ticked
  · exact h

theorem pauseExpiry_ranged (h : Ranged s) : Ranged (pauseExpiry s) := by
  unfold pauseExpiry; split
  · exact sound_ranged _ (leftAndHanded_ranged .idle h)
  · exact h

theorem cancelCoolExpiry_ranged (h : Ranged s) : Ranged (cancelCoolExpiry s) := by
  unfold cancelCoolExpiry; split
  · exact leftAndHanded_ranged .idle h
  · exact h

/-! ## The panel -/

theorem keyRelease_ranged (key : Key) (h : Ranged s) : Ranged (keyRelease key s) := by
  unfold keyRelease; split
  · cases key <;> exact h
  · exact h

/-- A record in range is shown, part by part, by a value of four bits (R170). -/
theorem showPart_ranged {r : FaultRecord} {rest : List FaultRecord} (part : DisplayPart) (h : Ranged s) (hr : RecordInRange r)
    (hrest : ∀ q ∈ rest, RecordInRange q) : Ranged (showPart r rest part s) := by
  obtain ⟨hwaiting, hlength, hrecords, -⟩ := h.faults
  refine ranged_of_parts h.cycle h.handed h.climate h.share h.member h.framer h.feeder ?_ h.table h.ordered h.fromRom h.request
  refine ⟨hwaiting, hlength, hrecords, fun d hd => ?_, ?_⟩
  · obtain rfl := Option.some.inj hd
    exact ⟨hr, hrest⟩
  · obtain ⟨-, hcode, hindex⟩ := hr
    have := r.programme.isLt
    cases part <;> simp only [showPart, Display.value] <;> omega

theorem longPress_ranged (h : Ranged s) : Ranged (longPress s) := by
  obtain ⟨-, -, hrecords, -⟩ := h.faults
  have stopped : Ranged { s with panel := { s.panel with longPress := none } } := h
  unfold longPress; dsimp only; split
  · split
    · next r rest _ hhistory =>
      rw [hhistory] at hrecords
      exact showPart_ranged .code stopped (hrecords r (by simp)) fun q hq => hrecords q (List.mem_cons_of_mem _ hq)
    · exact stopped
  · exact h

theorem displayStep_ranged (h : Ranged s) : Ranged (displayStep s) := by
  obtain ⟨-, -, -, hdisplay, -⟩ := h.faults
  unfold displayStep; split
  · exact h
  · next d hd =>
    obtain ⟨hshown, hrest⟩ := hdisplay d hd
    split
    · exact showPart_ranged _ h hshown hrest
    · exact showPart_ranged _ h hshown hrest
    · exact endDisplay_ranged h
    · exact showPart_ranged _ h hshown hrest
    · exact endDisplay_ranged h
    · next r rest _ hlist =>
      rw [hlist] at hrest
      exact showPart_ranged _ h (hrest r (by simp)) fun q hq => hrest q (List.mem_cons_of_mem _ hq)

end
end Sys2Proof.Machine

namespace Sys2Proof.Machine

/-! PROOFS. Ranges: the commands of the Share Line, the mains and the share timers, the resets, and every step. -/

section
variable {s : State}

/-! ## The Share Line -/

theorem discardFrame_ranged (h : Ranged s) : Ranged (discardFrame s) := by
  unfold discardFrame; split
  · exact framerRest_ranged (endAttempt_ranged (frameSeen_ranged h))
  · exact h

theorem idleHoldExpiry_ranged (h : Ranged s) : Ranged (idleHoldExpiry s) := by
  have idled : Ranged { s with framer := { s.framer with idleHold := none, holdDone := true } } := h
  unfold idleHoldExpiry; split
  · split
    · exact beginSending_ranged h
    · exact idled
    all_goals exact h
  · exact h

theorem loseArbitration_ranged (bit : Nat) (h : Ranged s) : Ranged (loseArbitration bit s) := by
  unfold loseArbitration; split
  · exact h
  · split
    · exact h.withFramer (h.framer.noFrame rfl rfl)
    · exact h

theorem claim_le_of_inRange {n : Notice} (hn : NoticeInRange n) : n.claim ≤ 48 := by
  cases n with
  | demand a =>
    obtain ⟨-, -, -, hclaim, -⟩ := hn
    exact hclaim
  | joinConfirm nonce held => exact hn
  | _ => exact Nat.zero_le _

theorem completionAction_ranged (n : Notice) (h : Ranged s) : Ranged (completionAction n s) := by
  obtain ⟨-, -, hcounts⟩ := h.member
  unfold completionAction
  cases n with
  | joinAsk nonce =>
    cases s.member.st with
    | joinAsk =>
      refine setMember_ranged (h.withMember (m := { s.member with periodCount := 0, st := .joinHold }) ?_)
      exact ⟨Nat.zero_le _, fun _ => Nat.zero_le _, hcounts⟩
    | _ => exact h
  | joinConfirm nonce held =>
    cases s.member.st with
    | joinConfirm => exact enterMember_ranged _ h
    | _ => exact h
  | leave =>
    cases s.member.st with
    | leaving => exact enterStandby_ranged h
    | _ => exact h
  | _ => exact h

theorem loadHeldOver_ranged (h : Ranged s) : Ranged (loadHeldOver s) := by
  unfold loadHeldOver; split
  · exact h
  · exact loadNotice_ranged _ (h.withMember (m := { s.member with heldOver := none }) h.member)

theorem complete_ranged {n : Notice} (hn : NoticeInRange n) (h : Ranged s) : Ranged (complete n s) := by
  have hclaim := claim_le_of_inRange hn
  obtain ⟨hperiods, hjoining, hpresence, href, -, -⟩ := h.member
  obtain ⟨hgrant, hallowance, hraise, hhold, -⟩ := h.share
  obtain ⟨-, hsending⟩ := h.framer
  have hshare : ShareInRange (shareCompletion n s.member.st s.share) := by
    refine ⟨hgrant, hallowance, fun r hr => ?_, hhold, fun v hv => Option.some.inj hv ▸ hclaim⟩
    unfold shareCompletion at hr
    dsimp only at hr
    split at hr
    · exact Option.some.inj hr ▸ hclaim
    · exact hraise r hr
  exact framerRest_ranged (loadHeldOver_ranged (completionAction_ranged n
    (((h.withMember (m := { s.member with lastClaim := n.claim, slot := none, inFlight := false })
      ⟨hperiods, hjoining, hpresence, href, hclaim, fun _ hs => (nomatch hs)⟩).withShare hshare).withFramer
        (f := { s.framer with failures := 0 }) ⟨Nat.zero_le _, hsending⟩)))

/-- A completion is that of the notice being sent (R108). -/
theorem attempt_sending {x : Sending} (h : attempt s = some x) : s.framer.sending = some x := by
  unfold attempt at h
  split at h
  · exact h
  · cases h

theorem loseLine_ranged {otherwise : State → State} (h : Ranged s) (ho : Ranged (otherwise s)) :
    Ranged (loseLine otherwise s) := by
  unfold loseLine
  cases s.member.st with
  | leaving => exact enterStandby_ranged h
  | isolated => exact ho
  | duplicate => exact ho
  | standby => exact ho
  | _ => exact enterIsolated_ranged h

theorem failAttempt_ranged (h : Ranged s) : Ranged (failAttempt s) := by
  obtain ⟨-, hsending⟩ := h.framer
  unfold failAttempt; split
  · exact h
  · have failed := h.withFramer (f := touchLine { s.framer with failures := min (s.framer.failures + 1) failureLimit })
      ⟨Nat.min_le_right _ _, hsending⟩
    dsimp only
    refine framerRest_ranged ?_
    split
    · exact loseLine_ranged failed (endAttempt_ranged failed)
    · exact endAttempt_ranged failed

theorem markSeen_ranged (ownPulse inFrame : Bool) (h : Ranged s) : Ranged (markSeen ownPulse inFrame s) := by
  have seen : Ranged (clearLineFree { s with framer := touchLine { s.framer with drive := none } }) :=
    clearLineFree_ranged (h.withFramer (f := touchLine { s.framer with drive := none }) h.framer)
  have held : ∀ {u : State}, Ranged u → ∀ own : Bool, Ranged (if own then u else startHold false u) := by
    intro u hu own
    split
    · exact hu
    · exact startHold_ranged false hu
  unfold markSeen; dsimp only; split
  · refine framerRest_ranged ?_
    split
    · exact endAttempt_ranged (held seen _)
    · exact held seen _
  · exact h

theorem stuckLine_ranged (h : Ranged s) : Ranged (stuckLine s) := by
  have stuck := (h.withFramer (f := framerStuck s.framer) (h.framer.noFrame rfl rfl)).withMember
    (m := { s.member with inFlight := false }) h.member
  unfold stuckLine; split
  · exact h
  · exact loseLine_ranged stuck (clearLineFree_ranged stuck)

theorem releaseStuck_ranged (h : Ranged s) : Ranged (releaseStuck s) := by
  unfold releaseStuck; split
  · exact h.withFramer (f := touchLine { s.framer with st := restState s }) h.framer
  · exact h

theorem lineFreed_ranged (h : Ranged s) : Ranged (lineFreed s) := by
  have freed : Ranged { s with framer := { s.framer with lineFreed := none } } :=
    h.withFramer (f := { s.framer with lineFreed := none }) h.framer
  unfold lineFreed; dsimp only; split
  · split
    · split
      · exact freed.withMember (m := { s.member with lineFree := true }) h.member
      · exact exitIsolated_ranged freed
    · exact freed
  · exact h

/-! ## Mains -/

theorem halfCycleEvent_ranged (h : Ranged s) : Ranged (halfCycleEvent s) := h

theorem requestMark_ranged (dominant : Nat) (h : Ranged s) : Ranged (requestMark dominant s) := by
  unfold requestMark; split
  · exact h
  · exact h.withFramer (f := { s.framer with drive := some (.mark dominant), idleHold := none, holdDone := false, lineFreed := none })
      h.framer

theorem sagTest_ranged (dominant : Nat) (h : Ranged s) : Ranged (sagTest dominant s) := by
  obtain ⟨hwindow, hnominal, hlength, heven, hopen, hpeaks, hpeak, -⟩ := h.feeder
  have counted : ∀ {n : Nat}, n ≤ 3 → Ranged { s with feeder := { s.feeder with sagRun := n } } := fun hn =>
    h.withFeeder ⟨hwindow, hnominal, hlength, heven, hopen, hpeaks, hpeak, hn⟩
  have sagged := counted (Nat.min_le_right (s.feeder.sagRun + 1) sagLimit)
  unfold sagTest; dsimp only; split
  · split
    · exact startHold_ranged true (requestMark_ranged dominant sagged)
    · exact sagged
  · exact counted (Nat.zero_le _)

theorem judgeWindow_some {mean candidate w : Nat} (h : judgeWindow mean candidate = some w) :
    (w = 100 ∨ w = 120) ∧ 100 ≤ candidate := by
  unfold judgeWindow nominalLow at h
  split at h
  · next hc =>
    refine ⟨?_, hc⟩
    split at h
    · exact .inl (Option.some.inj h).symm
    · split at h
      · exact .inr (Option.some.inj h).symm
      · cases h
  · cases h

/-- The nominal candidate of sixteen peaks is a sense reading (R138, R140). -/
theorem candidate_le {peaks : List Nat} (hlength : peaks.length = 16) (h : ∀ p ∈ peaks, p ≤ 1023) :
    peaks.sum / learningLength ≤ 1023 := by
  have hsum := List.sum_le_card_nsmul peaks 1023 h
  rw [hlength, smul_eq_mul] at hsum
  unfold learningLength
  omega

/-- A full record of a learning attempt is judged: the supervisor leaves LEARNING, or the record is emptied. Before that it is in range
but for LEARNING's own bound, which the sixteenth entry passes (R140). -/
theorem judgeLearning_ranged (h : Ranged { s with feeder := { s.feeder with st := .running } })
    (hfull : s.feeder.intervals.length = learningLength) : Ranged (judgeLearning s) := by
  obtain ⟨hwindow, hnominal, hlength, heven, -, hpeaks, hpeak, hsag⟩ := h.feeder
  unfold judgeLearning; dsimp only; split
  · next w hw =>
    obtain ⟨hw', hlow⟩ := judgeWindow_some hw
    have hhigh : s.feeder.peaks.sum / learningLength ≤ 1023 := candidate_le (heven.trans hfull) hpeaks
    have learned : ∀ {f : Feeder}, f.window = some w → f.nominal = some (s.feeder.peaks.sum / learningLength) →
        f.intervals = s.feeder.intervals → f.peaks = s.feeder.peaks → f.peak = s.feeder.peak → f.sagRun = s.feeder.sagRun →
        ¬(f.st = .notStarted ∨ f.st = .learning) → Ranged (enterJoinListen { s with feeder := f }) := by
      intro f ew en ei ep epk es hst
      refine enterJoinListen_ranged (h.withFeeder ?_)
      unfold FeederInRange
      rw [ew, en, ei, ep, epk, es]
      exact ⟨fun v hv => Option.some.inj hv ▸ hw', fun n hn => Option.some.inj hn ▸ ⟨hlow, hhigh⟩, hlength, heven,
        fun hl => absurd hl hst, hpeaks, hpeak, hsag⟩
    split
    · exact learned rfl rfl rfl rfl rfl rfl (by simp)
    · exact halfCycleEvent_ranged (learned rfl rfl rfl rfl rfl rfl (by simp))
  · exact reportFault_ranged _ _ (h.withFeeder (f := { s.feeder with intervals := [], peaks := [] })
      ⟨hwindow, hnominal, Nat.zero_le _, rfl, fun _ => Nat.zero_lt_succ 15, fun p hp => (nomatch hp), hpeak, hsag⟩)

theorem learnCross_ranged (since : Nat) (hst : s.feeder.st = .learning) (h : Ranged s) : Ranged (learnCross since s) := by
  obtain ⟨hwindow, hnominal, -, heven, hopen, hpeaks, hpeak, hsag⟩ := h.feeder
  have hshort := hopen (.inr hst)
  have hlength : (s.feeder.intervals ++ [since]).length = s.feeder.intervals.length + 1 := by simp
  have heven' : (s.feeder.peaks ++ [s.feeder.peak]).length = (s.feeder.intervals ++ [since]).length := by simp [heven]
  have hpeaks' : ∀ p ∈ s.feeder.peaks ++ [s.feeder.peak], p ≤ 1023 := by
    intro p hp
    rcases List.mem_append.1 hp with hp | hp
    · exact hpeaks p hp
    · exact List.mem_singleton.1 hp ▸ hpeak
  have hle : (s.feeder.intervals ++ [since]).length ≤ 16 := by omega
  unfold learnCross; dsimp only; split
  · split
    · next hfull =>
      refine judgeLearning_ranged (h.withFeeder ?_) hfull
      exact ⟨hwindow, hnominal, hle, heven', fun hl => absurd hl (by simp), hpeaks', hpeak, hsag⟩
    · next hpart =>
      refine h.withFeeder ⟨hwindow, hnominal, hle, heven', fun _ => ?_, hpeaks', hpeak, hsag⟩
      exact Nat.lt_of_le_of_ne hle hpart
  · exact h.withFeeder (f := { s.feeder with halfOpen := true }) h.feeder

theorem runningCross_ranged (dominant : Nat) (h : Ranged s) : Ranged (runningCross dominant s) := by
  have tested : Ranged (if s.feeder.halfOpen then sagTest dominant s else s) := by
    split
    · exact sagTest_ranged dominant h
    · exact h
  exact halfCycleEvent_ranged (tested.withFeeder
    (f := { (if s.feeder.halfOpen then sagTest dominant s else s).feeder with halfOpen := true }) tested.feeder)

theorem lostCross_ranged (h : Ranged s) : Ranged (lostCross s) := by
  unfold lostCross; split
  · exact h
  · exact h.withFeeder (f := { s.feeder with resume := some resumeMs }) h.feeder

theorem crossTaken_ranged (h : Ranged s) : Ranged (crossTaken s) := by
  obtain ⟨hwindow, hnominal, hlength, heven, hopen, hpeaks, -, hsag⟩ := h.feeder
  exact h.withFeeder ⟨hwindow, hnominal, hlength, heven, hopen, hpeaks, Nat.zero_le _, hsag⟩

theorem zeroCross_ranged (since dominant : Nat) (h : Ranged s) : Ranged (zeroCross since dominant s) := by
  unfold zeroCross; split
  · split
    · exact h
    · next hst => exact crossTaken_ranged (learnCross_ranged since hst h)
    · exact crossTaken_ranged (runningCross_ranged dominant h)
    · exact crossTaken_ranged (lostCross_ranged h)
  · exact h

theorem watchdogExpiry_ranged (h : Ranged s) : Ranged (watchdogExpiry s) := by
  obtain ⟨hwindow, hnominal, hlength, heven, -, hpeaks, hpeak, hsag⟩ := h.feeder
  unfold watchdogExpiry; split
  · split
    · exact h
    · refine reportFault_ranged _ _ (h.withFeeder ?_)
      exact ⟨hwindow, hnominal, Nat.zero_le _, rfl, fun _ => Nat.zero_lt_succ 15, fun p hp => (nomatch hp), hpeak, hsag⟩
    · refine reportFault_ranged _ _ (s := { s with feeder := _, loads := releaseLoads s.loads }) (h.withFeeder ?_)
      exact ⟨hwindow, hnominal, hlength, heven, fun hl => absurd hl (by simp), hpeaks, hpeak, Nat.zero_le _⟩
    · exact h.withFeeder (f := { s.feeder with watchdog := none, resume := none }) h.feeder
  · exact h

theorem resumeExpiry_ranged (h : Ranged s) : Ranged (resumeExpiry s) := by
  obtain ⟨hwindow, hnominal, hlength, heven, -, hpeaks, hpeak, -⟩ := h.feeder
  unfold resumeExpiry; split
  · refine reportFault_ranged _ _ (h.withFeeder ?_)
    exact ⟨hwindow, hnominal, hlength, heven, fun hl => absurd hl (by simp), hpeaks, hpeak, Nat.zero_le _⟩
  · exact h

theorem amplitudeReading_ranged (steps : Fin 1024) (h : Ranged s) : Ranged (amplitudeReading steps.val s) := by
  obtain ⟨hwindow, hnominal, hlength, heven, hopen, hpeaks, hpeak, hsag⟩ := h.feeder
  have hsteps : steps.val ≤ 1023 := Nat.le_of_lt_succ steps.isLt
  exact h.withFeeder ⟨hwindow, hnominal, hlength, heven, hopen, hpeaks, Nat.max_le.2 ⟨hpeak, hsteps⟩, hsag⟩

/-! ## Sharing and membership timers -/

theorem cadence_ranged (h : Ranged s) : Ranged (cadence s) := by
  obtain ⟨hperiods, hjoining, -, hcounts⟩ := h.member
  have told : ∀ {n : Nat}, n ≤ 7 → Ranged { s with member := { s.member with presence := n } } := fun hn =>
    h.withMember ⟨hperiods, hjoining, hn, hcounts⟩
  unfold cadence; split
  · split
    · exact loadNotice_ranged _ (told (Nat.zero_le _))
    · next hcount => exact told (Nat.le_of_lt_succ (Nat.lt_of_not_le hcount))
  · exact loadNotice_ranged _ (told le_rfl)

/-- The second period counted ends the state that counts them (R111, R112). -/
theorem memberPeriod_ranged (h : Ranged s) : Ranged (memberPeriod s) := by
  obtain ⟨-, hjoining, hcounts⟩ := h.member
  have counted : ∀ m : MemberState, s.member.periodCount ≤ 1 →
      (m = .joinListen ∨ m = .joinHold → s.member.periodCount + 1 ≤ 1) →
      Ranged { s with member := { s.member with st := m, periodCount := s.member.periodCount + 1 } } := fun m hone hm =>
    h.withMember ⟨Nat.succ_le_succ hone, hm, hcounts⟩
  have first : ∀ {m : MemberState}, s.member.st = m → s.member.periodCount ≤ 1 → s.member.periodCount + 1 ≠ joinPeriods →
      Ranged { s with member := { s.member with periodCount := s.member.periodCount + 1 } } := by
    intro m hst hone hne
    unfold joinPeriods at hne
    exact counted s.member.st hone fun _ => by omega
  unfold memberPeriod; dsimp only; split
  · next hst =>
    have hone := hjoining (.inl hst)
    split
    · exact enterJoinAsk_ranged (counted .joinAsk hone fun hm => absurd hm (by simp))
    · next hne => exact first hst hone hne
  · next hst =>
    have hone := hjoining (.inr hst)
    split
    · exact enterJoinConfirm_ranged (counted .joinConfirm hone fun hm => absurd hm (by simp))
    · next hne => exact first hst hone hne
  · exact cadence_ranged h
  all_goals exact h

theorem decreaseHold_inRange {l : LoadShare} (h : ShareInRange l) : ShareInRange (decreaseHold l) := by
  obtain ⟨hgrant, hallowance, hraise, hhold, hlimit⟩ := h
  unfold decreaseHold; split
  · exact ⟨hgrant, hallowance, hraise, hhold, hlimit⟩
  · exact ⟨hgrant, hallowance, hraise, (Nat.sub_le _ _).trans hhold, hlimit⟩

theorem ageTable_ranged (h : Ranged s) : Ranged (ageTable s) := reportFault_ranged _ _ (h.withTable h.table.aged)

theorem periodExpiry_ranged (h : Ranged s) : Ranged (periodExpiry s) := by
  have haged := ageTable_ranged h
  unfold periodExpiry; split
  · exact memberPeriod_ranged (compute_ranged (haged.withShare
      (l := { decreaseHold (ageTable s).share with period := _ }) (decreaseHold_inRange haged.share)))
  · exact h

theorem raiseExpiry_ranged (h : Ranged s) : Ranged (raiseExpiry s) := by
  obtain ⟨hgrant, hallowance, -, hhold, hlimit⟩ := h.share
  unfold raiseExpiry; split
  · exact h
  · next r _ =>
    have hcomputed := compute_ranged (h.withShare (l := { s.share with raiseReady := none })
      ⟨hgrant, hallowance, fun _ hr => (nomatch hr), hhold, hlimit⟩)
    obtain ⟨hgrant', -, hshare⟩ := hcomputed.share
    exact settle_ranged (hcomputed.withShare ⟨hgrant', (Nat.min_le_right _ _).trans hgrant', hshare⟩)

theorem limitExpiry_ranged (h : Ranged s) : Ranged (limitExpiry s) := by
  obtain ⟨hgrant, hallowance, hraise, hhold, -⟩ := h.share
  unfold limitExpiry; split
  · exact compute_ranged (h.withShare ⟨hgrant, hallowance, hraise, hhold, fun _ hv => (nomatch hv)⟩)
  · exact h

theorem dwellExpiry_ranged (h : Ranged s) : Ranged (dwellExpiry s) := by
  have dwelt : Ranged { s with member := { s.member with dwell := none } } :=
    h.withMember (m := { s.member with dwell := none }) h.member
  unfold dwellExpiry; dsimp only; split
  · split
    · exact exitIsolated_ranged dwelt
    · exact dwelt
  · exact h

/-! ## Resets and the strap window -/

theorem reset_ranged : Ranged State.reset := by
  refine ⟨reset_countsInRange, reset_tableFormed, ⟨List.nodup_nil, List.Pairwise.nil, rfl⟩, .inl rfl, ?_⟩
  unfold RequestInRange; decide

theorem freshStart_ranged (s : State) : Ranged (freshStart s) := by
  refine settle_ranged ?_
  exact ranged_of_parts reset_ranged.cycle reset_ranged.handed reset_ranged.climate reset_ranged.share reset_ranged.member
    reset_ranged.framer reset_ranged.feeder reset_ranged.faults reset_ranged.table reset_ranged.ordered reset_ranged.fromRom
    reset_ranged.request

theorem firstReadings_ranged (r0 r1 r2 rh : Int) (h : Ranged s) : Ranged (firstReadings r0 r1 r2 rh s) :=
  humidityReading_ranged rh (probeRound_ranged r0 r1 r2 h)

theorem powerOn_ranged (r0 r1 r2 rh : Int) (s : State) : Ranged (powerOn r0 r1 r2 rh s) :=
  firstReadings_ranged r0 r1 r2 rh (freshStart_ranged s)

/-- What a RESET pin keeps was in range, beside a part that has started afresh with an empty table (R139, R164, R172). -/
theorem keepLearned_ranged (h : Ranged s) : Ranged (keepLearned s (freshStart s)) := by
  have hfresh := freshStart_ranged s
  obtain ⟨hwindow, hnominal, -⟩ := h.feeder
  obtain ⟨-, hlength, hrecords, -⟩ := h.faults
  obtain ⟨-, -, -, -, hiso⟩ := h.table
  obtain ⟨hwaiting, -, -, hdisplay, hcode⟩ := hfresh.faults
  have htable : (freshStart s).table = emptyTable := settle_table _
  refine ranged_of_parts hfresh.cycle hfresh.handed hfresh.climate hfresh.share hfresh.member hfresh.framer ?_ ?_ ?_
    hfresh.ordered hfresh.fromRom hfresh.request
  · exact ⟨hwindow, hnominal, Nat.zero_le _, rfl, fun _ => Nat.zero_lt_succ 15, fun p hp => (nomatch hp), Nat.zero_le _, Nat.zero_le _⟩
  · exact ⟨hwaiting, hlength, hrecords, hdisplay, hcode⟩
  · unfold TableFormed keepLearned
    dsimp only
    rw [htable]
    exact ⟨rfl, fun _ => emptyTable_formed, entryAt_emptyTable _, fun _ => rfl, hiso⟩

theorem releaseReset_ranged (r0 r1 r2 rh : Int) (h : Ranged s) : Ranged (releaseReset r0 r1 r2 rh s) := by
  unfold releaseReset; split
  · exact firstReadings_ranged r0 r1 r2 rh (enterJoinListen_ranged (keepLearned_ranged h))
  · exact powerOn_ranged r0 r1 r2 rh s

theorem assertReset_ranged (h : Ranged s) : Ranged (assertReset s) := by
  have hended := endDisplay_ranged h
  exact ranged_of_parts hended.cycle hended.handed hended.climate hended.share hended.member (hended.framer.noFrame rfl rfl)
    hended.feeder hended.faults hended.table hended.ordered hended.fromRom hended.request

/-- The isolated allowance is a part of the largest capacity (R172). -/
theorem latchStraps_aIso_le (addr : Fin 16) (cap : Fin 8) (bank : Fin 16) : (latchStraps addr cap bank).aIso ≤ 108 := by
  have table : ∀ cap : Fin 8, capacityOf cap.val ≤ 112 := by decide
  have hcap := table cap
  have hiso : (capacityOf cap.val - controlReserve) / (bank.val + 1) ≤ capacityOf cap.val - controlReserve := Nat.div_le_self _ _
  refine hiso.trans ?_
  unfold controlReserve; omega

/-- While the strap window is open the Feeder Supervisor has not started (R139). -/
def WindowBeforeLearning (s : State) : Prop := s.straps.window.isSome = true → s.feeder.st = .notStarted

theorem strapWindowEnd_ranged (addr : Fin 16) (cap : Fin 8) (bank : Fin 16) (hwindow : WindowBeforeLearning s) (h : Ranged s) :
    Ranged (strapWindowEnd addr cap bank s) := by
  obtain ⟨hwin, hnominal, hlength, heven, hopen, hfigures⟩ := h.feeder
  obtain ⟨-, -, -, hempty, -⟩ := h.table
  unfold strapWindowEnd; split
  · next hw =>
    have hshort := hopen (.inl (hwindow hw))
    refine ranged_of_parts h.cycle h.handed h.climate h.share h.member h.framer
      ⟨hwin, hnominal, hlength, heven, fun _ => hshort, hfigures⟩ h.faults ?_ h.ordered h.fromRom h.request
    unfold TableFormed
    dsimp only
    rw [hempty hw]
    exact ⟨rfl, fun _ => emptyTable_formed, entryAt_emptyTable _, fun _ => rfl, latchStraps_aIso_le addr cap bank⟩
  · exact h

/-! ## One step -/

/-- A command whose effect keeps the ranges keeps them in reset too, where it does nothing. -/
theorem ranged_of_live {f : State → State} {t : State} (h : Ranged s) (hf : Live s → Ranged (f s)) (e : live f s = .next t) :
    Ranged t := by
  cases hr : s.inReset with
  | true =>
    rw [live_of_reset hr, Host.Outcome.next.injEq] at e
    exact e ▸ h
  | false =>
    rw [live_of_live hr, Host.Outcome.next.injEq] at e
    exact e ▸ hf hr

theorem receivedAnnounce_inRange (cls : Fin 4) (boost : Fin 8) (want claim draw : Fin 64) :
    NoticeInRange (.demand (receivedAnnounce cls boost want claim draw)) :=
  ⟨Nat.le_of_lt_succ cls.isLt, Nat.le_of_lt_succ boost.isLt, Nat.min_le_right _ _, Nat.min_le_right _ _, Nat.min_le_right _ _⟩

theorem exec_ranged (c : Instr) {t : State} (hboot : Live s → ReadsAfterBoot s) (hwindow : WindowBeforeLearning s) (h : Ranged s)
    (e : exec c s = .next t) : Ranged t := by
  have effect : ∀ {f : State → State}, Ranged (f s) → live f s = .next t → Ranged t := fun hf => ranged_of_live h fun _ => hf
  have onLine : ∀ {f : State → State} (l : Lines), Ranged (f { s with lines := l }) →
      live f { s with lines := l } = .next t → Ranged t := fun l hf => ranged_of_live (s := { s with lines := l }) h fun _ => hf
  have lined (l : Lines) : Ranged { s with lines := l } := h
  have noticed : ∀ (addr : Nat) {n : Notice}, NoticeInRange n → live (deliver addr n) s = .next t → Ranged t :=
    fun addr _ hn => ranged_of_live h fun hl => deliver_ranged addr hn (hboot hl) h
  cases c with
  | powerOnReset p0 p1 p2 rh => exact Host.Outcome.next.inj e ▸ powerOn_ranged p0 p1 p2 rh s
  | resetPinAssert => exact Host.Outcome.next.inj e ▸ assertReset_ranged h
  | resetPinRelease p0 p1 p2 rh => exact Host.Outcome.next.inj e ▸ releaseReset_ranged p0 p1 p2 rh h
  | strapWindowEnd addr cap bank => exact effect (strapWindowEnd_ranged addr cap bank hwindow h) e
  | keyLineChange key pressed =>
    have kept : ∀ (u : State) (f : KeyLine → KeyLine), Ranged u → Ranged { u with panel := onKey key f u.panel } := by
      intro u f hu; cases key <;> exact hu
    have hraw := kept s (fun k => { k with raw := pressed }) h
    exact ranged_of_live (f := fun u => { u with panel := onKey key (rawLevel pressed) u.panel }) hraw
      (fun _ => kept _ _ hraw) e
  | startPress sel2 sel1 sel0 => exact effect (startPress_ranged sel2 sel1 sel0 h) e
  | cancelPress => exact effect (cancelPress_ranged h) e
  | powerPress => exact effect (powerPress_ranged h) e
  | keyRelease key => exact effect (keyRelease_ranged key h) e
  | longPress => exact effect (longPress_ranged h) e
  | historyDisplayStep => exact effect (displayStep_ranged h) e
  | doorOpen => exact onLine _ (doorOpened_ranged (lined _)) e
  | doorClose => exact onLine _ (settle_ranged (lined _)) e
  | waterLevelChange adequate => exact onLine _ (waterReported_ranged (lined _)) e
  | lockSenseChange locked => exact onLine _ (lockReported_ranged s.lines.locked (lined _)) e
  | tachPulse => exact effect (tachPulse_ranged h) e
  | tripLineChange active =>
    exact onLine (f := fun u => evalOverTemp (settle u)) { s.lines with trip := active }
      (evalOverTemp_ranged (settle_ranged (lined _))) e
  | zeroCross since dominant => exact effect (zeroCross_ranged since dominant h) e
  | zeroCrossWatchdogExpiry => exact effect (watchdogExpiry_ranged h) e
  | resumeTimerExpiry => exact effect (resumeExpiry_ranged h) e
  | probeRound p0 p1 p2 => exact effect (probeRound_ranged p0 p1 p2 h) e
  | humiditySample rh => exact effect (humidityReading_ranged rh h) e
  | warmUpExpiry => exact effect (warmUpExpiry_ranged h) e
  | trackingExpiry => exact effect (trackingExpiry_ranged h) e
  | secondTimerExpiry => exact effect (secondExpiry_ranged h) e
  | pauseTimerExpiry => exact effect (pauseExpiry_ranged h) e
  | cancelCoolTimerExpiry => exact effect (cancelCoolExpiry_ranged h) e
  | sharePeriodExpiry => exact effect (periodExpiry_ranged h) e
  | raiseReadyExpiry => exact effect (raiseExpiry_ranged h) e
  | isolationLimitExpiry => exact effect (limitExpiry_ranged h) e
  | isolationDwellExpiry => exact effect (dwellExpiry_ranged h) e
  | tachWatchdogExpiry => exact effect (tachExpiry_ranged h) e
  | lockConfirmExpiry => exact effect (lockConfirmExpiry_ranged h) e
  | buzzerStep => exact effect (f := buzzerStep) h e
  | lampFlashToggle =>
    exact effect (f := fun u => { u with panel := { u.panel with phaseLamp := u.panel.phaseLamp.toggled } }) h e
  | idleHoldExpiry => exact effect (idleHoldExpiry_ranged h) e
  | receiveDemand addr cls boost want claim draw => exact noticed _ (receivedAnnounce_inRange cls boost want claim draw) e
  | receivePresence addr => exact noticed _ (n := .presence) trivial e
  | receiveJoinAsk addr nonce => exact noticed _ (n := .joinAsk nonce) trivial e
  | receiveJoinConfirm addr nonce held =>
    exact noticed _ (n := .joinConfirm nonce (clampPower held)) (Nat.min_le_right _ _) e
  | receiveLeave addr => exact noticed _ (n := .leave) trivial e
  | frameDiscarded => exact effect (discardFrame_ranged h) e
  | arbitrationLost bit => exact effect (loseArbitration_ranged bit h) e
  | noticeCompletion =>
    obtain ⟨-, hsending⟩ := h.framer
    unfold exec execNoticeCompletion at e
    refine effect ?_ e
    split
    · exact h
    · next x hx => exact complete_ranged (hsending x (attempt_sending hx)) h
  | attemptFailed => exact effect (failAttempt_ranged h) e
  | shedMarkSeen ownPulse inFrame => exact effect (markSeen_ranged ownPulse inFrame h) e
  | lineStuck => exact effect (stuckLine_ranged h) e
  | lineStuckRelease => exact effect (releaseStuck_ranged h) e
  | lineFreed => exact effect (lineFreed_ranged h) e
  | amplitudeSenseReading steps => exact effect (amplitudeReading_ranged steps h) e

/-- An observation of the line counts no failure and leaves the notice being sent. -/
theorem FramerReads.counts {f g : Framer} (hr : FramerReads f g) (h : FramerCounts f) : FramerCounts g := by
  obtain ⟨hfailures, hsending⟩ := h
  refine ⟨hr.failures ▸ hfailures, fun x hx => ?_⟩
  have hnotice := hr.sending
  rw [hx, Option.map_some] at hnotice
  obtain ⟨y, hy, hxy⟩ := Option.map_eq_some_iff.1 hnotice.symm
  exact hxy ▸ hsending y hy

/-- A part whose strap window is open stands by with its framer SILENT, so that it reads no frame (R17, R118, R139). -/
theorem readsAfterBoot (hsilent : SilentInStandby s) (hboot : BootQuiet s) (hl : Live s) : ReadsAfterBoot s := by
  intro hreads
  by_contra hw
  obtain ⟨hstandby, -⟩ := hboot (.inl (Option.isSome_iff_ne_none.2 hw))
  simp [reading, (hsilent hl).2 hstandby] at hreads

end

/-- Settles O60: every operation of a step keeps `Ranged`, and a frame is read after the strap window alone. -/
theorem stepKeepsRanges : Obligations.StepKeepsRanges := by
  intro s t hordered hmains hsilent hboot htable hrom hrequest hcounts e
  have h : Ranged s := ⟨hcounts, htable, hordered, hrom, hrequest⟩
  obtain ⟨-, -, -, -, -, hwindow⟩ := hmains
  have kept : Ranged t := by
    unfold step at e
    split at e
    · next c rest _ => exact exec_ranged c (s := { s with pending := rest }) (readsAfterBoot hsilent hboot) hwindow h e
    · obtain rfl : idle s = t := Host.Outcome.next.inj e
      obtain ⟨hsame, hframer, -⟩ := reads_idle s
      rw [hsame]
      exact h.withFramer (hframer.counts h.framer)
  exact ⟨kept.table, kept.counts⟩

end Sys2Proof.Machine

namespace Sys2Proof.Machine

/-! PROOFS. What a class C report leaves of the sharing, and the exit from isolation (R62, R74, R81, R111, R120, R168). -/

section
variable {s t : State}

/-! ## The sharing -/

/-- Membership, framer, load share and Peer Table are unchanged. -/
structure KeepsSharing (s t : State) : Prop where
  member : t.member = s.member
  framer : t.framer = s.framer
  share : t.share = s.share
  table : t.table = s.table

theorem KeepsSharing.refl (s : State) : KeepsSharing s s := ⟨rfl, rfl, rfl, rfl⟩

theorem KeepsSharing.trans {u : State} (h : KeepsSharing s t) (g : KeepsSharing t u) : KeepsSharing s u where
  member := g.member.trans h.member
  framer := g.framer.trans h.framer
  share := g.share.trans h.share
  table := g.table.trans h.table

theorem settle_keepsSharing (s : State) : KeepsSharing s (settle s) := ⟨by simp, by simp, by simp, by simp⟩

theorem activate_keepsSharing (s : State) : KeepsSharing s (activate s) := by
  unfold activate; dsimp only; split
  · exact ⟨rfl, rfl, rfl, rfl⟩
  · split <;> exact ⟨rfl, rfl, rfl, rfl⟩

/-- A class C kind that has just become active hands on no request that the cycle had not handed on before (R81, R168). -/
theorem cycleOnClass_activate_keepsSharing (hr : s.request = formRequest s)
    (h : s.faults.activeClass = some .c ∨ s.faults.activeClass = none) : KeepsSharing s (cycleOnClass (activate s)) := by
  rw [(cycleOnClass_activate_lineFrame hr h).2]
  exact (activate_keepsSharing s).trans (settle_keepsSharing _)

theorem raiseFault_keepsSharing_of_classC {k : FaultKind} (hk : k.cls = .c) (hr : s.request = formRequest s) :
    KeepsSharing s (raiseFault k s) := by
  have raised : KeepsSharing s { s with faults := raiseInto k s.faults } := ⟨rfl, rfl, rfl, rfl⟩
  unfold raiseFault; dsimp only; split
  · exact raised.trans (settle_keepsSharing _)
  · next hne =>
    have hact : (raiseInto k s.faults).active = some k := (raiseInto_active k s.faults).resolve_left hne
    exact raised.trans (cycleOnClass_activate_keepsSharing (hr.trans (formRequest_congr rfl rfl rfl).symm)
      (.inl (by simp [FaultUnit.activeClass, hact, hk])))

theorem withdrawCore_keepsSharing_of_classC {k : FaultKind} (hk : k.cls = .c) (ho : FaultsOrdered s.faults)
    (hr : s.request = formRequest s) : KeepsSharing s (withdrawCore k s) := by
  have withdrawn : KeepsSharing s { s with faults := withdrawFrom k s.faults } := ⟨rfl, rfl, rfl, rfl⟩
  unfold withdrawCore; dsimp only; split
  · exact withdrawn.trans (settle_keepsSharing _)
  · next hne =>
    obtain ⟨ha, hnew, -⟩ := (withdrawFrom_active k s.faults).resolve_left hne
    have hclass : (withdrawFrom k s.faults).activeClass = some .c ∨ (withdrawFrom k s.faults).activeClass = none := by
      unfold FaultUnit.activeClass
      rw [hnew]
      cases hhead : s.faults.waiting.head? with
      | none => exact .inr rfl
      | some j => exact .inl (congrArg some (head_classC ho hk ha j (List.mem_of_mem_head? hhead)))
    have hfall : cycleOnFall s.faults.activeClass (activate { s with faults := withdrawFrom k s.faults }) =
        cycleOnClass (activate { s with faults := withdrawFrom k s.faults }) := by
      unfold cycleOnFall
      exact if_neg fun hb => by simp [FaultUnit.activeClass, ha, hk] at hb
    rw [hfall]
    exact withdrawn.trans (cycleOnClass_activate_keepsSharing (hr.trans (formRequest_congr rfl rfl rfl).symm) hclass)

/-- A report of class C, either way, leaves the sharing as it is (R81, R168). -/
theorem reportFault_keepsSharing_of_classC {k : FaultKind} (hk : k.cls = .c) (b : Bool) (hl : Live s)
    (ho : FaultsOrdered s.faults) (hr : RequestFresh s) (hw : LockWatched s) : KeepsSharing s (reportFault k b s) := by
  unfold reportFault; split
  · exact .refl s
  · split
    · rw [checkLock_raiseFault_of_classC hk hl ho hw]
      exact raiseFault_keepsSharing_of_classC hk (hr hl)
    · obtain ⟨hframe, hlock, ha, hwait⟩ := withdrawCore_lineFrame_of_classC hk ho (hr hl)
      obtain ⟨⟨-, hlines, -⟩, -⟩ := hframe
      obtain ⟨hcommand, -⟩ := hw hl
      have hheld : (withdrawCore k s).faults.holds .lockFault = true → s.faults.holds .lockFault = true := fun h =>
        ((withdrawFrom_holds ho .lockFault k).1 ((holds_of_lists ha hwait .lockFault) ▸ h)).2
      unfold withdrawFault
      rw [checkLock_of_watched hl hw (hlock.trans hcommand.symm) hlines hheld]
      exact withdrawCore_keepsSharing_of_classC hk ho (hr hl)

/-! ## A change of the Peer Table -/

/-- The Peer Table written as `p` with BANK_OVERFLOW following it, before the computation (R74). -/
def tableReported (p : List Entry) (s : State) : State :=
  reportFault .bankOverflow (overflows s.straps.bankSize p) { s with table := p }

/-- What writing the Peer Table as `p` leaves: BANK_OVERFLOW follows the table, and nothing else of the sharing changes (R74). -/
structure TableWritten (p : List Entry) (s t : State) : Prop where
  sharing : KeepsSharing { s with table := p } t
  overflow : OverflowFollows t
  others : ∀ j, j ≠ .bankOverflow → j ≠ .waterEmpty → j ≠ .lockFault → t.faults.holds j = s.faults.holds j
  frame : LineFrame s t

theorem tableWritten_tableReported (p : List Entry) (hl : Live s) (ho : FaultsOrdered s.faults) (hr : RequestFresh s)
    (hw : LockWatched s) : TableWritten p s (tableReported p s) := by
  have hkeep : KeepsSharing { s with table := p } (tableReported p s) :=
    reportFault_keepsSharing_of_classC rfl (overflows s.straps.bankSize p) hl ho hr hw
  have htaken : ReportTaken .bankOverflow (overflows s.straps.bankSize p) { s with table := p } (tableReported p s) :=
    reportTaken_reportFault (by decide) (by decide) (overflows s.straps.bankSize p) ho
  obtain ⟨hframe, -⟩ := reportFault_lineFrame_of_classC (k := .bankOverflow) (s := { s with table := p }) rfl
    (overflows s.straps.bankSize p) hl ho (hr hl) hw
  obtain ⟨⟨hstraps, -⟩, -⟩ := id hframe
  refine ⟨hkeep, ?_, htaken.others, LineFrame.trans (t := { s with table := p }) (.refl s) hframe⟩
  unfold OverflowFollows
  rw [htaken.reported, hkeep.table, show (tableReported p s).straps = s.straps from hstraps]
  rfl

/-- What a completed change of the Peer Table to `p` leaves: the computation has read the new table (R74, R75). -/
structure TableSet (p : List Entry) (s t : State) : Prop where
  table : t.table = p
  overflow : OverflowFollows t
  member : t.member = s.member
  framer : t.framer = s.framer
  raiseReady : t.share.raiseReady = s.share.raiseReady
  shedding : KeepsShedding s t
  grant : t.share.grant = grantOf t
  allowance : t.share.allowance ≤ t.share.grant
  others : ∀ j, j ≠ .bankOverflow → j ≠ .waterEmpty → j ≠ .lockFault → t.faults.holds j = s.faults.holds j
  frame : LineFrame s t

theorem tableSet_setTable (p : List Entry) (hl : Live s) (ho : FaultsOrdered s.faults) (hr : RequestFresh s) (hw : LockWatched s) :
    TableSet p s (setTable p s) := by
  have hwritten := tableWritten_tableReported p hl ho hr hw
  have hset : setTable p s = compute (tableReported p s) := rfl
  obtain ⟨htable, hgrant⟩ := setTable_table p s
  obtain ⟨-, -, -, -, hshed, -⟩ := compute_cabinetFrame (tableReported p s)
  have hshare : (tableReported p s).share = s.share := hwritten.sharing.share
  unfold KeepsShedding at hshed
  rw [hshare] at hshed
  have hoverflow : OverflowFollows (compute (tableReported p s)) := by
    unfold OverflowFollows
    rw [compute_faults, compute_straps, compute_table]
    exact hwritten.overflow
  exact {
    table := htable
    overflow := hoverflow
    member := (compute_member _).trans hwritten.sharing.member
    framer := (compute_framer _).trans hwritten.sharing.framer
    raiseReady := (compute_share_raiseReady _).trans (congrArg LoadShare.raiseReady hshare)
    shedding := hshed
    grant := hgrant
    allowance := compute_allowance_le _
    others := fun j hj jw jl => by
      rw [hset, compute_faults]
      exact hwritten.others j hj jw jl
    frame := setTable_lineFrame p hl ho (hr hl) hw }

/-! ## The exit from isolation -/

/-- The station has left ISOLATED and listens to the Share Line afresh (R62, R80, R111, R120). -/
structure IsolationLeft (s t : State) : Prop where
  member : t.member =
    { s.member with st := .joinListen, periodCount := 0, refWant := 0, joinNonce := none, dwell := none, lineFree := false }
  table : t.table = emptyTable
  period : t.share.period = some s.straps.periodMs
  allowance : t.share.allowance = 0
  hold : t.share.hold = s.share.hold
  failures : t.framer.failures = 0
  isolated : t.faults.holds .lineIsolated = s.faults.holds .lineIsolated
  frame : LineFrame s t

theorem framerListens_failures (f : Framer) : (framerListens f).failures = 0 := by
  unfold framerListens; split <;> rfl

theorem isolationLeft_exitIsolated (hl : Live s) (ho : FaultsOrdered s.faults) (hr : RequestFresh s) (hw : LockWatched s) :
    IsolationLeft s (exitIsolated s) := by
  have hset := tableSet_setTable emptyTable (s := { s with member := { s.member with dwell := none, lineFree := false } }) hl ho hr hw
  obtain ⟨⟨hstraps, -⟩, -⟩ := hset.frame
  obtain ⟨-, hhold, -⟩ := hset.shedding
  unfold exitIsolated enterJoinListen
  exact {
    member := by simp [setMember, hset.member]
    table := by simp [setMember, hset.table]
    period := by simp [setMember, hstraps]
    allowance := (setMember_powerless (by simp [Powerless]) _).2
    hold := by simp [setMember, hhold]
    failures := by simp [setMember, framerListens_failures]
    isolated := by
      simp only [setMember, compute_faults]
      exact hset.others .lineIsolated (by decide) (by decide) (by decide)
    frame := LineFrame.trans (t := setTable emptyTable { s with member := { s.member with dwell := none, lineFree := false } })
      hset.frame (enterJoinListen_lineFrame _) }

end

/-- Settles O49: each of the two moments makes its mark while the other is still to come, and leaves ISOLATED after it. -/
theorem isolationEndsOnFreeLine : Obligations.IsolationEndsOnFreeLine := by
  intro s hl hst ho hr hw
  refine ⟨fun hdwell hfree => ?_, fun hread hfreed hdwell => ?_, fun hdwell hfree => ?_, fun hread hfreed hdwell => ?_⟩
  · refine (live_of_live hl dwellExpiry).trans (congrArg _ ?_)
    simp [dwellExpiry, hdwell, hfree]
  · refine (live_of_live hl lineFreed).trans (congrArg _ ?_)
    simp [lineFreed, hread, hfreed, hst, hdwell]
  · have hexit : dwellExpiry s = exitIsolated { s with member := { s.member with dwell := none } } := by
      simp [dwellExpiry, hdwell, hst, hfree]
    have hleft := isolationLeft_exitIsolated (s := { s with member := { s.member with dwell := none } }) hl ho hr hw
    refine ⟨_, (live_of_live hl dwellExpiry).trans (congrArg _ hexit), ?_⟩
    rw [hleft.member]
    exact ⟨rfl, rfl, rfl, rfl, rfl, hleft.table, hleft.period, hleft.allowance, hleft.hold, hleft.failures, hleft.isolated,
      hleft.frame⟩
  · have hexit : lineFreed s = exitIsolated { s with framer := { s.framer with lineFreed := none } } := by
      simp [lineFreed, hread, hfreed, hst, hdwell]
    have hleft := isolationLeft_exitIsolated (s := { s with framer := { s.framer with lineFreed := none } }) hl ho hr hw
    refine ⟨_, (live_of_live hl lineFreed).trans (congrArg _ hexit), ?_⟩
    rw [hleft.member]
    exact ⟨rfl, rfl, hleft.table, hleft.period, hleft.allowance, hleft.failures, hleft.frame⟩

end Sys2Proof.Machine

namespace Sys2Proof.Machine

/-! PROOFS. The end of a received frame at the notice slot, and what it leaves after a notice that only writes the Peer Table or after
no notice at all (R63 to R68, R93, R104 to R107, R123). -/

section
variable {s t u : State}

/-! ## The slot filled while the framer has a frame to end -/

/-- A filled slot holds the notice as the state it leaves forms it (R104, R105). -/
theorem fillSlot_newest (k : NoticeKind) (s : State) :
    (fillSlot k s).member.slot = some (formNotice k (fillSlot k s)) := by
  rw [fillSlot_slot]
  cases k <;> simp [formNotice, fillSlot]

theorem fillSlot_allowance_le (k : NoticeKind) (s : State) : (fillSlot k s).share.allowance ≤ (fillSlot k s).share.grant := by
  unfold fillSlot; dsimp only
  rw [handFramer_share]
  exact compute_allowance_le _

/-- In the states that R89 gives no power the grant is 0. -/
theorem grantOf_of_powerless (h : Powerless s.member.st) : grantOf s = 0 := by
  rcases h with h | h | h | h | h <;> simp [grantOf, baseGrant, h]

/-- Where no power is granted, a filled slot leaves none (R89, R91). -/
theorem fillSlot_powerless {k : NoticeKind} (h : Powerless s.member.st) : (fillSlot k s).share.allowance = 0 := by
  have hgrant := fillSlot_grant k s
  have hle := fillSlot_allowance_le k s
  have hzero := grantOf_of_powerless h
  omega

theorem fillSlot_framer_of_receiving {k : NoticeKind} (h : s.framer.st = .receiving) : (fillSlot k s).framer = s.framer := by
  simp [fillSlot, handFramer, h]

theorem fillSlot_inFlight_of_receiving {k : NoticeKind} (h : s.framer.st = .receiving) :
    (fillSlot k s).member.inFlight = s.member.inFlight := by
  simp [fillSlot, handFramer, h]

theorem loadNotice_of_free {k : NoticeKind} (h : s.member.inFlight = false) :
    loadNotice k s =
      fillSlot (slotKeeps k s.member.slot) { s with member := noteLoad k (slotKeeps k s.member.slot) s.member } := by
  simp [loadNotice, h]

/-- Counting a load touches neither the notice nor what is held over. -/
theorem noteLoad_keeps (k kept : NoticeKind) (m : Membership) :
    (noteLoad k kept m).slot = m.slot ∧ (noteLoad k kept m).inFlight = m.inFlight ∧
      (noteLoad k kept m).heldOver = m.heldOver := by
  cases k with
  | presence => unfold noteLoad; dsimp only; split <;> exact ⟨rfl, rfl, rfl⟩
  | _ => exact ⟨rfl, rfl, rfl⟩

/-- The notice that stands in a MEMBER's slot once a PRESENCE has fallen due there: a DEMAND that waited, with the newest figures, or
the PRESENCE (R104). -/
def presenceOver (slot : Option Notice) (t : State) : Notice :=
  match slot with
  | some (.demand _) => newestDemand t
  | _ => .presence

theorem formNotice_slotKeeps_presence (hs : SlotFits s) (hm : s.member.st = .member) (t : State) :
    formNotice (slotKeeps .presence s.member.slot) t = presenceOver s.member.slot t := by
  obtain ⟨hkind, -⟩ := hs
  cases hslot : s.member.slot with
  | none => rfl
  | some n =>
    have hk : n.kind = .demand ∨ n.kind = .presence := by simpa [hm, SlotKindFits] using hkind n hslot
    cases n with
    | demand a => rfl
    | presence => rfl
    | _ => simp [Notice.kind] at hk

/-! ## The end of an attempt -/

/-- The state with its attempt over: nothing is in flight or held over (R106, R107). -/
def attemptOver (s : State) : State := { s with member := { s.member with inFlight := false, heldOver := none } }

theorem endAttempt_of_empty (hheld : s.member.heldOver = none) (hslot : s.member.slot = none) :
    endAttempt s = attemptOver s := by
  simp [endAttempt, hheld, refreshSlot, hslot, attemptOver]

theorem endAttempt_of_waiting {n : Notice} (hheld : s.member.heldOver = none) (hslot : s.member.slot = some n) :
    endAttempt s = fillSlot n.kind (attemptOver s) := by
  simp [endAttempt, hheld, refreshSlot, hslot, attemptOver]

theorem endAttempt_of_held {k : NoticeKind} (hheld : s.member.heldOver = some k) :
    endAttempt s =
      fillSlot (slotKeeps k s.member.slot)
        { attemptOver s with member := noteLoad k (slotKeeps k s.member.slot) (attemptOver s).member } := by
  have hload : endAttempt s = loadNotice k (attemptOver s) := by simp [endAttempt, hheld, attemptOver]
  exact hload.trans (loadNotice_of_free rfl)

/-- What is always so at the end of an attempt while the framer has a frame to end: the framer waits for that end, and nothing is in
flight or held over. -/
theorem endAttempt_of_receiving (h : s.framer.st = .receiving) :
    (endAttempt s).framer = s.framer ∧ (endAttempt s).member.inFlight = false ∧ (endAttempt s).member.heldOver = none := by
  cases hheld : s.member.heldOver with
  | some k =>
    obtain ⟨-, hflight, hover⟩ := noteLoad_keeps k (slotKeeps k s.member.slot) (attemptOver s).member
    rw [endAttempt_of_held hheld, fillSlot_framer_of_receiving (by exact h), fillSlot_inFlight_of_receiving (by exact h),
      fillSlot_member_heldOver]
    exact ⟨rfl, hflight, hover⟩
  | none =>
    cases hslot : s.member.slot with
    | none => rw [endAttempt_of_empty hheld hslot]; exact ⟨rfl, rfl, rfl⟩
    | some n =>
      rw [endAttempt_of_waiting hheld hslot]
      exact ⟨fillSlot_framer_of_receiving h, fillSlot_inFlight_of_receiving h, fillSlot_member_heldOver _ _⟩

/-! ## The framer at the end of its frame -/

theorem framerRest_of_receiving (h : s.framer.st = .receiving) :
    (framerRest s).framer = { s.framer.stopFrame with st := restState s, reception := none } := by
  unfold framerRest; rw [if_pos (.inl h)]

theorem formNotice_framerRest (k : NoticeKind) (s : State) : formNotice k (framerRest s) = formNotice k s := by
  cases k <;> simp [formNotice]

/-- A slot filled before the framer comes to rest holds the newest figures after it too (R105). -/
theorem framerRest_fillSlot_newest (k : NoticeKind) (s : State) :
    (framerRest (fillSlot k s)).member.slot = some (formNotice k (framerRest (fillSlot k s))) := by
  rw [framerRest_member, fillSlot_newest, formNotice_framerRest]

/-- A load held over behind the attempt that the frame ends is applied (R107). -/
theorem heldLoaded_of_receiving (h : s.framer.st = .receiving) (hs : SlotFits s) (hheld : s.member.heldOver.isSome = true) :
    HeldLoaded s (framerRest (endAttempt s)) := by
  obtain ⟨-, hflight, hover⟩ := endAttempt_of_receiving h
  obtain ⟨k, hk⟩ := Option.isSome_iff_exists.1 hheld
  obtain ⟨-, -, hheldFits, -⟩ := id hs
  obtain ⟨-, hkind⟩ := hheldFits k hk
  have member_of_ne : k ≠ .leave → s.member.st = .member := by
    intro hne
    split at hkind
    · exact absurd hkind hne
    · exact hkind.1
  refine ⟨by rw [framerRest_member]; exact hover, by rw [framerRest_member]; exact hflight, ?_, fun hl => ?_, fun hd => ?_, fun hp => ?_⟩
  · rw [framerRest_share, endAttempt_of_held hk, fillSlot_share_raiseReady]
  · rw [endAttempt_of_held hl, slotKeeps_leave, framerRest_fillSlot_newest]; rfl
  · have hm := member_of_ne (Option.some.inj (hk.symm.trans hd) ▸ by decide)
    rw [endAttempt_of_held hd, slotKeeps_demand_of_member hs hm]
    refine ⟨framerRest_fillSlot_newest .demand _, ?_, ?_⟩
    · rw [framerRest_member, fillSlot_refWant]; rfl
    · rw [framerRest_member, fillSlot_member_presence]; rfl
  · have hm := member_of_ne (Option.some.inj (hk.symm.trans hp) ▸ by decide)
    rw [endAttempt_of_held hp, framerRest_fillSlot_newest, formNotice_slotKeeps_presence hs hm]
    rfl

/-- The end of a received frame at the own slot and the framer (R93, R104 to R107, R123, R134). -/
theorem frameEnded_of_receiving (h : s.framer.st = .receiving) : FrameEnded s (framerRest (endAttempt s)) := by
  obtain ⟨hframer, hflight, -⟩ := endAttempt_of_receiving h
  have hrest := framerRest_of_receiving (s := endAttempt s) (by rw [hframer]; exact h)
  have refreshed : ∀ {n : Notice}, s.member.slot = some n → s.member.heldOver = none →
      framerRest (endAttempt s) = framerRest (fillSlot n.kind (attemptOver s)) := fun hslot hheld => by
    rw [endAttempt_of_waiting hheld hslot]
  refine ⟨by rw [hrest, framerRest_member]; rfl, by rw [hrest], by rw [hrest]; rfl, by rw [hrest, hframer]; rfl,
    fun hslot hheld => ?_, fun n hslot hheld => ⟨?_, ?_, ?_⟩, fun a hslot hheld => ⟨?_, ?_⟩,
    fun hheld hs => heldLoaded_of_receiving h hs hheld⟩
  · rw [framerRest_member, framerRest_share, endAttempt_of_empty hheld hslot]
    exact ⟨hslot, rfl⟩
  · rw [refreshed hslot hheld]; exact framerRest_fillSlot_newest _ _
  · rw [framerRest_member]; exact hflight
  · rw [refreshed hslot hheld, framerRest_share, fillSlot_share_raiseReady]
  · rw [refreshed hslot hheld]; exact framerRest_fillSlot_newest .demand _
  · rw [refreshed hslot hheld, framerRest_member, fillSlot_refWant]; rfl

/-! ## The frame read before its end -/

/-- What the end of a frame reads stands as it did before the frame: the own notice, the membership, the framer's attempt and the want. -/
structure SlotStands (s u : State) : Prop where
  st : u.member.st = s.member.st
  slot : u.member.slot = s.member.slot
  inFlight : u.member.inFlight = s.member.inFlight
  heldOver : u.member.heldOver = s.member.heldOver
  sending : u.framer.sending = s.framer.sending
  failures : u.framer.failures = s.framer.failures
  raiseReady : u.share.raiseReady = s.share.raiseReady
  request : u.request = s.request

theorem SlotStands.trans (h : SlotStands s t) (g : SlotStands t u) : SlotStands s u where
  st := g.st.trans h.st
  slot := g.slot.trans h.slot
  inFlight := g.inFlight.trans h.inFlight
  heldOver := g.heldOver.trans h.heldOver
  sending := g.sending.trans h.sending
  failures := g.failures.trans h.failures
  raiseReady := g.raiseReady.trans h.raiseReady
  request := g.request.trans h.request

theorem SlotStands.slotFits (h : SlotStands s u) (hs : SlotFits s) : SlotFits u := by
  unfold SlotFits
  rw [h.st, h.slot, h.inFlight, h.heldOver, h.sending]
  exact hs

theorem SlotStands.heldLoaded (h : SlotStands s u) (he : HeldLoaded u t) : HeldLoaded s t := by
  unfold HeldLoaded at he
  rw [h.heldOver, h.request, h.slot] at he
  exact he

theorem SlotStands.frameEnded (h : SlotStands s u) (he : FrameEnded u t) : FrameEnded s t := by
  obtain ⟨hst, hreception, hsending, hfailures, hempty, hwaiting, hdemand, hheld⟩ := he
  rw [h.failures] at hfailures
  rw [h.slot, h.heldOver, h.raiseReady] at hempty
  rw [h.slot, h.heldOver] at hwaiting
  rw [h.slot, h.heldOver, h.request] at hdemand
  rw [h.heldOver] at hheld
  exact ⟨hst, hreception, hsending, hfailures, hempty, hwaiting, hdemand, fun hs hf => h.heldLoaded (hheld hs (h.slotFits hf))⟩

/-- A frame seen by the framer touches the framer and line free alone (R120, R124). -/
theorem frameSeen_eq (s : State) :
    frameSeen s =
      { s with
        framer := touchLine { s.framer with st := .receiving }
        member := { s.member with lineFree := if s.member.st = .isolated then false else s.member.lineFree } } := by
  unfold frameSeen clearLineFree
  by_cases h : s.member.st = .isolated <;> simp [h]

theorem frameSeen_framer (s : State) : (frameSeen s).framer = touchLine { s.framer with st := .receiving } := by
  rw [frameSeen_eq]

theorem frameSeen_member (s : State) :
    (frameSeen s).member =
      { s.member with lineFree := if s.member.st = .isolated then false else s.member.lineFree } := by
  rw [frameSeen_eq]

theorem frameSeen_slotStands (s : State) : SlotStands s (frameSeen s) := by
  rw [frameSeen_eq]; exact ⟨rfl, rfl, rfl, rfl, rfl, rfl, rfl, rfl⟩

theorem reading_iff (s : State) :
    reading s = true ↔ s.framer.st = .listen ∨ s.framer.st = .waiting ∨ s.framer.st = .receiving := by
  simp [reading, or_assoc]

/-! ## The computation at the end of a frame -/

/-- The grant has been computed from the state as it stands, and the allowance is within it (R81, R88, R91). -/
def Computed (s : State) : Prop := s.share.grant = grantOf s ∧ s.share.allowance ≤ s.share.grant

theorem compute_computed (s : State) : Computed (compute s) :=
  ⟨(compute_share_grant s).trans (grantOf_congr (by simp) (by simp) (by simp) (by simp) (by simp) (by simp)).symm,
    compute_allowance_le s⟩

theorem fillSlot_computed (k : NoticeKind) (s : State) : Computed (fillSlot k s) :=
  ⟨(fillSlot_grant k s).trans (grantOf_congr (by simp) (by simp) (by simp) (by simp) (by simp) (by simp)).symm,
    fillSlot_allowance_le k s⟩

theorem loadNotice_computed (k : NoticeKind) (h : Computed s) : Computed (loadNotice k s) := by
  unfold loadNotice; split
  · exact h
  · exact fillSlot_computed _ _

theorem endAttempt_computed (h : Computed s) : Computed (endAttempt s) := by
  cases hheld : s.member.heldOver with
  | some k => rw [endAttempt_of_held hheld]; exact fillSlot_computed _ _
  | none =>
    cases hslot : s.member.slot with
    | none => rw [endAttempt_of_empty hheld hslot]; exact h
    | some n => rw [endAttempt_of_waiting hheld hslot]; exact fillSlot_computed _ _

theorem framerRest_computed (h : Computed s) : Computed (framerRest s) := by
  unfold framerRest; split
  · exact h
  · exact h

/-! ## The end of a frame, as a whole -/

/-- The end of a frame changes no entry, no fault and nothing of the standing and the shedding. -/
theorem endFrame_keeps (s : State) :
    (framerRest (endAttempt s)).table = s.table ∧ KeepsStanding s (framerRest (endAttempt s)) ∧
      KeepsShedding s (framerRest (endAttempt s)) ∧ LineFrame s (framerRest (endAttempt s)) := by
  obtain ⟨-, htable, -, hstanding, hshed, -⟩ := endAttempt_cabinetFrame s
  refine ⟨by rw [framerRest_table]; exact htable, ?_, ?_, (endAttempt_lineFrame s).trans (framerRest_lineFrame _)⟩
  · unfold KeepsStanding; rw [framerRest_member]; exact hstanding
  · unfold KeepsShedding; rw [framerRest_share]; exact hshed

theorem endFrame_faults (s : State) : (framerRest (endAttempt s)).faults = s.faults := by
  rw [framerRest_faults]
  cases hheld : s.member.heldOver with
  | some k => rw [endAttempt_of_held hheld, fillSlot_faults]; rfl
  | none =>
    cases hslot : s.member.slot with
    | none => rw [endAttempt_of_empty hheld hslot]; rfl
    | some n => rw [endAttempt_of_waiting hheld hslot, fillSlot_faults]; rfl

end
end Sys2Proof.Machine

namespace Sys2Proof.Machine

/-! PROOFS. A discarded frame, and a received notice from another address (R63 to R68, R74, R75, R93, R104 to R107, R128). -/

section
variable {s t u : State}

theorem frameSeen_keeps (s : State) :
    (frameSeen s).table = s.table ∧ (frameSeen s).faults = s.faults ∧ KeepsShedding s (frameSeen s) ∧
      (frameSeen s).member.st = s.member.st := by
  rw [frameSeen_eq]; exact ⟨rfl, rfl, .refl s, rfl⟩

theorem frameSeen_receiving (s : State) : (frameSeen s).framer.st = .receiving := by rw [frameSeen_framer]; rfl

/-- A frame that ends with no other effect ends for the own slot as it stood before the frame (R106). -/
theorem frameEnded_frameSeen (s : State) : FrameEnded s (framerRest (endAttempt (frameSeen s))) :=
  (frameSeen_slotStands s).frameEnded (frameEnded_of_receiving (frameSeen_receiving s))

theorem endFrame_frameSeen_keeps (s : State) :
    (framerRest (endAttempt (frameSeen s))).table = s.table ∧ (framerRest (endAttempt (frameSeen s))).faults = s.faults ∧
      (framerRest (endAttempt (frameSeen s))).member.st = s.member.st ∧
      KeepsShedding s (framerRest (endAttempt (frameSeen s))) ∧ LineFrame s (framerRest (endAttempt (frameSeen s))) := by
  obtain ⟨htable, hfaults, hshed, hst⟩ := frameSeen_keeps s
  obtain ⟨htable', hstanding, hshed', hframe⟩ := endFrame_keeps (frameSeen s)
  obtain ⟨hst', -⟩ := (keepsStanding_iff _ _).1 hstanding
  exact ⟨htable'.trans htable, (endFrame_faults _).trans hfaults, hst'.trans hst, hshed.trans hshed',
    (frameSeen_lineFrame s).trans hframe⟩

/-- What the end of a frame leaves over an empty slot with nothing held over: the framer at rest with its timers started, the notice
not in flight, and in ISOLATED line free clear (R106, R120, R123, R124). -/
theorem endFrame_of_empty (hheld : s.member.heldOver = none) (hslot : s.member.slot = none) :
    framerRest (endAttempt (frameSeen s)) =
      { s with
        framer := (framerRest (endAttempt (frameSeen s))).framer
        member :=
          { s.member with
            inFlight := false
            lineFree := if s.member.st = .isolated then false else s.member.lineFree } } := by
  have hstands := frameSeen_slotStands s
  rw [endAttempt_of_empty (hstands.heldOver.trans hheld) (hstands.slot.trans hslot), frameSeen_eq]
  simp [framerRest, attemptOver, touchLine, hheld]

theorem endFrame_idleHold (s : State) : (framerRest (endAttempt (frameSeen s))).framer.idleHold = some 12 := by
  obtain ⟨hframer, -⟩ := endAttempt_of_receiving (frameSeen_receiving s)
  rw [framerRest_framer_idleHold, hframer, frameSeen_framer]
  rfl

theorem FrameEnded.waiting (h : FrameEnded s t) (hslot : t.member.slot.isSome = true) : t.framer.st = .waiting := by
  obtain ⟨hst, -⟩ := h
  rw [hst, if_pos hslot]

theorem FrameEnded.listen (h : FrameEnded s t) (hslot : t.member.slot = none) : t.framer.st = .listen := by
  obtain ⟨hst, -⟩ := h
  rw [hst, hslot]; rfl

/-- A load held over leaves a notice in the slot. -/
theorem endFrame_slot_of_held (hheld : s.member.heldOver.isSome = true) :
    (framerRest (endAttempt s)).member.slot.isSome = true := by
  obtain ⟨k, hk⟩ := Option.isSome_iff_exists.1 hheld
  rw [endAttempt_of_held hk, framerRest_fillSlot_newest]; rfl

/-! ## A notice from another address -/

theorem frameSeen_fresh (h : RequestFresh s) : RequestFresh (frameSeen s) := by
  rw [frameSeen_eq]
  exact fun hl => (h hl).trans (formRequest_congr rfl rfl rfl).symm

theorem frameSeen_lockWatched (h : LockWatched s) : LockWatched (frameSeen s) := by rw [frameSeen_eq]; exact h

/-- What a notice from another address leaves, its entry in the table being `p` (R63, R74, R75, R106). -/
def EntryTaken (p : List Entry) (s t : State) : Prop :=
  t.table = p ∧ OverflowFollows t ∧ t.share.grant = grantOf t ∧ t.share.allowance ≤ t.share.grant ∧ t.member.st = s.member.st ∧
    FrameEnded s t ∧ LineFrame s t

theorem TableSet.slotStands {p : List Entry} (h : TableSet p s t) : SlotStands s t := by
  obtain ⟨-, -, -, -, -, hrequest, -⟩ := h.frame
  exact ⟨by rw [h.member], by rw [h.member], by rw [h.member], by rw [h.member], by rw [h.framer], by rw [h.framer],
    h.raiseReady, hrequest⟩

/-- The end of the frame after a change of the table keeps that table, its overflow and its grant. -/
theorem TableSet.endFrame {p : List Entry} (h : TableSet p s t) (hrec : s.framer.st = .receiving) :
    EntryTaken p s (framerRest (endAttempt t)) := by
  obtain ⟨htable, hstanding, -, hframe⟩ := endFrame_keeps t
  obtain ⟨hst, -⟩ := (keepsStanding_iff _ _).1 hstanding
  obtain ⟨⟨hstraps, -⟩, -⟩ := id hframe
  obtain ⟨hgrant, hallowance⟩ := framerRest_computed (endAttempt_computed ⟨h.grant, h.allowance⟩)
  have hoverflow : OverflowFollows (framerRest (endAttempt t)) := by
    unfold OverflowFollows
    rw [endFrame_faults, hstraps, htable]
    exact h.overflow
  exact ⟨htable.trans h.table, hoverflow, hgrant, hallowance, hst.trans h.slotStands.st,
    h.slotStands.frameEnded (frameEnded_of_receiving (by rw [h.framer]; exact hrec)), h.frame.trans hframe⟩

/-- A notice from another address sets the entry there by its kind (R63 to R68). -/
theorem entryTaken_deliver {addr : Nat} (n : Notice) (hl : Live s) (hne : addr ≠ s.straps.address)
    (hread : s.framer.st = .listen ∨ s.framer.st = .waiting ∨ s.framer.st = .receiving) (ho : FaultsOrdered s.faults)
    (hr : RequestFresh s) (hw : LockWatched s) :
    EntryTaken (s.table.set addr (noticeEntry s.straps.aIso n (entryAt s.table addr))) s (deliver addr n s) := by
  obtain ⟨htable, hfaults, -, hst⟩ := frameSeen_keeps s
  have hframe := frameSeen_lineFrame s
  obtain ⟨⟨hstraps, -, hreset, -⟩, -⟩ := id hframe
  have hset := tableSet_setTable (s := frameSeen s) (s.table.set addr (noticeEntry s.straps.aIso n (entryAt s.table addr)))
    (hreset.trans hl) (hfaults ▸ ho) (frameSeen_fresh hr) (frameSeen_lockWatched hw)
  have hdeliver : deliver addr n s = framerRest (endAttempt
      (setTable (s.table.set addr (noticeEntry s.straps.aIso n (entryAt s.table addr))) (frameSeen s))) := by
    unfold deliver; dsimp only
    rw [if_pos ((reading_iff s).2 hread), hstraps, if_neg hne, htable]
  obtain ⟨htaken, hoverflow, hgrant, hallowance, hst', hended, hframe'⟩ := hset.endFrame (frameSeen_receiving s)
  rw [hdeliver]
  exact ⟨htaken, hoverflow, hgrant, hallowance, hst'.trans hst, (frameSeen_slotStands s).frameEnded hended,
    hframe.trans hframe'⟩

end

/-- Settles O45: the end of a frame that is no notice, by what the slot holds and what is held over. -/
theorem discardRefreshesSlot : Obligations.DiscardRefreshesSlot := by
  intro s hl hread
  have hexec : exec .frameDiscarded s = .next (framerRest (endAttempt (frameSeen s))) :=
    (live_of_live hl discardFrame).trans (congrArg _ (if_pos ((reading_iff s).2 hread)))
  have hended := frameEnded_frameSeen s
  obtain ⟨-, hreception, -, hfailures, hempty, -, -, hheldOver⟩ := id hended
  obtain ⟨htable, hfaults, hst, hshed, hframe⟩ := endFrame_frameSeen_keeps s
  have hstands := frameSeen_slotStands s
  refine ⟨fun hheld hslot => ⟨_, hexec, ?_⟩, fun a hheld hslot => ⟨_, hexec, ?_⟩, fun hheld hs => ⟨_, hexec, ?_⟩⟩
  · obtain ⟨hslot', -⟩ := hempty hslot hheld
    exact ⟨endFrame_of_empty hheld hslot, hended.listen hslot', hreception, hfailures, endFrame_idleHold s⟩
  · obtain ⟨-, -, -, -, -, hwaiting, hdemand, -⟩ := id hended
    obtain ⟨hslot', hrefWant⟩ := hdemand a hslot hheld
    obtain ⟨-, hflight, hready⟩ := hwaiting _ hslot hheld
    have hfilled : (framerRest (endAttempt (frameSeen s))).share = (fillSlot .demand (attemptOver (frameSeen s))).share := by
      rw [framerRest_share, endAttempt_of_waiting (hstands.heldOver.trans hheld) (hstands.slot.trans hslot)]
      rfl
    have hgrant : (fillSlot .demand (attemptOver (frameSeen s))).share.grant = grantOf s := by
      rw [fillSlot_grant, frameSeen_eq]
      exact grantOf_congr rfl rfl rfl rfl rfl rfl
    have hallowance := fillSlot_allowance_le .demand (attemptOver (frameSeen s))
    rw [hgrant, ← hfilled] at hallowance
    exact ⟨hslot', hrefWant, hflight, hready, by rw [hfilled, hgrant], hallowance, hended.waiting (by rw [hslot']; rfl), hfailures,
      htable, hfaults, hshed, hframe⟩
  · exact ⟨hheldOver hheld hs, hst, hended.waiting (endFrame_slot_of_held (by rw [hstands.heldOver]; exact hheld)), hfailures,
      htable, hfaults, hshed, hframe⟩

/-- Settles O43: one argument for the five kinds, each entry being the one its notice writes. -/
theorem receivedNoticeSetsEntry : Obligations.ReceivedNoticeSetsEntry := by
  intro addr cls boost want claim draw held nonce s hl hne hread ho hr hw
  have taken := fun n : Notice => entryTaken_deliver n hl hne hread ho hr hw
  have delivered := fun n : Notice => live_of_live hl (deliver addr.val n)
  refine ⟨⟨_, delivered (.demand (receivedAnnounce cls boost want claim draw)), taken _⟩, ⟨_, delivered .presence, taken _⟩,
    ⟨_, delivered (.joinAsk nonce), ?_⟩, ⟨_, delivered (.joinConfirm nonce (clampPower held)), taken _⟩,
    ⟨_, delivered .leave, taken _⟩⟩
  obtain ⟨htable, hrest⟩ := taken (.joinAsk nonce)
  refine ⟨htable.trans ?_, hrest⟩
  show s.table.set addr.val (.joining (max s.straps.aIso (entryAt s.table addr.val).prior) 0) = _
  unfold entryAt
  cases s.table.getD addr.val .empty <;> rfl

end Sys2Proof.Machine

namespace Sys2Proof.Machine

/-! PROOFS. A notice with the own address: the address given up, and the address defended (R63, R89, R104 to R107, R114, R115, R165). -/

section
variable {s t : State}

/-! ## ADDRESS_CONFLICT raised outside MEMBER -/

/-- The station is in a state that R89 gives no power, and has none. -/
structure Unpowered (s : State) : Prop where
  st : Powerless s.member.st
  grant : s.share.grant = 0
  allowance : s.share.allowance = 0

theorem KeepsSharing.unpowered (h : KeepsSharing s t) (hs : Unpowered s) : Unpowered t :=
  ⟨by rw [h.member]; exact hs.st, by rw [h.share]; exact hs.grant, by rw [h.share]; exact hs.allowance⟩

theorem Unpowered.not_member (h : Unpowered s) : s.member.st ≠ .member := by
  rcases h.st with e | e | e | e | e <;> simp [e]

theorem compute_keepsSharing (h : Unpowered s) : KeepsSharing s (compute s) := by
  have hgrant := grantOf_of_powerless h.st
  have hshare : (compute s).share = { s.share with grant := s.share.grant, allowance := s.share.allowance } := by
    simp [compute, hgrant, h.not_member, h.grant, h.allowance]
  exact ⟨compute_member s, compute_framer s, hshare, compute_table s⟩

/-- Outside MEMBER a hand-over loads no notice (R110). -/
theorem handOver_keepsSharing (h : Unpowered s) : KeepsSharing s (handOver s) := by
  have formed : KeepsSharing s { s with request := formRequest s } := ⟨rfl, rfl, rfl, rfl⟩
  have computed := formed.trans (compute_keepsSharing (formed.unpowered h))
  unfold handOver; dsimp only; split
  · exact formed.trans (settle_keepsSharing _)
  · unfold wantRise
    rw [if_neg fun hrise => (computed.unpowered h).not_member hrise.1]
    exact computed

theorem leaveTo_keepsSharing (st : CycleState) (s : State) : KeepsSharing s (leaveTo st s) := by
  unfold leaveTo; dsimp only; split <;> exact ⟨rfl, rfl, rfl, rfl⟩

theorem cycleOnClass_keepsSharing (h : Unpowered s) : KeepsSharing s (cycleOnClass s) := by
  have stay := handOver_keepsSharing h
  have halt : KeepsSharing s (haltCycle s) :=
    (leaveTo_keepsSharing .halted s).trans (handOver_keepsSharing ((leaveTo_keepsSharing .halted s).unpowered h))
  have hold : KeepsSharing s (holdCycle s) :=
    KeepsSharing.trans (t := { s with cycle := { s.cycle with st := .held, second := none, starved := false, starvedSecs := 0 } })
      ⟨rfl, rfl, rfl, rfl⟩ (handOver_keepsSharing ⟨h.st, h.grant, h.allowance⟩)
  unfold cycleOnClass
  cases s.faults.activeClass with
  | none => exact stay
  | some cls =>
    cases cls with
    | a => dsimp only; split <;> first | exact halt | exact stay
    | b =>
      dsimp only; split
      · exact hold
      · exact stay
    | c => exact stay

theorem raiseFault_keepsSharing (k : FaultKind) (h : Unpowered s) : KeepsSharing s (raiseFault k s) := by
  have raised : KeepsSharing s { s with faults := raiseInto k s.faults } := ⟨rfl, rfl, rfl, rfl⟩
  have active := raised.trans (activate_keepsSharing _)
  unfold raiseFault; dsimp only; split
  · exact raised.trans (settle_keepsSharing _)
  · exact active.trans (cycleOnClass_keepsSharing (active.unpowered h))

/-- Once a class A kind has been raised one is active (R165). -/
theorem raiseInto_active_classA {k : FaultKind} (hk : k.cls = .a) (f : FaultUnit) (hf : f.holds k = false) :
    ∃ x, (raiseInto k f).active = some x ∧ x.cls = .a := by
  unfold raiseInto
  rw [if_neg (by simp [hf])]
  split
  · exact ⟨k, rfl, hk⟩
  · next x hx =>
    split
    · exact ⟨k, rfl, hk⟩
    · next hrank =>
      refine ⟨x, hx, ?_⟩
      cases hcls : x.cls <;> simp [FaultKind.rank, FaultClass.rank, hk, hcls] at hrank ⊢

/-- Behind an active fault of class A a withdraw of LOCK_FAULT changes nothing but the list (R161, R166). -/
theorem checkLock_of_classA {x : FaultKind} (hx : x.cls = .a) (ha : s.faults.active = some x) :
    KeepsSharing s (checkLock s) ∧ ∀ j, j ≠ .lockFault → (checkLock s).faults.holds j = s.faults.holds j := by
  have hne : s.faults.active ≠ some .lockFault := by
    rw [ha]
    exact fun h => absurd (Option.some.inj h ▸ hx) (by decide)
  have hlists : withdrawFrom .lockFault s.faults =
      { s.faults with waiting := s.faults.waiting.filter fun j => j ≠ .lockFault } := if_neg hne
  unfold checkLock; split
  · have hcore : withdrawCore .lockFault s = settle { s with faults := withdrawFrom .lockFault s.faults } := by
      unfold withdrawCore; dsimp only
      rw [if_pos (by rw [hlists])]
    rw [hcore]
    refine ⟨KeepsSharing.trans (t := { s with faults := withdrawFrom .lockFault s.faults }) ⟨rfl, rfl, rfl, rfl⟩
      (settle_keepsSharing _), fun j hj => ?_⟩
    rw [settle_faults, hlists, Bool.eq_iff_iff]
    simp [holds_iff, hj]
  · exact ⟨.refl s, fun _ _ => rfl⟩

/-- ADDRESS_CONFLICT raised where there is no power: it is held, and the readings and the sharing stand. -/
theorem reportFault_addressConflict (h : Unpowered s) :
    KeepsSharing s (reportFault .addressConflict true s) ∧
      (reportFault .addressConflict true s).faults.holds .addressConflict = true ∧
      KeepsReadings s (reportFault .addressConflict true s) := by
  unfold reportFault; split
  · next hheld => exact ⟨.refl s, hheld.symm, .refl s⟩
  · next hnew =>
    have hfree : s.faults.holds .addressConflict = false := by
      cases hb : s.faults.holds .addressConflict with
      | false => rfl
      | true => exact absurd hb.symm hnew
    obtain ⟨x, hx, hcls⟩ := raiseInto_active_classA (k := .addressConflict) rfl s.faults hfree
    obtain ⟨ha, hwait⟩ := raiseFault_faults .addressConflict s
    obtain ⟨hkeep, hholds⟩ := checkLock_of_classA hcls (ha.trans hx)
    have hraised : KeepsReadings s (raiseFault .addressConflict s) := (beside_raiseFault .addressConflict s).readings
    rw [if_pos rfl, hholds _ (by decide), holds_of_lists ha hwait]
    exact ⟨(raiseFault_keepsSharing _ h).trans hkeep, (raiseInto_holds _ _ _).2 (.inl rfl),
      hraised.trans (beside_checkLock _).readings⟩

/-! ## The address given up -/

/-- The station has gone to DUPLICATE in the midst of a frame (R89, R95, R102, R114). -/
structure AddressGivenUp (s t : State) : Prop where
  member : t.member =
    { s.member with st := .duplicate, slot := none, inFlight := false, heldOver := none, joinNonce := none }
  grant : t.share.grant = 0
  allowance : t.share.allowance = 0
  raiseReady : s.member.st = .member → t.share.raiseReady = none
  conflict : t.faults.holds .addressConflict = true
  framer : t.framer.st = .receiving
  table : t.table = s.table
  feeder : t.feeder = s.feeder
  shedding : KeepsShedding s t
  readings : KeepsReadings s t
  inputs : KeepsInputs s t

/-- The station in DUPLICATE before the fault is raised. -/
def conflicting (s : State) : State :=
  setMember .duplicate { emptySlot s with member := { (emptySlot s).member with joinNonce := none } }

theorem addressGivenUp_enterDuplicate (h : s.framer.st = .receiving) : AddressGivenUp s (enterDuplicate s) := by
  have hdup : enterDuplicate s = reportFault .addressConflict true (conflicting s) := rfl
  obtain ⟨hgrant, hallowance⟩ := setMember_powerless (m := .duplicate) (by simp [Powerless])
    { emptySlot s with member := { (emptySlot s).member with joinNonce := none } }
  obtain ⟨hinputs, htable, hfeeder, hshed, hclimate, hmember, hframer⟩ := setMember_frame .duplicate
    { emptySlot s with member := { (emptySlot s).member with joinNonce := none } }
  have hready : s.member.st = .member → (conflicting s).share.raiseReady = none := fun hm => by
    simp [conflicting, setMember, emptySlot, hm]
  obtain ⟨hkeep, hholds, hreadings⟩ := reportFault_addressConflict (s := conflicting s)
    ⟨by rw [show (conflicting s).member.st = .duplicate from setMember_st _ _]; simp [Powerless], hgrant, hallowance⟩
  obtain ⟨hinputs', -, hfeeder', -, hshed', -⟩ := reportFault_cabinetFrame .addressConflict true (conflicting s)
  rw [hdup]
  exact {
    member := hkeep.member.trans hmember
    grant := by rw [hkeep.share]; exact hgrant
    allowance := by rw [hkeep.share]; exact hallowance
    raiseReady := fun hm => by rw [hkeep.share]; exact hready hm
    conflict := hholds
    framer := by
      rw [hkeep.framer, show (conflicting s).framer = _ from hframer]
      simp [emptySlot, h]
    table := hkeep.table.trans htable
    feeder := hfeeder'.trans hfeeder
    shedding := KeepsShedding.trans (t := conflicting s) hshed hshed'
    readings := KeepsReadings.trans (t := conflicting s) (keepsReadings_of_climate hclimate) hreadings
    inputs := KeepsInputs.trans (t := conflicting s) hinputs hinputs' }

/-- The end of the frame in which the address was given up finds an empty slot: the framer listens, and nothing else changes. -/
theorem AddressGivenUp.endFrame (h : AddressGivenUp s t) :
    framerRest (endAttempt t) = { t with framer := (framerRest (endAttempt t)).framer } ∧
      (framerRest (endAttempt t)).framer.st = .listen := by
  have hslot : t.member.slot = none := by rw [h.member]
  have hheld : t.member.heldOver = none := by rw [h.member]
  have hover : attemptOver t = t := by
    have hmember : (attemptOver t).member = t.member := by unfold attemptOver; rw [h.member]
    exact congrArg (fun m => ({ t with member := m } : State)) hmember
  have hended : endAttempt t = t := (endAttempt_of_empty hheld hslot).trans hover
  have hrest := framerRest_of_receiving h.framer
  rw [hended]
  refine ⟨?_, by rw [hrest]; simp [restState, hslot]⟩
  unfold framerRest; split <;> rfl

theorem ownAddress_of_conflict {k : NoticeKind}
    (h : s.member.st = .joinListen ∨ s.member.st = .joinAsk ∨ s.member.st = .joinHold ∨ s.member.st = .joinConfirm ∨
      (s.member.st = .member ∧ k ≠ .joinAsk)) : ownAddress k s = enterDuplicate s := by
  rcases h with h | h | h | h | ⟨h, hk⟩
  · simp [ownAddress, h]
  · simp [ownAddress, h]
  · simp [ownAddress, h]
  · simp [ownAddress, h]
  · simp [ownAddress, h, hk]

/-! ## The command and its notice -/

/-- A command that delivers a notice from the own address delivers it to the station itself, whatever the notice's other fields. -/
theorem exec_of_noticeFrom {c : Instr} {k : NoticeKind} (hl : Live s) (h : noticeFrom s.straps.address c = some k)
    (hread : s.framer.st = .listen ∨ s.framer.st = .waiting ∨ s.framer.st = .receiving) :
    exec c s = .next (framerRest (endAttempt (ownAddress k (frameSeen s)))) := by
  have own : ∀ (addr : Nat) (n : Notice), (if addr = s.straps.address then some n.kind else none) = some k →
      live (deliver addr n) s = .next (framerRest (endAttempt (ownAddress k (frameSeen s)))) := by
    intro addr n hn
    obtain ⟨haddr, hkind⟩ := Option.ite_none_right_eq_some.1 hn
    obtain ⟨⟨hstraps, -⟩, -⟩ := frameSeen_lineFrame s
    refine (live_of_live hl _).trans (congrArg _ ?_)
    unfold deliver; dsimp only
    rw [if_pos ((reading_iff s).2 hread), hstraps, if_pos haddr, Option.some.inj hkind]
  cases c with
  | receiveDemand addr cls boost want claim draw =>
    exact own addr.val (.demand (receivedAnnounce cls boost want claim draw)) h
  | receivePresence addr => exact own addr.val .presence h
  | receiveJoinAsk addr nonce => exact own addr.val (.joinAsk nonce) h
  | receiveJoinConfirm addr nonce held => exact own addr.val (.joinConfirm nonce (clampPower held)) h
  | receiveLeave addr => exact own addr.val .leave h
  | _ => cases h

end
end Sys2Proof.Machine

namespace Sys2Proof.Machine

/-! PROOFS. A member defends its address against a JOIN-ASK, and the statement on the own address (R104 to R107, R114, R115). -/

section
variable {s t : State}

/-! ## A load while the framer has a frame to end -/

theorem loadNotice_framer_of_receiving {k : NoticeKind} (h : s.framer.st = .receiving) : (loadNotice k s).framer = s.framer := by
  unfold loadNotice; split
  · rfl
  · exact fillSlot_framer_of_receiving (by exact h)

theorem loadNotice_faults (k : NoticeKind) (s : State) : (loadNotice k s).faults = s.faults := by
  unfold loadNotice; split
  · rfl
  · exact fillSlot_faults _ _

theorem defendAddress_framer (h : s.framer.st = .receiving) : (defendAddress s).framer = s.framer := by
  unfold defendAddress; split
  · exact loadNotice_framer_of_receiving (by exact h)
  · exact loadNotice_framer_of_receiving h

theorem defendAddress_faults (s : State) : (defendAddress s).faults = s.faults := by
  unfold defendAddress; split <;> exact loadNotice_faults _ _

theorem defendAddress_cabinetFrame (s : State) : CabinetFrame s (defendAddress s) := by
  unfold defendAddress; split
  · exact CabinetFrame.trans (t := { s with member := { s.member with refWant := 0, presence := 0 } })
      ⟨.refl s, rfl, rfl, rfl, .refl s, .refl s, rfl, rfl, rfl⟩ (loadNotice_cabinetFrame _ _)
  · exact loadNotice_cabinetFrame _ s

theorem defendAddress_lineFrame (s : State) : LineFrame s (defendAddress s) := by
  unfold defendAddress; split
  · exact LineFrame.trans (t := { s with member := { s.member with refWant := 0, presence := 0 } }) (.refl s)
      (loadNotice_lineFrame _ _)
  · exact loadNotice_lineFrame _ s

theorem quiet_iff (s : State) : quiet s = true ↔ s.request.want = 0 ∧ s.share.allowance = 0 ∧ s.member.lastClaim = 0 := by
  simp [quiet, and_assoc]

/-- A station with want, allowance or a claim of its own is not quiet. -/
theorem not_quiet (h : 0 < s.request.want ∨ 0 < s.share.allowance ∨ 0 < s.member.lastClaim) : quiet s = false := by
  rw [← Bool.not_eq_true, quiet_iff]
  omega

theorem quiet_frameSeen (s : State) : quiet (frameSeen s) = quiet s := by rw [frameSeen_eq]; rfl

/-! ## The defence with the slot free, and with a notice in flight -/

/-- A quiet member's figures once it has answered: presence count and reference want are 0 (R115). -/
def answered (m : Membership) : Membership := { m with refWant := 0, presence := 0 }

theorem defendAddress_of_quiet (h : quiet s = true) :
    defendAddress s = loadNotice .presence { s with member := answered s.member } := by
  unfold defendAddress; rw [if_pos h]; rfl

theorem defendAddress_of_busy (h : quiet s = false) : defendAddress s = loadNotice .demand s := by
  unfold defendAddress; rw [h]; rfl

/-- A slot that a PRESENCE falls due in leaves the quiet member's figures at 0, a refreshed DEMAND's reference want too (R105, R109). -/
theorem fillSlot_answered {kept : NoticeKind} {m : Membership} (hwant : s.request.want = 0) (href : m.refWant = 0)
    (hpresence : m.presence = 0) :
    (fillSlot kept { s with member := noteLoad .presence kept m }).member.presence = 0 ∧
      (fillSlot kept { s with member := noteLoad .presence kept m }).member.refWant = 0 := by
  have hnoted : (noteLoad .presence kept m).presence = 0 ∧ (noteLoad .presence kept m).refWant = 0 := by
    unfold noteLoad; dsimp only; split
    · exact ⟨hpresence, rfl⟩
    · exact ⟨hpresence, href⟩
  obtain ⟨hp, hr⟩ := hnoted
  refine ⟨(fillSlot_member_presence _ _).trans hp, ?_⟩
  rw [fillSlot_refWant]
  split
  · exact hwant
  · exact hr

/-- A slot just filled is filled again with the same kind at the end of the frame (R106). -/
theorem endAttempt_fillSlot {k : NoticeKind} (h : s.member.heldOver = none) :
    endAttempt (fillSlot k s) = fillSlot k (attemptOver (fillSlot k s)) := by
  rw [endAttempt_of_waiting ((fillSlot_member_heldOver k s).trans h) (fillSlot_newest k s), formNotice_kind]

/-- A load held over behind a MEMBER's notice in flight fits the slot, whatever the counts (R107). -/
theorem slotFits_heldOver {k : NoticeKind} {m : Membership} (hs : SlotFits s) (hm : s.member.st = .member)
    (hflight : s.member.inFlight = true) (hk : SlotKindFits .member k) (hst : m.st = s.member.st) (hslot : m.slot = s.member.slot)
    (hfly : m.inFlight = s.member.inFlight) : SlotFits { s with member := { m with heldOver := some k } } := by
  obtain ⟨hkind, hsome, -, -, hsending⟩ := hs
  have hleaving : m.st ≠ .leaving := by rw [hst, hm]; decide
  unfold SlotFits
  dsimp only
  rw [hst, hslot, hfly]
  refine ⟨hkind, hsome, fun j hj => ⟨hflight, ?_⟩, fun hl => absurd (hst.trans hl) hleaving, hsending⟩
  rw [if_neg (hst ▸ hleaving)]
  exact ⟨hm, Option.some.inj hj ▸ hk⟩

/-- A PRESENCE that falls due behind a MEMBER's notice in flight leaves a DEMAND held over, or is held over itself (R104, R107). -/
theorem holdOver_presence (held : Option NoticeKind) (hs : SlotFits s) (hm : s.member.st = .member) (hheld : s.member.heldOver = held) :
    holdOver .presence held = if held = some .demand then some .demand else some .presence := by
  obtain ⟨-, -, hfits, -⟩ := hs
  cases held with
  | none => rfl
  | some k =>
    have hd : k = .demand ∨ k = .presence := by simpa [hm, SlotKindFits] using (hfits k hheld).2
    rcases hd with rfl | rfl <;> rfl

/-- What the defence leaves, whatever it loads (R63, R115). -/
theorem defended_keeps (hm : s.member.st = .member) :
    (framerRest (endAttempt (defendAddress (frameSeen s)))).member.st = .member ∧
      (framerRest (endAttempt (defendAddress (frameSeen s)))).table = s.table ∧
      (framerRest (endAttempt (defendAddress (frameSeen s)))).faults = s.faults ∧
      KeepsStanding s (framerRest (endAttempt (defendAddress (frameSeen s)))) ∧
      KeepsShedding s (framerRest (endAttempt (defendAddress (frameSeen s)))) ∧
      LineFrame s (framerRest (endAttempt (defendAddress (frameSeen s)))) := by
  obtain ⟨htable, hfaults, hshed, -⟩ := frameSeen_keeps s
  obtain ⟨-, htable', -, hstanding', hshed', -⟩ := defendAddress_cabinetFrame (frameSeen s)
  obtain ⟨htable'', hstanding'', hshed'', hframe⟩ := endFrame_keeps (defendAddress (frameSeen s))
  have hstanding : KeepsStanding s (frameSeen s) := by
    rw [keepsStanding_iff, frameSeen_member]
    simp [hm]
  have hall := hstanding.trans (hstanding'.trans hstanding'')
  obtain ⟨hst, -⟩ := (keepsStanding_iff _ _).1 hall
  exact ⟨hst.trans hm, htable''.trans (htable'.trans htable), (endFrame_faults _).trans ((defendAddress_faults _).trans hfaults), hall,
    hshed.trans (hshed'.trans hshed''), (frameSeen_lineFrame s).trans ((defendAddress_lineFrame _).trans hframe)⟩

/-- The defence with no notice in flight, once the frame has ended: a DEMAND, or of a quiet member what a PRESENCE leaves in the slot
(R104, R106, R115). -/
structure DefendedFree (s t : State) : Prop where
  busy : quiet s = false → t.member.slot = some (newestDemand t)
  idle : quiet s = true → t.member.presence = 0 ∧ t.member.refWant = 0 ∧ t.member.slot = some (presenceOver s.member.slot t)
  waiting : t.framer.st = .waiting

theorem defendedFree_endFrame (hrec : s.framer.st = .receiving) (hs : SlotFits s) (hm : s.member.st = .member)
    (hfree : s.member.inFlight = false) : DefendedFree s (framerRest (endAttempt (defendAddress s))) := by
  have hheld : s.member.heldOver = none := by
    obtain ⟨-, -, hfits, -⟩ := hs
    cases hk : s.member.heldOver with
    | none => rfl
    | some k => exact absurd (hfree.symm.trans (hfits k hk).1) (by decide)
  have hbusy : quiet s = false → (framerRest (endAttempt (defendAddress s))).member.slot =
      some (newestDemand (framerRest (endAttempt (defendAddress s)))) := fun hq => by
    rw [defendAddress_of_busy hq, loadNotice_of_free hfree, slotKeeps_demand_of_member hs hm, endAttempt_fillSlot (by exact hheld)]
    exact framerRest_fillSlot_newest .demand _
  have hidle : quiet s = true → (framerRest (endAttempt (defendAddress s))).member.presence = 0 ∧
      (framerRest (endAttempt (defendAddress s))).member.refWant = 0 ∧
      (framerRest (endAttempt (defendAddress s))).member.slot =
        some (presenceOver s.member.slot (framerRest (endAttempt (defendAddress s)))) := fun hq => by
    obtain ⟨hwant, -, -⟩ := (quiet_iff s).1 hq
    obtain ⟨-, -, hover⟩ := noteLoad_keeps .presence (slotKeeps .presence s.member.slot) (answered s.member)
    have hload : defendAddress s = fillSlot (slotKeeps .presence s.member.slot)
        { s with member := noteLoad .presence (slotKeeps .presence s.member.slot) (answered s.member) } :=
      (defendAddress_of_quiet hq).trans (loadNotice_of_free hfree)
    obtain ⟨hpresence, href⟩ := fillSlot_answered (s := s) (kept := slotKeeps .presence s.member.slot) (m := answered s.member) hwant
      rfl rfl
    rw [hload, endAttempt_fillSlot (hover.trans hheld), framerRest_fillSlot_newest, formNotice_slotKeeps_presence hs hm,
      framerRest_member, fillSlot_member_presence, fillSlot_refWant]
    refine ⟨hpresence, ?_, rfl⟩
    split
    · show (fillSlot _ _).request.want = 0
      rw [fillSlot_request]
      exact hwant
    · exact href
  refine ⟨hbusy, hidle, (frameEnded_of_receiving (by rw [defendAddress_framer hrec]; exact hrec)).waiting ?_⟩
  cases hq : quiet s with
  | false => rw [hbusy hq]; rfl
  | true =>
    obtain ⟨-, -, hslot⟩ := hidle hq
    rw [hslot]; rfl

/-- The defence with a notice in flight, once the frame that took it off has ended: the load held over is applied (R104, R107, R115). -/
structure DefendedFlying (s t : State) : Prop where
  free : t.member.inFlight = false ∧ t.member.heldOver = none ∧ t.share.raiseReady = none
  busy : quiet s = false ∨ s.member.heldOver = some .demand →
    t.member.slot = some (newestDemand t) ∧ t.member.refWant = s.request.want ∧ t.member.presence = 7
  idle : quiet s = true → s.member.heldOver ≠ some .demand →
    t.member.presence = 0 ∧ t.member.refWant = 0 ∧ t.member.slot = some (presenceOver s.member.slot t)
  waiting : t.framer.st = .waiting
  failures : t.framer.failures = s.framer.failures

/-- What a defence in flight holds over: a quiet member's PRESENCE unless a DEMAND is held over, and else a DEMAND (R107, R115). -/
def heldAtDefence (s : State) : NoticeKind :=
  if quiet s = true ∧ s.member.heldOver ≠ some .demand then .presence else .demand

/-- The membership items with the figures as a defence leaves them: a quiet member's are put to 0 (R115). -/
def figuresAtDefence (s : State) : Membership := if quiet s then answered s.member else s.member

theorem figuresAtDefence_keeps (s : State) :
    (figuresAtDefence s).st = s.member.st ∧ (figuresAtDefence s).slot = s.member.slot ∧
      (figuresAtDefence s).inFlight = s.member.inFlight := by
  unfold figuresAtDefence; split <;> exact ⟨rfl, rfl, rfl⟩

theorem defendAddress_of_flight (hs : SlotFits s) (hm : s.member.st = .member) (hflight : s.member.inFlight = true) :
    defendAddress s = { s with member := { figuresAtDefence s with heldOver := some (heldAtDefence s) } } := by
  cases hq : quiet s with
  | false =>
    rw [defendAddress_of_busy hq, loadNotice_demand_of_inFlight hs hm hflight]
    simp [figuresAtDefence, heldAtDefence, hq]
  | true =>
    rw [defendAddress_of_quiet hq]
    have hhold := holdOver_presence s.member.heldOver hs hm rfl
    by_cases hd : s.member.heldOver = some .demand
    · rw [hd, if_pos rfl] at hhold
      simp [loadNotice, answered, figuresAtDefence, heldAtDefence, hq, hflight, hd, hhold]
    · rw [if_neg hd] at hhold
      simp [loadNotice, answered, figuresAtDefence, heldAtDefence, hq, hflight, hd, hhold]

theorem slotFits_defendAddress (hs : SlotFits s) (hm : s.member.st = .member) (hflight : s.member.inFlight = true) :
    SlotFits (defendAddress s) := by
  obtain ⟨hst, hslot, hfly⟩ := figuresAtDefence_keeps s
  rw [defendAddress_of_flight hs hm hflight]
  refine slotFits_heldOver hs hm hflight ?_ hst hslot hfly
  unfold heldAtDefence; split
  · exact .inr rfl
  · exact .inl rfl

/-- The load that the defence holds over is the one applied at the end of the frame. -/
theorem defendedFlying_endFrame (hrec : s.framer.st = .receiving) (hs : SlotFits s) (hm : s.member.st = .member)
    (hflight : s.member.inFlight = true) : DefendedFlying s (framerRest (endAttempt (defendAddress s))) := by
  have hdefend := defendAddress_of_flight hs hm hflight
  obtain ⟨-, hslot, -⟩ := figuresAtDefence_keeps s
  have hheld : (defendAddress s).member.heldOver = some (heldAtDefence s) := by rw [hdefend]
  have hkept : (defendAddress s).member.slot = s.member.slot := by rw [hdefend]; exact hslot
  have hreceiving : (defendAddress s).framer.st = .receiving := by rw [defendAddress_framer hrec]; exact hrec
  have hended := frameEnded_of_receiving hreceiving
  obtain ⟨-, -, -, hfailures, -⟩ := id hended
  obtain ⟨hover, hflight', hready, -, hdemand, hpresence⟩ :=
    heldLoaded_of_receiving hreceiving (slotFits_defendAddress hs hm hflight) (by rw [hheld]; rfl)
  refine ⟨⟨hflight', hover, hready⟩, fun hb => ?_, fun hq hnot => ?_, hended.waiting (endFrame_slot_of_held (by rw [hheld]; rfl)),
    hfailures.trans (by rw [defendAddress_framer hrec])⟩
  · have hkind : heldAtDefence s = .demand := by
      unfold heldAtDefence
      refine if_neg ?_
      rintro ⟨hq, hnot⟩
      rcases hb with hb | hb
      · rw [hb] at hq; cases hq
      · exact hnot hb
    obtain ⟨hnew, href, hcount⟩ := hdemand (by rw [hheld, hkind])
    exact ⟨hnew, href.trans (by rw [hdefend]), hcount⟩
  · have hkind : heldAtDefence s = .presence := if_pos ⟨hq, hnot⟩
    have hnew := hpresence (by rw [hheld, hkind])
    rw [hkept] at hnew
    obtain ⟨hwant, -, -⟩ := (quiet_iff s).1 hq
    have hfigures : figuresAtDefence s = answered s.member := if_pos hq
    have hwant' : (attemptOver (defendAddress s)).request.want = 0 := by rw [hdefend]; exact hwant
    obtain ⟨hzeroRef, hzeroCount⟩ : (attemptOver (defendAddress s)).member.refWant = 0 ∧
        (attemptOver (defendAddress s)).member.presence = 0 := by
      rw [hdefend, hfigures]; exact ⟨rfl, rfl⟩
    obtain ⟨hcount, href⟩ := fillSlot_answered (kept := slotKeeps .presence (defendAddress s).member.slot)
      hwant' hzeroRef hzeroCount
    rw [framerRest_member, endAttempt_of_held (hheld.trans (congrArg some hkind))]
    rw [endAttempt_of_held (hheld.trans (congrArg some hkind)), framerRest_member] at hnew
    exact ⟨hcount, href, hnew⟩

/-! ## In LEAVING -/

/-- A LEAVE waiting in the slot is refreshed as it stands, the end of a frame taking it out of flight (R105, R106, R117). -/
theorem endFrame_of_leave (hslot : s.member.slot = some .leave) (hheld : s.member.heldOver = none) (hst : s.member.st = .leaving) :
    (framerRest (endAttempt (frameSeen s))).member = { s.member with inFlight := false } ∧
      (framerRest (endAttempt (frameSeen s))).share.allowance = 0 := by
  have hstands := frameSeen_slotStands s
  have hmember : (frameSeen s).member = s.member := by
    rw [frameSeen_member, if_neg (by rw [hst]; decide)]
  rw [endAttempt_of_waiting (hstands.heldOver.trans hheld) (hstands.slot.trans hslot), framerRest_member, framerRest_share]
  refine ⟨?_, fillSlot_powerless (by simp [attemptOver, hmember, hst, Powerless])⟩
  simp [fillSlot, handFramer, attemptOver, frameSeen_receiving, hmember, Notice.kind, formNotice, hslot, hheld]

end

/-- Settles O44: by the state the notice finds, the address is given up, defended with the slot free or in flight, or not at stake. -/
theorem ownAddressDefendedOrGivenUp : Obligations.OwnAddressDefendedOrGivenUp := by
  intro c k s hl hfrom hread
  have hexec := exec_of_noticeFrom hl hfrom hread
  have hstands := frameSeen_slotStands s
  have hrec := frameSeen_receiving s
  have defended : s.member.st = .member → k = .joinAsk →
      exec c s = .next (framerRest (endAttempt (defendAddress (frameSeen s)))) := by
    intro hm hk
    have hown : ownAddress k (frameSeen s) = defendAddress (frameSeen s) := by
      simp [ownAddress, hstands.st, hm, hk]
    rw [hexec, hown]
  have ignored : s.member.st = .leaving ∨ s.member.st = .isolated ∨ s.member.st = .duplicate →
      exec c s = .next (framerRest (endAttempt (frameSeen s))) := by
    intro hst
    have hown : ownAddress k (frameSeen s) = frameSeen s := by
      rcases hst with hst | hst | hst <;> simp [ownAddress, hstands.st, hst]
    rw [hexec, hown]
  refine ⟨fun hst => ?_, fun hm hk hfree hs => ?_, fun hm hk hflight hs => ?_, fun hst hslot hheld => ?_, fun hst hslot hheld => ?_⟩
  · have hgiven := addressGivenUp_enterDuplicate hrec
    obtain ⟨hrest, hlisten⟩ := hgiven.endFrame
    obtain ⟨htable, -, hshed, -⟩ := frameSeen_keeps s
    obtain ⟨hinputs, hclimate, -, hfeeder, -⟩ := frameSeen_lineFrame s
    refine ⟨_, hexec.trans (by rw [ownAddress_of_conflict (by rw [hstands.st]; exact hst)]), ?_⟩
    rw [hrest, hgiven.member]
    exact ⟨rfl, rfl, rfl, rfl, rfl, hgiven.allowance, hgiven.grant, fun hm => hgiven.raiseReady (hstands.st.trans hm), hgiven.conflict,
      hlisten, hgiven.table.trans htable, hgiven.feeder.trans hfeeder, hshed.trans hgiven.shedding,
      (keepsReadings_of_climate hclimate).trans hgiven.readings, hinputs.trans hgiven.inputs⟩
  · obtain ⟨hst, htable, hfaults, hstanding, hshed, hframe⟩ := defended_keeps hm
    have hfought := defendedFree_endFrame hrec (hstands.slotFits hs) (hstands.st.trans hm) (hstands.inFlight.trans hfree)
    refine ⟨_, defended hm hk, hst, htable, hfaults, hfought.waiting, fun hpos => hfought.busy ?_, fun hwant hallow hclaim => ?_,
      hstanding, hshed, hframe⟩
    · rw [quiet_frameSeen]
      exact not_quiet (hpos.imp_right .inr)
    · obtain ⟨hcount, href, hnew⟩ := hfought.idle (by rw [quiet_frameSeen, quiet_iff]; exact ⟨hwant, hallow, hclaim⟩)
      rw [hstands.slot] at hnew
      exact ⟨hcount, href, hnew⟩
  · obtain ⟨hst, htable, hfaults, hstanding, hshed, hframe⟩ := defended_keeps hm
    have hfought := defendedFlying_endFrame hrec (hstands.slotFits hs) (hstands.st.trans hm) (hstands.inFlight.trans hflight)
    obtain ⟨hflight', hover, hready⟩ := hfought.free
    refine ⟨_, defended hm hk, hst, hflight', hover, hready, htable, hfaults, hfought.waiting, hfought.failures.trans hstands.failures,
      fun hpos => ?_, fun hwant hallow hclaim hnot => ?_, hstanding, hshed, hframe⟩
    · have hbusy : quiet (frameSeen s) = false ∨ (frameSeen s).member.heldOver = some .demand := by
        rw [quiet_frameSeen, hstands.heldOver]
        rcases hpos with h | h | h | h
        · exact .inl (not_quiet (.inl h))
        · exact .inl (not_quiet (.inr (.inl h)))
        · exact .inl (not_quiet (.inr (.inr h)))
        · exact .inr h
      obtain ⟨hnew, href, hcount⟩ := hfought.busy hbusy
      exact ⟨hnew, href.trans (by rw [hstands.request]), hcount⟩
    · obtain ⟨hcount, href, hnew⟩ := hfought.idle (by rw [quiet_frameSeen, quiet_iff]; exact ⟨hwant, hallow, hclaim⟩)
        (by rw [hstands.heldOver]; exact hnot)
      rw [hstands.slot] at hnew
      exact ⟨hcount, href, hnew⟩
  · obtain ⟨hmember, hallowance⟩ := endFrame_of_leave hslot hheld hst
    obtain ⟨htable, hfaults, -, hshed, hframe⟩ := endFrame_frameSeen_keeps s
    exact ⟨_, ignored (.inl hst), hmember, (frameEnded_frameSeen s).waiting (by rw [hmember, hslot]; rfl), htable, hfaults, hallowance,
      hshed, hframe⟩
  · obtain ⟨-, hreception, -, -, hempty, -⟩ := frameEnded_frameSeen s
    obtain ⟨hslot', -⟩ := hempty hslot hheld
    exact ⟨_, ignored (.inr hst), endFrame_of_empty hheld hslot, (frameEnded_frameSeen s).listen hslot', hreception,
      endFrame_idleHold s⟩

end Sys2Proof.Machine

namespace Sys2Proof.Machine

/-! PROOFS. The own share period's expiry: the table aged, the shed hold, the computation (R69, R74, R75, R80, R99). -/

section
variable {s t : State}

/-! ## The Membership Controller at the period -/

/-- What the Membership Controller leaves as it is at an own period expiry, whatever notice it loads (R109, R111, R112). -/
structure PeriodStands (s t : State) : Prop where
  table : t.table = s.table
  faults : t.faults = s.faults
  shedding : KeepsShedding s t
  climate : t.climate = s.climate
  feeder : t.feeder = s.feeder
  request : t.request = s.request
  phase : KeepsPhase s t
  gates : KeepsGates s t
  straps : t.straps = s.straps
  lines : t.lines = s.lines

theorem PeriodStands.refl (s : State) : PeriodStands s s := ⟨rfl, rfl, .refl s, rfl, rfl, rfl, .refl s, .refl s, rfl, rfl⟩

theorem PeriodStands.trans {u : State} (h : PeriodStands s t) (g : PeriodStands t u) : PeriodStands s u where
  table := g.table.trans h.table
  faults := g.faults.trans h.faults
  shedding := h.shedding.trans g.shedding
  climate := g.climate.trans h.climate
  feeder := g.feeder.trans h.feeder
  request := g.request.trans h.request
  phase := h.phase.trans g.phase
  gates := h.gates.trans g.gates
  straps := g.straps.trans h.straps
  lines := g.lines.trans h.lines

/-- Writing the membership items and reading the nonce counter touches none of it. -/
theorem periodStands_withMember (m : Membership) (reads : Nat) (s : State) :
    PeriodStands s { s with member := m, nonceReads := reads } :=
  ⟨rfl, rfl, .refl s, rfl, rfl, rfl, .refl s, .refl s, rfl, rfl⟩

/-- An operation of the Share Line that leaves table, faults and shedding leaves what the period leaves. -/
theorem periodStands_of_lineFrame (h : LineFrame s t) (htable : t.table = s.table) (hfaults : t.faults = s.faults)
    (hshed : KeepsShedding s t) : PeriodStands s t := by
  obtain ⟨⟨hstraps, hlines, -⟩, hclimate, hphase, hfeeder, hgates, hrequest, -⟩ := h
  exact ⟨htable, hfaults, hshed, hclimate, hfeeder, hrequest, hphase, hgates, hstraps, hlines⟩

theorem loadNotice_periodStands (k : NoticeKind) (s : State) : PeriodStands s (loadNotice k s) := by
  obtain ⟨-, htable, -, -, hshed, -⟩ := loadNotice_cabinetFrame k s
  exact periodStands_of_lineFrame (loadNotice_lineFrame k s) htable (loadNotice_faults k s) hshed

theorem setMember_periodStands (m : MemberState) (s : State) : PeriodStands s (setMember m s) := by
  obtain ⟨-, htable, -, hshed, -⟩ := setMember_frame m s
  exact periodStands_of_lineFrame (setMember_lineFrame m s) htable (by simp [setMember]) hshed

theorem compute_periodStands (s : State) : PeriodStands s (compute s) := by
  obtain ⟨-, htable, -, -, hshed, -⟩ := compute_cabinetFrame s
  exact periodStands_of_lineFrame (compute_lineFrame s) htable (compute_faults s) hshed

theorem cadence_periodStands (s : State) : PeriodStands s (cadence s) := by
  have counted : ∀ n : Nat, PeriodStands s { s with member := { s.member with presence := n } } := fun _ =>
    periodStands_withMember _ s.nonceReads s
  unfold cadence; dsimp only; split
  · split
    · exact (counted 0).trans (loadNotice_periodStands _ _)
    · exact counted _
  · exact (counted presenceStart).trans (loadNotice_periodStands _ _)

theorem cadence_computed (h : Computed s) : Computed (cadence s) := by
  unfold cadence; dsimp only; split
  · split
    · exact loadNotice_computed _ h
    · exact h
  · exact loadNotice_computed _ h

theorem memberPeriod_periodStands (s : State) : PeriodStands s (memberPeriod s) := by
  have counted : PeriodStands s { s with member := { s.member with periodCount := s.member.periodCount + 1 } } :=
    periodStands_withMember _ s.nonceReads s
  unfold memberPeriod
  cases s.member.st with
  | joinListen =>
    dsimp only; split
    · unfold enterJoinAsk
      exact (periodStands_withMember _ (s.nonceReads + 1) s).trans ((setMember_periodStands _ _).trans (loadNotice_periodStands _ _))
    · exact counted
  | joinHold =>
    dsimp only; split
    · exact counted.trans ((setMember_periodStands _ _).trans (loadNotice_periodStands _ _))
    · exact counted
  | member => exact cadence_periodStands s
  | _ => exact .refl s

/-- The grant and the allowance stay those of the newest computation (R81, R91). -/
theorem memberPeriod_computed (h : Computed s) : Computed (memberPeriod s) := by
  unfold memberPeriod
  cases s.member.st with
  | joinListen =>
    dsimp only; split
    · exact loadNotice_computed _ (compute_computed _)
    · exact h
  | joinHold =>
    dsimp only; split
    · exact loadNotice_computed _ (compute_computed _)
    · exact h
  | member => exact cadence_computed h
  | _ => exact h

/-! ## The shed hold and the entries -/

/-- The hold runs down by one period and sets the arm where it ends (R99). -/
theorem decreaseHold_hold (l : LoadShare) :
    (decreaseHold l).hold = l.hold - 1 ∧ (decreaseHold l).arm = (l.arm || decide (l.hold = 1)) ∧
      (decreaseHold l).limit = l.limit ∧ (decreaseHold l).limitTimer = l.limitTimer := by
  unfold decreaseHold; split
  · next h => simp [h]
  · next h =>
    refine ⟨rfl, ?_, rfl, rfl⟩
    by_cases hone : l.hold = 1 <;> simp [hone]

/-! ## The period -/

/-- The table aged and the hold run down, before the computation (R69, R80, R99). -/
def periodRun (s : State) : State :=
  { ageTable s with share := { decreaseHold (ageTable s).share with period := some (ageTable s).straps.periodMs } }

/-- What an own period leaves (R69, R74, R80, R99). -/
structure PeriodPassed (s t : State) : Prop where
  table : t.table = s.table.map Entry.aged
  overflow : OverflowFollows t
  hold : t.share.hold = s.share.hold - 1
  arm : t.share.arm = (s.share.arm || decide (s.share.hold = 1))
  period : t.share.period = some s.straps.periodMs
  limit : t.share.limit = s.share.limit ∧ t.share.limitTimer = s.share.limitTimer
  frame : LineFrame s t

theorem periodPassed_periodRun (hl : Live s) (ho : FaultsOrdered s.faults) (hr : RequestFresh s) (hw : LockWatched s) :
    PeriodPassed s (periodRun s) := by
  have haged : ageTable s = tableReported (s.table.map Entry.aged) s := rfl
  have hwritten := tableWritten_tableReported (s.table.map Entry.aged) hl ho hr hw
  rw [← haged] at hwritten
  have hshare : (ageTable s).share = s.share := hwritten.sharing.share
  obtain ⟨hhold, harm, hlimit, htimer⟩ := decreaseHold_hold s.share
  obtain ⟨⟨hstraps, -⟩, -⟩ := id hwritten.frame
  rw [← hshare] at hhold harm hlimit htimer
  refine ⟨hwritten.sharing.table, hwritten.overflow, ?_, ?_, ?_, ?_, ?_⟩
  · exact hhold.trans (by rw [hshare])
  · exact harm.trans (by rw [hshare])
  · exact congrArg (fun p : Straps => some p.periodMs) hstraps
  · exact ⟨hlimit.trans (by rw [hshare]), htimer.trans (by rw [hshare])⟩
  · exact LineFrame.trans (t := ageTable s) hwritten.frame (.refl _)

end

/-- Settles O33: the computation and the Membership Controller leave what the aging and the hold have written. -/
theorem periodAgesTableAndHold : Obligations.PeriodAgesTableAndHold := by
  intro i s hl hperiod hlength ho hr hw
  have hexpiry : periodExpiry s = memberPeriod (compute (periodRun s)) := by
    unfold periodExpiry; rw [if_pos hperiod]; rfl
  have hpassed := periodPassed_periodRun hl ho hr hw
  have hstands := (compute_periodStands (periodRun s)).trans (memberPeriod_periodStands _)
  obtain ⟨hgrant, hallowance⟩ := memberPeriod_computed (compute_computed (periodRun s))
  obtain ⟨hkeepPeriod, hkeepHold, hkeepArm, hkeepLimit, hkeepTimer⟩ := hstands.shedding
  obtain ⟨⟨hstraps, hlines, -⟩, hclimate, hphase, hfeeder, hgates, hrequest, -⟩ := hpassed.frame
  have hentry : (s.table.map Entry.aged).getD i.val .empty = (entryAt s.table i.val).aged := entryAt_aged s.table i.val
  obtain ⟨hlimit, htimer⟩ := hpassed.limit
  refine ⟨_, (live_of_live hl periodExpiry).trans (congrArg _ hexpiry), ?_, ?_, ?_, hkeepHold.trans hpassed.hold,
    hkeepArm.trans hpassed.arm, hkeepPeriod.trans hpassed.period, hgrant, hallowance, hkeepLimit.trans hlimit,
    hkeepTimer.trans htimer, hstands.climate.trans hclimate, hstands.feeder.trans hfeeder, hstands.request.trans hrequest,
    KeepsPhase.trans (t := periodRun s) hphase hstands.phase, KeepsGates.trans (t := periodRun s) hgates hstands.gates,
    hstands.straps.trans hstraps, hstands.lines.trans hlines⟩
  · rw [hstands.table, hpassed.table, List.length_map]; exact hlength
  · rw [hstands.table, hpassed.table, hentry]
    unfold entryAt
    cases s.table.getD i.val .empty <;> rfl
  · unfold OverflowFollows
    rw [hstands.faults, hstands.straps, hstands.table]
    exact hpassed.overflow

end Sys2Proof.Machine

namespace Sys2Proof.Machine

/-! PROOFS. Sharing upkeep: what the cabinet's operations, from the hand-over of the requests to the Fault Unit and the cycle, keep
of the load-sharing blocks. Of those blocks they change the fault lists, run computations on new requests and load a DEMAND in
MEMBER; an invariant that stands these three, and rests on nothing else, is kept by all of them. -/

/-- What an invariant of load sharing may rest on: the sharing blocks whole, the want, and the fault lists. -/
def sharingView (s : State) :
    Membership × Framer × LoadShare × Straps × Feeder × Nat × Option FaultKind × List FaultKind × Bool :=
  (s.member, s.framer, s.share, s.straps, s.feeder, s.request.want, s.faults.active, s.faults.waiting, s.inReset)

theorem sharingView_settle (s : State) : sharingView (settle s) = sharingView s := by simp [sharingView]

theorem sharingView_activate (s : State) : sharingView (activate s) = sharingView s := by
  unfold activate; dsimp only; split
  · rfl
  · split <;> rfl

theorem sharingView_leaveTo (st : CycleState) (s : State) : sharingView (leaveTo st s) = sharingView s := by
  unfold leaveTo; dsimp only; split <;> rfl

/-- What the cabinet's operations need of an invariant of load sharing to keep it. `Told` are the faults whose report it stands; only
the Feeder Supervisor reports MAINS_LOST. -/
structure SharingUpkeep (Told : FaultKind → Prop) (P : State → Prop) : Prop where
  told : ∀ {k}, k ≠ .mainsLost → Told k
  congr : ∀ {s t}, sharingView t = sharingView s → P s → P t
  raised : ∀ {k s}, Told k → P s → P { s with faults := raiseInto k s.faults }
  withdrawn : ∀ {k s}, Told k → P s → P { s with faults := withdrawFrom k s.faults }
  computed : ∀ {s r}, P s → P (compute { s with request := r })
  loaded : ∀ {s}, s.member.st = .member → P s → P (loadNotice .demand s)

namespace SharingUpkeep

variable {Told : FaultKind → Prop} {P : State → Prop}

/-! ## Handing over, and the cycle -/

theorem settle (h : SharingUpkeep Told P) {s : State} (hs : P s) : P (settle s) := h.congr (sharingView_settle s) hs

theorem compute (h : SharingUpkeep Told P) {s : State} (hs : P s) : P (compute s) := h.computed (r := s.request) hs

theorem handOver (h : SharingUpkeep Told P) {s : State} (hs : P s) : P (handOver s) := by
  have formed : P (Machine.compute { s with request := formRequest s }) := h.computed hs
  unfold Machine.handOver wantRise; dsimp only; split
  · next same => exact h.congr (s := s) (by simp [sharingView, same.1]) hs
  · split
    · next rise => exact h.loaded rise.1 formed
    · exact formed

theorem leaveTo (h : SharingUpkeep Told P) (st : CycleState) {s : State} (hs : P s) : P (leaveTo st s) :=
  h.congr (sharingView_leaveTo st s) hs

theorem activate (h : SharingUpkeep Told P) {s : State} (hs : P s) : P (activate s) := h.congr (sharingView_activate s) hs

theorem handOver_leaveTo (h : SharingUpkeep Told P) (st : CycleState) {s : State} (hs : P s) :
    P (Machine.handOver (Machine.leaveTo st s)) :=
  h.handOver (h.leaveTo st hs)

/-! ## The Fault Unit and the phases -/

theorem cycleOnClass (h : SharingUpkeep Told P) {s : State} (hs : P s) : P (cycleOnClass s) := by
  have stay : P (Machine.handOver s) := h.handOver hs
  have halted : P (haltCycle s) := h.handOver_leaveTo .halted hs
  have held : P (holdCycle s) := h.handOver (h.congr (s := s) rfl hs)
  unfold Machine.cycleOnClass
  split
  · split
    all_goals first
      | exact stay
      | exact halted
  · split
    · exact held
    · exact stay
  · exact stay
  · exact stay

theorem raiseFault (h : SharingUpkeep Told P) {k : FaultKind} (hk : Told k) {s : State} (hs : P s) : P (raiseFault k s) := by
  unfold Machine.raiseFault; dsimp only; split
  · exact h.settle (h.raised hk hs)
  · exact h.cycleOnClass (h.activate (h.raised hk hs))

theorem checkWater (h : SharingUpkeep Told P) {s : State} (hs : P s) : P (checkWater s) := by
  unfold Machine.checkWater; split
  · exact h.raiseFault (h.told (by decide)) hs
  · exact hs

theorem enterPhase (h : SharingUpkeep Told P) (i : Nat) (r : Record) {s : State} (hs : P s) : P (enterPhase i r s) :=
  h.checkWater (h.handOver (h.congr (s := s) rfl hs))

theorem completeCycle (h : SharingUpkeep Told P) {s : State} (hs : P s) : P (completeCycle s) :=
  h.congr (s := Machine.handOver (Machine.leaveTo .done s)) rfl (h.handOver_leaveTo .done hs)

theorem endPhase (h : SharingUpkeep Told P) {s : State} (hs : P s) : P (endPhase s) := by
  unfold Machine.endPhase; split
  · exact h.enterPhase _ _ hs
  · exact h.completeCycle hs

theorem checkDryPoint (h : SharingUpkeep Told P) {s : State} (hs : P s) : P (checkDryPoint s) := by
  unfold Machine.checkDryPoint; split
  · exact h.endPhase hs
  · exact hs

theorem returnToRunning (h : SharingUpkeep Told P) {s : State} (hs : P s) : P (returnToRunning s) :=
  h.checkWater (h.checkDryPoint (h.handOver (h.congr (s := s) rfl hs)))

theorem withdrawCore (h : SharingUpkeep Told P) {k : FaultKind} (hk : Told k) {s : State} (hs : P s) :
    P (withdrawCore k s) := by
  have fallen : P (Machine.activate { s with faults := withdrawFrom k s.faults }) := h.activate (h.withdrawn hk hs)
  unfold Machine.withdrawCore; dsimp only; split
  · exact h.settle (h.withdrawn hk hs)
  · unfold cycleOnFall; split
    · exact h.returnToRunning fallen
    · exact h.cycleOnClass fallen

theorem checkLock (h : SharingUpkeep Told P) {s : State} (hs : P s) : P (checkLock s) := by
  unfold Machine.checkLock; split
  · exact h.withdrawCore (h.told (by decide)) hs
  · exact hs

theorem reportFault (h : SharingUpkeep Told P) {k : FaultKind} (hk : Told k) (holds : Bool) {s : State} (hs : P s) :
    P (reportFault k holds s) := by
  unfold Machine.reportFault; split
  · exact hs
  · split
    · exact h.checkLock (h.raiseFault hk hs)
    · exact h.checkLock (h.withdrawCore hk hs)

theorem evalOverTemp (h : SharingUpkeep Told P) {s : State} (hs : P s) : P (evalOverTemp s) :=
  h.reportFault (h.told (by decide)) _ (h.congr (s := s) rfl hs)

theorem setTable (h : SharingUpkeep Told P) (table : List Entry) {s : State} (hs : P s) : P (setTable table s) :=
  h.compute (h.reportFault (h.told (by decide)) _ (h.congr (s := s) rfl hs))

/-- Leaving the phase, with the lock looked at. -/
theorem leftAndHanded (h : SharingUpkeep Told P) (st : CycleState) {s : State} (hs : P s) :
    P (Machine.checkLock (Machine.handOver (Machine.leaveTo st s))) :=
  h.checkLock (h.handOver_leaveTo st hs)

/-! ## Door, water, lock and fan -/

theorem doorOpened (h : SharingUpkeep Told P) {s : State} (hs : P s) : P (doorOpened s) := by
  have paused : P (pauseCycle s) := h.handOver (h.congr (s := s) rfl hs)
  unfold Machine.doorOpened; split
  · exact h.checkLock paused
  · exact h.checkLock paused
  · exact h.leftAndHanded .idle hs
  all_goals exact h.settle hs

theorem waterReported (h : SharingUpkeep Told P) {s : State} (hs : P s) : P (waterReported s) := by
  have handed : P (Machine.handOver s) := h.handOver hs
  unfold Machine.waterReported; split
  · exact h.checkLock (h.checkWater handed)
  · exact h.reportFault (h.told (by decide)) _ handed

theorem lockReported (h : SharingUpkeep Told P) (was : Bool) {s : State} (hs : P s) : P (lockReported was s) :=
  h.checkLock (h.settle (h.congr (s := s) rfl hs))

theorem lockConfirmExpiry (h : SharingUpkeep Told P) {s : State} (hs : P s) : P (lockConfirmExpiry s) := by
  unfold Machine.lockConfirmExpiry; split
  · exact h.reportFault (h.told (by decide)) _ (h.congr (s := s) rfl hs)
  · exact hs

theorem tachPulse (h : SharingUpkeep Told P) {s : State} (hs : P s) : P (tachPulse s) := by
  unfold Machine.tachPulse; split
  · exact hs
  · exact h.reportFault (h.told (by decide)) _ (h.settle (h.congr (s := s) rfl hs))

theorem tachExpiry (h : SharingUpkeep Told P) {s : State} (hs : P s) : P (tachExpiry s) := by
  unfold Machine.tachExpiry; split
  · exact h.reportFault (h.told (by decide)) _ (h.settle (h.congr (s := s) rfl hs))
  · exact hs

/-! ## Climate -/

theorem climateUpdate (h : SharingUpkeep Told P) {s : State} (hs : P s) : P (climateUpdate s) := by
  have latched : P { s with cycle := { s.cycle with latch := latchNext s.cycle s.climate.tr } } := h.congr (s := s) rfl hs
  unfold Machine.climateUpdate; dsimp only; split
  · exact h.leftAndHanded .idle latched
  · exact h.checkLock (h.handOver latched)

theorem probeRound (h : SharingUpkeep Told P) (r0 r1 r2 : Int) {s : State} (hs : P s) : P (probeRound r0 r1 r2 s) :=
  h.climateUpdate
    (h.evalOverTemp
      (h.reportFault (h.told (by decide)) _ (h.reportFault (h.told (by decide)) _ (h.congr (s := s) rfl hs))))

theorem humidityReading (h : SharingUpkeep Told P) (r : Int) {s : State} (hs : P s) : P (humidityReading r s) := by
  unfold Machine.humidityReading; split
  · exact h.reportFault (h.told (by decide)) _ (h.congr (s := s) rfl hs)
  · exact h.checkLock (h.checkDryPoint (h.reportFault (h.told (by decide)) _ (h.congr (s := s) rfl hs)))

theorem firstReadings (h : SharingUpkeep Told P) (r0 r1 r2 rh : Int) {s : State} (hs : P s) :
    P (firstReadings r0 r1 r2 rh s) :=
  h.humidityReading rh (h.probeRound r0 r1 r2 hs)

theorem warmUpExpiry (h : SharingUpkeep Told P) {s : State} (hs : P s) : P (warmUpExpiry s) := by
  unfold Machine.warmUpExpiry; split
  · exact h.congr (s := s) rfl hs
  · exact hs

theorem trackingExpiry (h : SharingUpkeep Told P) {s : State} (hs : P s) : P (trackingExpiry s) := by
  unfold Machine.trackingExpiry; split
  · exact h.congr (s := s) rfl hs
  · exact hs

/-! ## Keys and the cycle's timers -/

theorem startCycle (h : SharingUpkeep Told P) (p : Fin 8) {s : State} (hs : P s) : P (startCycle p s) := by
  unfold Machine.startCycle; split
  · exact hs
  · exact h.enterPhase _ _ (h.congr (s := s) rfl hs)

theorem resumeCycle (h : SharingUpkeep Told P) {s : State} (hs : P s) : P (resumeCycle s) := by
  unfold Machine.resumeCycle; split
  · exact hs
  · exact h.checkWater (h.handOver (h.congr (s := s) rfl hs))

theorem cycleStart (h : SharingUpkeep Told P) (p : Fin 8) {s : State} (hs : P s) : P (cycleStart p s) := by
  unfold Machine.cycleStart; split
  · split
    · exact h.checkLock (h.startCycle p hs)
    · exact hs
  · split
    · exact h.checkLock (h.resumeCycle hs)
    · exact hs
  all_goals exact hs

theorem cycleCancel (h : SharingUpkeep Told P) {s : State} (hs : P s) : P (cycleCancel s) := by
  have idled : P (Machine.checkLock (Machine.handOver (Machine.leaveTo .idle s))) := h.leftAndHanded .idle hs
  have cooled : P (enterCancelCool s) := h.handOver (h.congr (s := Machine.leaveTo .cancelCool s) rfl (h.leaveTo _ hs))
  have stopped : P (Machine.checkLock
      (if coolTemp ≤ s.climate.tmax then enterCancelCool s else Machine.handOver (Machine.leaveTo .idle s))) := by
    split
    · exact h.checkLock cooled
    · exact idled
  have unhalted : P (if s.faults.activeClass = some .a then s
      else Machine.checkLock (Machine.handOver (Machine.leaveTo .idle s))) := by
    split
    · exact hs
    · exact idled
  unfold Machine.cycleCancel; split
  all_goals first
    | exact hs
    | exact stopped
    | exact unhalted
    | exact idled

theorem startPress (h : SharingUpkeep Told P) (sel2 sel1 sel0 : Bool) {s : State} (hs : P s) :
    P (startPress sel2 sel1 sel0 s) := by
  have clicked : P (sound .click { s with panel := { s.panel with start := KeyLine.steady true } }) :=
    h.congr (s := s) rfl hs
  unfold Machine.startPress; dsimp only; split
  · split
    · exact h.cycleStart _ clicked
    · exact clicked
  · exact hs

theorem cancelPress (h : SharingUpkeep Told P) {s : State} (hs : P s) : P (cancelPress s) := by
  have clicked : P (sound .click
      { s with panel := { s.panel with cancel := KeyLine.steady true, longPress := some longPressMs } }) :=
    h.congr (s := s) rfl hs
  unfold Machine.cancelPress; dsimp only; split
  · split
    · exact h.cycleCancel clicked
    · exact clicked
  · exact hs

theorem secondExpiry (h : SharingUpkeep Told P) {s : State} (hs : P s) : P (secondExpiry s) := by
  have ticked (c : Cycle) : P { s with cycle := c } := h.congr (s := s) rfl hs
  unfold Machine.secondExpiry; dsimp only; split
  · split
    · exact h.handOver (ticked _)
    · split
      · exact h.checkLock (h.endPhase (ticked _))
      · exact ticked _
  · exact hs

theorem pauseExpiry (h : SharingUpkeep Told P) {s : State} (hs : P s) : P (pauseExpiry s) := by
  unfold Machine.pauseExpiry; split
  · exact h.congr (s := Machine.checkLock (Machine.handOver (Machine.leaveTo .idle s))) rfl (h.leftAndHanded .idle hs)
  · exact hs

theorem cancelCoolExpiry (h : SharingUpkeep Told P) {s : State} (hs : P s) : P (cancelCoolExpiry s) := by
  unfold Machine.cancelCoolExpiry; split
  · exact h.leftAndHanded .idle hs
  · exact hs

/-! ## The panel -/

theorem keyRelease (h : SharingUpkeep Told P) (key : Key) {s : State} (hs : P s) : P (keyRelease key s) := by
  unfold Machine.keyRelease; split
  · exact h.congr (s := s) rfl hs
  · exact hs

theorem longPress (h : SharingUpkeep Told P) {s : State} (hs : P s) : P (longPress s) := by
  unfold Machine.longPress; dsimp only; split
  · split <;> exact h.congr (s := s) rfl hs
  · exact hs

theorem displayStep (h : SharingUpkeep Told P) {s : State} (hs : P s) : P (displayStep s) := by
  unfold Machine.displayStep; split
  · exact hs
  · split <;> exact h.congr (s := s) rfl hs

end SharingUpkeep

/-! ## The cabinet's commands -/

/-- The commands of the cabinet: keys and panel, door, water, lock, fan, trip line, probes, humidity and the timers of the cycle. -/
def OfCabinet : Instr → Prop
  | .keyLineChange _ _ | .startPress _ _ _ | .cancelPress | .keyRelease _ | .longPress | .historyDisplayStep | .doorOpen
  | .doorClose | .waterLevelChange _ | .lockSenseChange _ | .tachPulse | .tripLineChange _ | .probeRound _ _ _
  | .humiditySample _ | .warmUpExpiry | .trackingExpiry | .secondTimerExpiry | .pauseTimerExpiry | .cancelCoolTimerExpiry
  | .tachWatchdogExpiry | .lockConfirmExpiry | .buzzerStep | .lampFlashToggle => True
  | _ => False

/-- A command taken outside reset keeps what its effect keeps, and in reset what the level of its line does not touch. -/
theorem kept_of_live {P : State → Prop} {f : State → State} {u t : State} (hu : P u) (hf : u.inReset = false → P (f u))
    (e : live f u = .next t) : P t := by
  cases hr : u.inReset with
  | true =>
    rw [live_of_reset hr, Host.Outcome.next.injEq] at e
    exact e ▸ hu
  | false =>
    rw [live_of_live hr, Host.Outcome.next.injEq] at e
    exact e ▸ hf hr

/-- Every command of the cabinet keeps the invariant, in reset too. -/
theorem SharingUpkeep.exec_cabinet {Told : FaultKind → Prop} {P : State → Prop} (h : SharingUpkeep Told P) {c : Instr}
    {s t : State} (hs : P s) (e : exec c s = .next t) (hc : OfCabinet c) : P t := by
  have onLine (l : Lines) : P { s with lines := l } := h.congr (s := s) rfl hs
  cases c with
  | keyLineChange key pressed =>
    have keyed (p : Panel) : P { s with panel := p } := h.congr (s := s) rfl hs
    exact kept_of_live (f := fun u => { u with panel := onKey key (rawLevel pressed) u.panel })
      (keyed (onKey key (fun k => { k with raw := pressed }) s.panel)) (fun _ => keyed _) e
  | startPress sel2 sel1 sel0 => exact kept_of_live hs (fun _ => h.startPress sel2 sel1 sel0 hs) e
  | cancelPress => exact kept_of_live hs (fun _ => h.cancelPress hs) e
  | keyRelease key => exact kept_of_live hs (fun _ => h.keyRelease key hs) e
  | longPress => exact kept_of_live hs (fun _ => h.longPress hs) e
  | historyDisplayStep => exact kept_of_live hs (fun _ => h.displayStep hs) e
  | doorOpen => exact kept_of_live (onLine _) (fun _ => h.doorOpened (onLine _)) e
  | doorClose => exact kept_of_live (onLine _) (fun _ => h.settle (onLine _)) e
  | waterLevelChange adequate => exact kept_of_live (onLine _) (fun _ => h.waterReported (onLine _)) e
  | lockSenseChange locked => exact kept_of_live (onLine _) (fun _ => h.lockReported s.lines.locked (onLine _)) e
  | tachPulse => exact kept_of_live hs (fun _ => h.tachPulse hs) e
  | tripLineChange active =>
    exact kept_of_live (f := fun u => Machine.evalOverTemp (Machine.settle u)) (onLine _)
      (fun _ => h.evalOverTemp (h.settle (onLine _))) e
  | probeRound p0 p1 p2 => exact kept_of_live hs (fun _ => h.probeRound p0 p1 p2 hs) e
  | humiditySample rh => exact kept_of_live hs (fun _ => h.humidityReading rh hs) e
  | warmUpExpiry => exact kept_of_live hs (fun _ => h.warmUpExpiry hs) e
  | trackingExpiry => exact kept_of_live hs (fun _ => h.trackingExpiry hs) e
  | secondTimerExpiry => exact kept_of_live hs (fun _ => h.secondExpiry hs) e
  | pauseTimerExpiry => exact kept_of_live hs (fun _ => h.pauseExpiry hs) e
  | cancelCoolTimerExpiry => exact kept_of_live hs (fun _ => h.cancelCoolExpiry hs) e
  | tachWatchdogExpiry => exact kept_of_live hs (fun _ => h.tachExpiry hs) e
  | lockConfirmExpiry => exact kept_of_live hs (fun _ => h.lockConfirmExpiry hs) e
  | buzzerStep => exact kept_of_live hs (fun _ => h.congr (s := s) rfl hs) e
  | lampFlashToggle =>
    exact kept_of_live (f := fun u => { u with panel := { u.panel with phaseLamp := u.panel.phaseLamp.toggled } }) hs
      (fun _ => h.congr (s := s) rfl hs) e
  | _ => exact hc.elim

end Sys2Proof.Machine

namespace Sys2Proof.Machine

/-! PROOFS. Power upkeep: what the Membership Controller, the Share Line and the Load Share Unit's timers keep of grant and allowance.
Each of their operations either leaves both as they are or ends in a computation, which sets them afresh from the state; an
invariant that a computation establishes in every state is kept by all of them. -/

/-- What an invariant of the power shared may rest on: grant, allowance, shed hold, want, the membership state and the blocks below. -/
def powerView (s : State) : Nat × Nat × Nat × Nat × MemberState × Straps × Feeder × Option FaultKind × List FaultKind × Bool :=
  (s.share.grant, s.share.allowance, s.share.hold, s.request.want, s.member.st, s.straps, s.feeder, s.faults.active,
    s.faults.waiting, s.inReset)

/-- What no computation sets and no notice of the line changes: straps, Feeder Supervisor and fault lists. -/
def mainsView (s : State) : Straps × Feeder × Option FaultKind × List FaultKind × Bool :=
  (s.straps, s.feeder, s.faults.active, s.faults.waiting, s.inReset)

theorem powerView_of_sharingView {s t : State} (h : sharingView t = sharingView s) : powerView t = powerView s := by
  simp only [sharingView, Prod.mk.injEq] at h
  obtain ⟨hmember, -, hshare, hstraps, hfeeder, hwant, hactive, hwaiting, hreset⟩ := h
  simp [powerView, hmember, hshare, hstraps, hfeeder, hwant, hactive, hwaiting, hreset]

/-- The end of the raise-ready timer's computation: the allowance goes up to a claim within the new grant (R94). -/
def freed (target : Nat) (s : State) : State :=
  settle { compute s with share := { (compute s).share with allowance := min target (compute s).share.grant } }

/-- What the operations of the line and of load sharing need of an invariant to keep it. -/
structure PowerUpkeep (Told : FaultKind → Prop) (P : State → Prop) : Prop where
  told : ∀ {k}, k ≠ .mainsLost → Told k
  congr : ∀ {s t}, powerView t = powerView s → P s → P t
  raised : ∀ {k s}, Told k → P s → P { s with faults := raiseInto k s.faults }
  withdrawn : ∀ {k s}, Told k → P s → P { s with faults := withdrawFrom k s.faults }
  computed : ∀ {s t}, mainsView t = mainsView s → P s → P (compute t)
  freed : ∀ {s t n}, mainsView t = mainsView s → P s → P (freed n t)

namespace PowerUpkeep

variable {Told : FaultKind → Prop} {P : State → Prop}

/-! ## The notice slot -/

theorem beginSending (h : PowerUpkeep Told P) {s : State} (hs : P s) : P (beginSending s) := by
  unfold Machine.beginSending; split
  · exact hs
  · exact h.congr (s := s) rfl hs

theorem handFramer (h : PowerUpkeep Told P) {s : State} (hs : P s) : P (handFramer s) := by
  unfold Machine.handFramer; split
  · split
    · exact h.beginSending hs
    · exact h.congr (s := s) rfl hs
  · exact hs

theorem framerRest (h : PowerUpkeep Told P) {s : State} (hs : P s) : P (framerRest s) := by
  unfold Machine.framerRest; split
  · exact h.congr (s := s) rfl hs
  · exact hs

theorem fillSlot (h : PowerUpkeep Told P) (k : NoticeKind) {s : State} (hs : P s) : P (fillSlot k s) :=
  h.handFramer (h.congr (s := compute { s with share := { s.share with raiseReady := none } }) rfl (h.computed (s := s) rfl hs))

theorem noteLoad_st (k kept : NoticeKind) (m : Membership) : (noteLoad k kept m).st = m.st := by
  unfold noteLoad; split
  · rfl
  · split <;> rfl
  all_goals rfl

theorem loadNotice (h : PowerUpkeep Told P) (k : NoticeKind) {s : State} (hs : P s) : P (loadNotice k s) := by
  unfold Machine.loadNotice; split
  · exact h.congr (s := s) rfl hs
  · exact h.fillSlot _ (h.congr (s := s) (by simp [powerView, noteLoad_st]) hs)

theorem refreshSlot (h : PowerUpkeep Told P) {s : State} (hs : P s) : P (refreshSlot s) := by
  unfold Machine.refreshSlot; split
  · exact hs
  · exact h.fillSlot _ hs

theorem endAttempt (h : PowerUpkeep Told P) {s : State} (hs : P s) : P (endAttempt s) := by
  have ended : P { s with member := { s.member with inFlight := false, heldOver := none } } := h.congr (s := s) rfl hs
  unfold Machine.endAttempt; dsimp only; split
  · exact h.loadNotice _ ended
  · exact h.refreshSlot ended

theorem clearLineFree (h : PowerUpkeep Told P) {s : State} (hs : P s) : P (clearLineFree s) := by
  unfold Machine.clearLineFree; split
  · exact h.congr (s := s) rfl hs
  · exact hs

theorem startHold (h : PowerUpkeep Told P) (originated : Bool) {s : State} (hs : P s) : P (startHold originated s) := by
  unfold Machine.startHold; split
  · exact hs
  · exact h.computed (s := s) rfl hs

/-- What the line keeps the cabinet keeps too. -/
theorem sharing (h : PowerUpkeep Told P) : SharingUpkeep Told P where
  told := h.told
  congr hv := h.congr (powerView_of_sharingView hv)
  raised := h.raised
  withdrawn := h.withdrawn
  computed {s _} hs := h.computed (s := s) rfl hs
  loaded _ hs := h.loadNotice .demand hs

/-! ## Membership -/

theorem reportFault (h : PowerUpkeep Told P) {k : FaultKind} (hk : k ≠ .mainsLost) (b : Bool) {s : State} (hs : P s) :
    P (reportFault k b s) :=
  h.sharing.reportFault (h.told hk) b hs

theorem enterJoinListen (h : PowerUpkeep Told P) {s : State} (hs : P s) : P (enterJoinListen s) := h.computed (s := s) rfl hs

theorem enterStandby (h : PowerUpkeep Told P) {s : State} (hs : P s) : P (enterStandby s) := by
  have away : ∀ {u : State}, mainsView u = mainsView s → P (setTable emptyTable (Machine.setMember .standby u)) :=
    fun hu => h.sharing.setTable _ (h.computed hu hs)
  unfold Machine.enterStandby; dsimp only; split
  · exact h.enterJoinListen (away rfl)
  · exact away rfl

theorem setMember (h : PowerUpkeep Told P) (m : MemberState) {s : State} (hs : P s) : P (setMember m s) :=
  h.computed (s := s) rfl hs

theorem enterIsolated (h : PowerUpkeep Told P) {s : State} (hs : P s) : P (enterIsolated s) :=
  h.setMember _ (h.reportFault (k := .lineIsolated) (by decide) true (h.congr (s := s) rfl hs))

theorem exitIsolated (h : PowerUpkeep Told P) {s : State} (hs : P s) : P (exitIsolated s) :=
  h.enterJoinListen (h.sharing.setTable emptyTable (h.congr (s := s) rfl hs))

theorem enterDuplicate (h : PowerUpkeep Told P) {s : State} (hs : P s) : P (enterDuplicate s) :=
  h.reportFault (by decide) _ (h.computed (s := s) rfl hs)

theorem enterJoinAsk (h : PowerUpkeep Told P) {s : State} (hs : P s) : P (enterJoinAsk s) :=
  h.loadNotice _ (h.computed (s := s) rfl hs)

theorem enterJoinConfirm (h : PowerUpkeep Told P) {s : State} (hs : P s) : P (enterJoinConfirm s) :=
  h.loadNotice _ (h.computed (s := s) rfl hs)

theorem enterMember (h : PowerUpkeep Told P) (held : Nat) {s : State} (hs : P s) : P (enterMember held s) := by
  have joined : ∀ {u : State}, mainsView u = mainsView s → P (Machine.reportFault .lineIsolated false (Machine.setMember .member u)) :=
    fun hu => h.reportFault (by decide) _ (h.computed hu hs)
  unfold Machine.enterMember; dsimp only; split
  · exact h.loadNotice _ (joined rfl)
  · exact joined rfl

theorem memberPower (h : PowerUpkeep Told P) {s : State} (hs : P s) : P (memberPower s) := by
  have leaving : P (Machine.loadNotice .leave (Machine.setMember .leaving s)) := h.loadNotice _ (h.computed (s := s) rfl hs)
  unfold Machine.memberPower; split
  all_goals first
    | exact hs
    | exact leaving
    | exact h.enterStandby hs
    | exact h.enterJoinListen hs
    | exact h.congr (s := s) rfl hs

theorem ownAddress (h : PowerUpkeep Told P) (k : NoticeKind) {s : State} (hs : P s) : P (ownAddress k s) := by
  have defended : P (defendAddress s) := by
    unfold defendAddress; split
    · exact h.loadNotice _ (h.congr (s := s) rfl hs)
    · exact h.loadNotice _ hs
  have duplicate : P (Machine.enterDuplicate s) := h.enterDuplicate hs
  have asked : P (if k = .joinAsk then defendAddress s else Machine.enterDuplicate s) := by
    split
    · exact defended
    · exact duplicate
  unfold Machine.ownAddress; split
  all_goals first
    | exact hs
    | exact asked
    | exact duplicate

/-! ## The Share Line -/

theorem deliver (h : PowerUpkeep Told P) (addr : Nat) (n : Notice) {s : State} (hs : P s) : P (deliver addr n s) := by
  unfold Machine.deliver; dsimp only; split
  · have seen : P (frameSeen s) := h.clearLineFree (h.congr (s := s) rfl hs)
    refine h.framerRest (h.endAttempt ?_)
    split
    · exact h.ownAddress _ seen
    · exact h.sharing.setTable _ seen
  · exact hs

theorem discardFrame (h : PowerUpkeep Told P) {s : State} (hs : P s) : P (discardFrame s) := by
  unfold Machine.discardFrame; split
  · exact h.framerRest (h.endAttempt (h.clearLineFree (h.congr (s := s) rfl hs)))
  · exact hs

theorem idleHoldExpiry (h : PowerUpkeep Told P) {s : State} (hs : P s) : P (idleHoldExpiry s) := by
  unfold Machine.idleHoldExpiry; split
  · split
    all_goals first
      | exact hs
      | exact h.beginSending hs
      | exact h.congr (s := s) rfl hs
  · exact hs

theorem loseArbitration (h : PowerUpkeep Told P) (bit : Nat) {s : State} (hs : P s) : P (loseArbitration bit s) := by
  unfold Machine.loseArbitration; split
  · exact hs
  · split
    · exact h.congr (s := s) rfl hs
    · exact hs

theorem completionAction (h : PowerUpkeep Told P) (n : Notice) {s : State} (hs : P s) : P (completionAction n s) := by
  unfold Machine.completionAction
  cases n with
  | joinAsk =>
    cases s.member.st with
    | joinAsk => exact h.computed (s := s) rfl hs
    | _ => exact hs
  | joinConfirm =>
    cases s.member.st with
    | joinConfirm => exact h.enterMember _ hs
    | _ => exact hs
  | leave =>
    cases s.member.st with
    | leaving => exact h.enterStandby hs
    | _ => exact hs
  | _ => exact hs

theorem loadHeldOver (h : PowerUpkeep Told P) {s : State} (hs : P s) : P (loadHeldOver s) := by
  unfold Machine.loadHeldOver; split
  · exact hs
  · exact h.loadNotice _ (h.congr (s := s) rfl hs)

theorem complete (h : PowerUpkeep Told P) (n : Notice) {s : State} (hs : P s) : P (complete n s) :=
  h.framerRest (h.loadHeldOver (h.completionAction n (h.congr (s := s) rfl hs)))

theorem loseLine (h : PowerUpkeep Told P) {otherwise : State → State} {s : State} (hs : P s) (ho : P (otherwise s)) :
    P (loseLine otherwise s) := by
  unfold Machine.loseLine; split
  all_goals first
    | exact ho
    | exact h.enterIsolated hs
    | exact h.enterStandby hs

theorem failAttempt (h : PowerUpkeep Told P) {s : State} (hs : P s) : P (failAttempt s) := by
  unfold Machine.failAttempt; dsimp only; split
  · exact hs
  · have failed (f : Framer) : P { s with framer := f } := h.congr (s := s) rfl hs
    refine h.framerRest ?_
    split
    · exact h.loseLine (failed _) (h.endAttempt (failed _))
    · exact h.endAttempt (failed _)

theorem markSeen (h : PowerUpkeep Told P) (ownPulse inFrame : Bool) {s : State} (hs : P s) :
    P (markSeen ownPulse inFrame s) := by
  have seen : P (Machine.clearLineFree { s with framer := touchLine { s.framer with drive := none } }) :=
    h.clearLineFree (h.congr (s := s) rfl hs)
  have held (own : Bool) {u : State} (hu : P u) : P (if own then u else Machine.startHold false u) := by
    split
    · exact hu
    · exact h.startHold false hu
  unfold Machine.markSeen; dsimp only; split
  · refine h.framerRest ?_
    split
    · exact h.endAttempt (held _ seen)
    · exact held _ seen
  · exact hs

theorem stuckLine (h : PowerUpkeep Told P) {s : State} (hs : P s) : P (stuckLine s) := by
  have stuck : P { s with framer := framerStuck s.framer, member := { s.member with inFlight := false } } :=
    h.congr (s := s) rfl hs
  unfold Machine.stuckLine; split
  · exact hs
  · exact h.loseLine stuck (h.clearLineFree stuck)

theorem releaseStuck (h : PowerUpkeep Told P) {s : State} (hs : P s) : P (releaseStuck s) := by
  unfold Machine.releaseStuck; split
  · exact h.congr (s := s) rfl hs
  · exact hs

theorem lineFreed (h : PowerUpkeep Told P) {s : State} (hs : P s) : P (lineFreed s) := by
  have framed : P { s with framer := { s.framer with lineFreed := none } } := h.congr (s := s) rfl hs
  unfold Machine.lineFreed; dsimp only; split
  · split
    · split
      · exact h.congr (s := s) rfl hs
      · exact h.exitIsolated framed
    · exact framed
  · exact hs

/-! ## Power key and timers -/

theorem powerPress (h : PowerUpkeep Told P) {s : State} (hs : P s) : P (powerPress s) := by
  have clicked : P (sound .click { s with panel := { s.panel with power := KeyLine.steady true } }) :=
    h.congr (s := s) rfl hs
  have powered {u : State} (hu : P u) : P (cyclePower u) := by
    have left (st : CycleState) : P (Machine.memberPower (checkLock (handOver (leaveTo st u)))) :=
      h.memberPower (h.sharing.leftAndHanded st hu)
    unfold cyclePower; split
    all_goals first
      | exact hu
      | exact left .standby
      | exact left .idle
  unfold Machine.powerPress; dsimp only; split
  · split
    · exact powered clicked
    · exact clicked
  · exact hs

theorem memberPeriod (h : PowerUpkeep Told P) {s : State} (hs : P s) : P (memberPeriod s) := by
  have counted (n : Nat) : P { s with member := { s.member with periodCount := n } } := h.congr (s := s) rfl hs
  have told : P (cadence s) := by
    have present (n : Nat) : P { s with member := { s.member with presence := n } } := h.congr (s := s) rfl hs
    unfold cadence; split
    · split
      · exact h.loadNotice _ (present _)
      · exact present _
    · exact h.loadNotice _ (present _)
  unfold Machine.memberPeriod; dsimp only; split
  · split
    · exact h.enterJoinAsk (counted _)
    · exact counted _
  · split
    · exact h.enterJoinConfirm (counted _)
    · exact counted _
  · exact told
  all_goals exact hs

theorem periodExpiry (h : PowerUpkeep Told P) {s : State} (hs : P s) : P (periodExpiry s) := by
  have aged : P (ageTable s) := h.reportFault (by decide) _ (h.congr (s := s) rfl hs)
  unfold Machine.periodExpiry; split
  · exact h.memberPeriod (h.computed (s := ageTable s) rfl aged)
  · exact hs

theorem raiseExpiry (h : PowerUpkeep Told P) {s : State} (hs : P s) : P (raiseExpiry s) := by
  unfold Machine.raiseExpiry; split
  · exact hs
  · exact h.freed (s := s) rfl hs

theorem limitExpiry (h : PowerUpkeep Told P) {s : State} (hs : P s) : P (limitExpiry s) := by
  unfold Machine.limitExpiry; split
  · exact h.computed (s := s) rfl hs
  · exact hs

theorem dwellExpiry (h : PowerUpkeep Told P) {s : State} (hs : P s) : P (dwellExpiry s) := by
  have dwelt : P { s with member := { s.member with dwell := none } } := h.congr (s := s) rfl hs
  unfold Machine.dwellExpiry; dsimp only; split
  · split
    · exact h.exitIsolated dwelt
    · exact dwelt
  · exact hs

end PowerUpkeep

/-! ## The line's commands -/

/-- The commands of membership, load sharing and the Share Line: the power key, the share timers, received notices and the framer's
reports. -/
def OfLine : Instr → Prop
  | .powerPress | .sharePeriodExpiry | .raiseReadyExpiry | .isolationLimitExpiry | .isolationDwellExpiry | .idleHoldExpiry
  | .receiveDemand _ _ _ _ _ _ | .receivePresence _ | .receiveJoinAsk _ _ | .receiveJoinConfirm _ _ _ | .receiveLeave _
  | .frameDiscarded | .arbitrationLost _ | .noticeCompletion | .attemptFailed | .shedMarkSeen _ _ | .lineStuck
  | .lineStuckRelease | .lineFreed => True
  | _ => False

/-- Every command of the line keeps the invariant. -/
theorem PowerUpkeep.exec_line {Told : FaultKind → Prop} {P : State → Prop} (h : PowerUpkeep Told P) {c : Instr}
    {s t : State} (hs : P s) (e : exec c s = .next t) (hc : OfLine c) : P t := by
  cases c with
  | powerPress => exact kept_of_live hs (fun _ => h.powerPress hs) e
  | sharePeriodExpiry => exact kept_of_live hs (fun _ => h.periodExpiry hs) e
  | raiseReadyExpiry => exact kept_of_live hs (fun _ => h.raiseExpiry hs) e
  | isolationLimitExpiry => exact kept_of_live hs (fun _ => h.limitExpiry hs) e
  | isolationDwellExpiry => exact kept_of_live hs (fun _ => h.dwellExpiry hs) e
  | idleHoldExpiry => exact kept_of_live hs (fun _ => h.idleHoldExpiry hs) e
  | receiveDemand addr cls boost want claim draw => exact kept_of_live hs (fun _ => h.deliver _ _ hs) e
  | receivePresence addr => exact kept_of_live hs (fun _ => h.deliver _ _ hs) e
  | receiveJoinAsk addr nonce => exact kept_of_live hs (fun _ => h.deliver _ _ hs) e
  | receiveJoinConfirm addr nonce held => exact kept_of_live hs (fun _ => h.deliver _ _ hs) e
  | receiveLeave addr => exact kept_of_live hs (fun _ => h.deliver _ _ hs) e
  | frameDiscarded => exact kept_of_live hs (fun _ => h.discardFrame hs) e
  | arbitrationLost bit => exact kept_of_live hs (fun _ => h.loseArbitration bit hs) e
  | noticeCompletion =>
    unfold Machine.exec execNoticeCompletion at e
    refine kept_of_live hs (fun _ => ?_) e
    split
    · exact hs
    · exact h.complete _ hs
  | attemptFailed => exact kept_of_live hs (fun _ => h.failAttempt hs) e
  | shedMarkSeen ownPulse inFrame => exact kept_of_live hs (fun _ => h.markSeen ownPulse inFrame hs) e
  | lineStuck => exact kept_of_live hs (fun _ => h.stuckLine hs) e
  | lineStuckRelease => exact kept_of_live hs (fun _ => h.releaseStuck hs) e
  | lineFreed => exact kept_of_live hs (fun _ => h.lineFreed hs) e
  | _ => exact hc.elim

end Sys2Proof.Machine

namespace Sys2Proof.Machine

/-! PROOFS. Allowance within the grant (O53): every computation sets the grant within the want and the allowance within the grant,
and the requests the want comes from stay in range. -/

/-- Outside the three reset commands a command acts on the state with at most the level of a line or a key moved, and is turned away
in reset (log entry 4). -/
theorem exec_eq_live {c : Instr} (hc : isReset c = false) (s : State) :
    ∃ f l p, exec c s = live f { s with lines := l, panel := p } := by
  cases c with
  | powerOnReset | resetPinAssert | resetPinRelease => cases hc
  | keyLineChange key pressed =>
    exact ⟨fun u => { u with panel := onKey key (rawLevel pressed) u.panel }, s.lines, _, rfl⟩
  | tripLineChange active => exact ⟨fun u => evalOverTemp (settle u), { s.lines with trip := active }, s.panel, rfl⟩
  | doorOpen | doorClose | waterLevelChange | lockSenseChange => exact ⟨_, _, s.panel, rfl⟩
  | noticeCompletion => exact ⟨fun u => match attempt u with | none => u | some x => complete x.notice u, s.lines, s.panel, rfl⟩
  | lampFlashToggle =>
    exact ⟨fun u => { u with panel := { u.panel with phaseLamp := u.panel.phaseLamp.toggled } }, s.lines, s.panel, rfl⟩
  | _ => exact ⟨_, s.lines, s.panel, rfl⟩

/-! ## The feeder's commands -/

namespace PowerUpkeep

variable {P : State → Prop}

theorem halfCycleEvent {Told : FaultKind → Prop} (h : PowerUpkeep Told P) {s : State} (hs : P s) : P (halfCycleEvent s) :=
  h.congr (s := s) rfl hs

theorem sagTest (h : PowerUpkeep (fun _ => True) P) (hf : ∀ {s f}, P s → P { s with feeder := f }) (dominant : Nat) {s : State}
    (hs : P s) : P (sagTest dominant s) := by
  have marked {u : State} (hu : P u) : P (requestMark dominant u) := by
    unfold requestMark; split
    · exact hu
    · exact h.congr (s := u) rfl hu
  unfold Machine.sagTest; dsimp only; split
  · split
    · exact h.startHold true (marked (hf hs))
    · exact hf hs
  · exact hf hs

theorem learnCross (h : PowerUpkeep (fun _ => True) P) (hf : ∀ {s f}, P s → P { s with feeder := f }) (since : Nat) {s : State}
    (hs : P s) : P (learnCross since s) := by
  have judged {u : State} (hu : P u) : P (judgeLearning u) := by
    unfold judgeLearning; dsimp only; split
    · split
      · exact h.enterJoinListen (hf hu)
      · exact h.halfCycleEvent (h.enterJoinListen (hf hu))
    · exact h.sharing.reportFault trivial _ (hf hu)
  unfold Machine.learnCross; dsimp only; split
  · split
    · exact judged (hf hs)
    · exact hf hs
  · exact hf hs

/-- An invariant of power that says nothing of the Feeder Supervisor is kept by its commands too. -/
theorem exec_feeder (h : PowerUpkeep (fun _ => True) P) (hf : ∀ {s f}, P s → P { s with feeder := f }) {c : Instr} {s t : State}
    (hs : P s) (e : exec c s = .next t)
    (hc : (∃ since dominant, c = .zeroCross since dominant) ∨ c = .zeroCrossWatchdogExpiry ∨ c = .resumeTimerExpiry ∨
      ∃ steps, c = .amplitudeSenseReading steps) : P t := by
  obtain ⟨since, dominant, rfl⟩ | rfl | rfl | ⟨steps, rfl⟩ := hc
  · refine kept_of_live hs (fun _ => ?_) e
    unfold zeroCross; split
    · split
      · exact hs
      · exact hf (h.learnCross hf since hs)
      · refine hf (h.halfCycleEvent (hf ?_))
        split
        · exact h.sagTest hf dominant hs
        · exact hs
      · refine hf ?_
        unfold lostCross; split
        · exact hs
        · exact hf hs
    · exact hs
  · refine kept_of_live hs (fun _ => ?_) e
    unfold watchdogExpiry; split
    · split
      · exact hs
      · exact h.sharing.reportFault trivial _ (hf hs)
      · exact h.sharing.reportFault trivial _ (h.congr (s := { s with feeder := _ }) rfl (hf hs))
      · exact hf hs
    · exact hs
  · refine kept_of_live hs (fun _ => ?_) e
    unfold resumeExpiry; split
    · exact h.sharing.reportFault trivial _ (hf hs)
    · exact hs
  · exact kept_of_live hs (fun _ => hf hs) e

/-- Every command but the end of the strap window and the three of the reset keeps such an invariant. -/
theorem exec (h : PowerUpkeep (fun _ => True) P) (hf : ∀ {s f}, P s → P { s with feeder := f }) {c : Instr} {s t : State}
    (hs : P s) (e : exec c s = .next t) (hreset : isReset c = false)
    (hstraps : ∀ addr cap bank, c ≠ .strapWindowEnd addr cap bank) : P t := by
  cases c with
  | powerOnReset | resetPinAssert | resetPinRelease => cases hreset
  | strapWindowEnd addr cap bank => exact absurd rfl (hstraps addr cap bank)
  | zeroCross since dominant => exact h.exec_feeder hf hs e (.inl ⟨since, dominant, rfl⟩)
  | zeroCrossWatchdogExpiry => exact h.exec_feeder hf hs e (.inr (.inl rfl))
  | resumeTimerExpiry => exact h.exec_feeder hf hs e (.inr (.inr (.inl rfl)))
  | amplitudeSenseReading steps => exact h.exec_feeder hf hs e (.inr (.inr (.inr ⟨steps, rfl⟩)))
  | powerPress | sharePeriodExpiry | raiseReadyExpiry | isolationLimitExpiry | isolationDwellExpiry | idleHoldExpiry
  | receiveDemand | receivePresence | receiveJoinAsk | receiveJoinConfirm | receiveLeave | frameDiscarded | arbitrationLost
  | noticeCompletion | attemptFailed | shedMarkSeen | lineStuck | lineStuckRelease | lineFreed =>
    exact h.exec_line hs e trivial
  | _ => exact h.sharing.exec_cabinet hs e trivial

end PowerUpkeep

/-! ## Live states stay live, and in reset the requests stay -/

theorem liveUpkeep : PowerUpkeep (fun _ => True) Live where
  told _ := trivial
  congr {s t} hv hs := by
    simp only [powerView, Prod.mk.injEq] at hv
    obtain ⟨-, -, -, -, -, -, -, -, -, hreset⟩ := hv
    exact hreset.trans hs
  raised _ := id
  withdrawn _ := id
  computed {s t} hv hs := by
    simp only [mainsView, Prod.mk.injEq] at hv
    obtain ⟨-, -, -, -, hreset⟩ := hv
    exact (compute_inReset t).trans (hreset.trans hs)
  freed {s t n} hv hs := by
    simp only [mainsView, Prod.mk.injEq] at hv
    obtain ⟨-, -, -, -, hreset⟩ := hv
    exact (settle_inReset _).trans ((compute_inReset t).trans (hreset.trans hs))

theorem powerOn_live (p0 p1 p2 rh : Int) (s : State) : Live (powerOn p0 p1 p2 rh s) :=
  liveUpkeep.sharing.firstReadings p0 p1 p2 rh (settle_inReset _)

theorem releaseReset_live (p0 p1 p2 rh : Int) (s : State) : Live (releaseReset p0 p1 p2 rh s) := by
  unfold releaseReset; split
  · exact liveUpkeep.sharing.firstReadings p0 p1 p2 rh
      (liveUpkeep.enterJoinListen (s := keepLearned s (freshStart s)) (settle_inReset _))
  · exact powerOn_live p0 p1 p2 rh s

/-- Only the assertion of the RESET input stops a part that takes events. -/
theorem exec_live {c : Instr} (hc : c ≠ .resetPinAssert) {s t : State} (hl : Live s) (e : exec c s = .next t) : Live t := by
  cases c with
  | powerOnReset p0 p1 p2 rh => exact Host.Outcome.next.inj e ▸ powerOn_live p0 p1 p2 rh s
  | resetPinAssert => exact absurd rfl hc
  | resetPinRelease p0 p1 p2 rh => exact Host.Outcome.next.inj e ▸ releaseReset_live p0 p1 p2 rh s
  | strapWindowEnd addr cap bank =>
    refine kept_of_live hl (fun _ => ?_) e
    unfold strapWindowEnd; split <;> exact hl
  | _ => exact liveUpkeep.exec (fun hs => hs) hl e rfl (fun _ _ _ => nofun)

/-- A part held in reset keeps its requests (log entry 23). -/
theorem exec_request_of_reset {c : Instr} {s t : State} (e : exec c s = .next t) (hr : t.inReset = true) :
    t.request = s.request := by
  have stopped : ¬Live t := by simp [hr]
  by_cases hassert : c = .resetPinAssert
  · subst hassert
    obtain rfl : assertReset s = t := Host.Outcome.next.inj e
    rfl
  cases hc : isReset c with
  | true =>
    cases c with
    | powerOnReset p0 p1 p2 rh => exact absurd (Host.Outcome.next.inj e ▸ powerOn_live p0 p1 p2 rh s) stopped
    | resetPinAssert => exact absurd rfl hassert
    | resetPinRelease p0 p1 p2 rh => exact absurd (Host.Outcome.next.inj e ▸ releaseReset_live p0 p1 p2 rh s) stopped
    | _ => cases hc
  | false =>
    have held : s.inReset = true := by
      by_contra hl
      exact stopped (exec_live hassert (Bool.eq_false_iff.2 hl) e)
    obtain ⟨f, l, p, heq⟩ := exec_eq_live hc s
    rw [heq, live_of_reset (s := { s with lines := l, panel := p }) held, Host.Outcome.next.injEq] at e
    exact e ▸ rfl

/-! ## Requests in range -/

/-- The phase record is the ROM's and the requests are in range. -/
def RequestsRanged (s : State) : Prop := RecordFromRom s ∧ RequestInRange s.request

theorem recordFromRom_congr {s t : State} (hv : phaseView t = phaseView s) (h : RecordFromRom s) : RecordFromRom t := by
  obtain ⟨hphase, -⟩ := phaseView_fields hv
  obtain ⟨-, hprog, hidx, hrec, -⟩ := (keepsPhase_iff s t).1 hphase
  simpa [RecordFromRom, hprog, hidx, hrec] using h

theorem requestsRanged_congr {s t : State} (hv : requestView t = requestView s) (h : RequestsRanged s) :
    RequestsRanged t := by
  have hrequest : t.request = s.request := congrArg (fun v => v.2.1) hv
  exact ⟨recordFromRom_congr (phaseView_of_requestView hv) h.1, hrequest ▸ h.2⟩

theorem rangedUpkeep : Upkeep RecordFromRom RecordFromRom RequestsRanged RequestsRanged where
  asked_of_kept := id
  phase_of_asked h := h.1
  late_of_phase := id
  phase_of_late h _ := h
  late_congr := recordFromRom_congr
  phase_congr := recordFromRom_congr
  asked_congr := requestsRanged_congr
  kept_congr hv := requestsRanged_congr (requestView_of_outputView hv)
  settle {s} := requestsRanged_congr (requestView_settle s)
  asked h := ⟨h, formRequest_inRange h⟩
  left _ h := leaveTo_fromRom _ h
  entered _ hr _ := .inr hr.symm
  held _ h := h
  run _ h := h

theorem rangedStepUpkeep : StepUpkeep RecordFromRom RecordFromRom RequestsRanged RequestsRanged where
  toUpkeep := rangedUpkeep
  reset {s} hc _ hr := ⟨.inl (by rw [hc]; rfl), by rw [hr]; unfold RequestInRange; decide⟩
  fired := id
  released := id
  toggled := id
  warmedUp _ := id
  tracked _ := id
  sampled h := rangedUpkeep.checkDryPoint (rangedUpkeep.reportFault _ _ h)
  ticked _ := id
  starving {s} _ h := by
    unfold RecordFromRom starvedSecond
    split <;> exact h
  latched := id
  paused _ := id
  resumed _ _ _ := .inr rfl
  cooled h := leaveTo_fromRom .cancelCool h

/-- Every step keeps the requests in range: out of reset they are formed from the ROM's records, and in reset they stay. -/
theorem step_request_inRange {s t : State} (hrom : RecordFromRom s) (hr : RequestInRange s.request) (e : step s = .next t) :
    RequestInRange t.request := by
  obtain ⟨-, hlive⟩ := rangedStepUpkeep.step (s := s) ⟨hrom, fun _ => ⟨hrom, hr⟩⟩ e
  cases hreset : t.inReset with
  | false => exact (hlive hreset).2
  | true =>
    unfold step at e
    split at e
    · next c rest _ => exact exec_request_of_reset e hreset ▸ hr
    · obtain rfl : idle s = t := Host.Outcome.next.inj e
      rw [(reads_idle s).1]
      exact hr

/-! ## The allowance within the grant -/

/-- The allowance is within the grant and the grant within the want. -/
def GrantBounded (s : State) : Prop := s.share.allowance ≤ s.share.grant ∧ s.share.grant ≤ s.request.want

theorem compute_grantBounded (s : State) : GrantBounded (compute s) := by
  refine ⟨?_, ?_⟩
  · simp only [compute_share_allowance, compute_share_grant]
    split <;> simp
  · simpa using grantOf_le_want s

theorem grantUpkeep : PowerUpkeep (fun _ => True) GrantBounded where
  told _ := trivial
  congr {s t} hv h := by
    simp only [powerView, Prod.mk.injEq] at hv
    obtain ⟨hgrant, hallowance, -, hwant, -⟩ := hv
    rwa [GrantBounded, hgrant, hallowance, hwant]
  raised _ := id
  withdrawn _ := id
  computed {_ t} _ _ := compute_grantBounded t
  freed {_ t n} _ _ := by
    refine ⟨?_, ?_⟩
    · simp [freed]
    · simpa [freed] using grantOf_le_want t

theorem freshStart_grantBounded (s : State) : GrantBounded (freshStart s) := by
  simp [GrantBounded, freshStart, State.reset, LoadShare.reset]

theorem powerOn_grantBounded (p0 p1 p2 rh : Int) (s : State) : GrantBounded (powerOn p0 p1 p2 rh s) :=
  grantUpkeep.sharing.firstReadings p0 p1 p2 rh (freshStart_grantBounded s)

theorem releaseReset_grantBounded (p0 p1 p2 rh : Int) (s : State) : GrantBounded (releaseReset p0 p1 p2 rh s) := by
  unfold releaseReset; split
  · exact grantUpkeep.sharing.firstReadings p0 p1 p2 rh (compute_grantBounded _)
  · exact powerOn_grantBounded p0 p1 p2 rh s

theorem exec_grantBounded {c : Instr} {s t : State} (h : GrantBounded s) (e : exec c s = .next t) : GrantBounded t := by
  cases c with
  | powerOnReset p0 p1 p2 rh => exact Host.Outcome.next.inj e ▸ powerOn_grantBounded p0 p1 p2 rh s
  | resetPinAssert =>
    obtain rfl : assertReset s = t := Host.Outcome.next.inj e
    exact h
  | resetPinRelease p0 p1 p2 rh => exact Host.Outcome.next.inj e ▸ releaseReset_grantBounded p0 p1 p2 rh s
  | strapWindowEnd addr cap bank =>
    refine kept_of_live h (fun _ => ?_) e
    unfold strapWindowEnd; split <;> exact h
  | _ => exact grantUpkeep.exec (fun hs => hs) h e rfl (fun _ _ _ => nofun)

/-- Settles O53: every computation bounds the allowance by the grant and the grant by the want, no other operation raises either,
and the want stays within 34 units. -/
theorem stepKeepsAllowanceInGrant : Obligations.StepKeepsAllowanceInGrant := by
  intro s t hrom hr ⟨hallowance, hgrant⟩ e
  have bounded : GrantBounded s := ⟨hallowance, hgrant.trans (min_le_left _ _)⟩
  have kept : GrantBounded t := by
    unfold step at e
    split at e
    · exact exec_grantBounded (by exact bounded) e
    · obtain rfl : idle s = t := Host.Outcome.next.inj e
      rw [(reads_idle s).1]
      exact bounded
  obtain ⟨-, -, hwant⟩ := step_request_inRange hrom hr e
  exact ⟨kept.1, le_min kept.2 (kept.2.trans (hwant.trans (by decide)))⟩

end Sys2Proof.Machine

namespace Sys2Proof.Machine

/-! PROOFS. The mains states, the isolated cap and the strap pins (O57). Three walks carry it: the caps on the allowance, which every
computation sets afresh; straps, Feeder Supervisor and MAINS_LOST, which only the feeder's commands and the resets change; and
STANDBY, in which a part that has learned no mains takes no command of the line. -/

/-! ## The caps on the allowance -/

/-- No power where R89 gives none, and none beyond the isolated allowance under a hold and outside MEMBER. -/
def PowerCapped (s : State) : Prop := PowerlessOutside s ∧ IsoCapped s

/-- An allowance within a grant just computed is capped. -/
theorem powerCapped_of_computed {s t : State} (hmember : t.member.st = s.member.st) (hhold : t.share.hold = s.share.hold)
    (hstraps : t.straps = s.straps) (hgrant : t.share.grant = grantOf s) (hallowance : t.share.allowance ≤ grantOf s) :
    PowerCapped t := by
  refine ⟨fun hp => ?_, fun hh => ?_, fun hm => ?_⟩
  · have none : grantOf s = 0 := grantOf_of_powerless (hmember ▸ hp)
    exact ⟨hgrant.trans none, Nat.le_zero.1 (none ▸ hallowance)⟩
  · exact hstraps ▸ hallowance.trans (grantOf_le_iso_of_hold (hhold ▸ hh))
  · exact hstraps ▸ hallowance.trans (grantOf_le_iso_of_not_member (hmember ▸ hm))

theorem compute_powerCapped (s : State) : PowerCapped (compute s) :=
  powerCapped_of_computed (s := s) (by simp) (by simp) (by simp) (by simp) (by rw [compute_share_allowance]; split <;> simp)

theorem freed_powerCapped (n : Nat) (s : State) : PowerCapped (freed n s) :=
  powerCapped_of_computed (s := s) (by simp [freed]) (by simp [freed]) (by simp [freed]) (by simp [freed])
    (by simp [freed])

theorem cappedUpkeep : PowerUpkeep (fun _ => True) PowerCapped where
  told _ := trivial
  congr {s t} hv h := by
    simp only [powerView, Prod.mk.injEq] at hv
    obtain ⟨hgrant, hallowance, hhold, -, hmember, hstraps, -⟩ := hv
    rwa [PowerCapped, PowerlessOutside, IsoCapped, hgrant, hallowance, hhold, hmember, hstraps]
  raised _ := id
  withdrawn _ := id
  computed {_ t} _ _ := compute_powerCapped t
  freed {_ t n} _ _ := freed_powerCapped n t

theorem powerOn_powerCapped (p0 p1 p2 rh : Int) (s : State) : PowerCapped (powerOn p0 p1 p2 rh s) := by
  refine cappedUpkeep.sharing.firstReadings p0 p1 p2 rh ?_
  simp [PowerCapped, PowerlessOutside, IsoCapped, freshStart, State.reset, LoadShare.reset]

/-- The end of the strap window sets an isolated allowance, in a station that stands by and has no allowance. -/
theorem strapWindowEnd_powerCapped (addr : Fin 16) (cap : Fin 8) (bank : Fin 16) {s : State} (hboot : BootQuiet s)
    (h : PowerCapped s) : PowerCapped (strapWindowEnd addr cap bank s) := by
  unfold strapWindowEnd; split
  · next hopen =>
    obtain ⟨hst, -⟩ := hboot (.inl hopen)
    obtain ⟨hnone, -⟩ := h
    obtain ⟨-, hzero⟩ := hnone (.inr (.inr (.inr (.inr hst))))
    exact ⟨hnone, fun _ => hzero.le.trans (Nat.zero_le _), fun _ => hzero.le.trans (Nat.zero_le _)⟩
  · exact h

theorem exec_powerCapped {c : Instr} {s t : State} (hboot : BootQuiet s) (h : PowerCapped s) (e : exec c s = .next t) :
    PowerCapped t := by
  cases c with
  | powerOnReset p0 p1 p2 rh => exact Host.Outcome.next.inj e ▸ powerOn_powerCapped p0 p1 p2 rh s
  | resetPinAssert =>
    obtain rfl : assertReset s = t := Host.Outcome.next.inj e
    exact h
  | resetPinRelease p0 p1 p2 rh =>
    obtain rfl : releaseReset p0 p1 p2 rh s = t := Host.Outcome.next.inj e
    unfold releaseReset; split
    · exact cappedUpkeep.sharing.firstReadings p0 p1 p2 rh (compute_powerCapped _)
    · exact powerOn_powerCapped p0 p1 p2 rh s
  | strapWindowEnd addr cap bank => exact kept_of_live h (fun _ => strapWindowEnd_powerCapped addr cap bank hboot h) e
  | _ => exact cappedUpkeep.exec (fun hs => hs) h e rfl (fun _ _ _ => nofun)

/-! ## Straps, supervisor and MAINS_LOST -/

/-- Straps and Feeder Supervisor are as they were, and MAINS_LOST is held as it was. -/
def MainsStand (s t : State) : Prop :=
  t.straps = s.straps ∧ t.feeder = s.feeder ∧ FaultsOrdered t.faults ∧
    t.faults.holds .mainsLost = s.faults.holds .mainsLost

theorem MainsStand.refl {s : State} (ho : FaultsOrdered s.faults) : MainsStand s s := ⟨rfl, rfl, ho, rfl⟩

theorem mainsStand_of_view {s u t : State} (hv : mainsView t = mainsView u) (h : MainsStand s u) : MainsStand s t := by
  obtain ⟨hstraps, hfeeder, hordered, hheld⟩ := h
  simp only [mainsView, Prod.mk.injEq] at hv
  obtain ⟨hvs, hvf, hactive, hwaiting, -⟩ := hv
  exact ⟨hvs.trans hstraps, hvf.trans hfeeder, faultsOrdered_of_lists hordered hactive hwaiting,
    (holds_of_lists hactive hwaiting _).trans hheld⟩

theorem mainsView_of_powerView {s t : State} (h : powerView t = powerView s) : mainsView t = mainsView s := by
  simp only [powerView, Prod.mk.injEq] at h
  simp [mainsView, h]

theorem mainsView_compute (s : State) : mainsView (compute s) = mainsView s := by simp [mainsView]

theorem mainsView_freed (n : Nat) (s : State) : mainsView (freed n s) = mainsView s := by simp [mainsView, freed]

theorem mainsUpkeep (s : State) : PowerUpkeep (fun k => k ≠ .mainsLost) (MainsStand s) where
  told := id
  congr hv := mainsStand_of_view (mainsView_of_powerView hv)
  raised hk h := by
    obtain ⟨hstraps, hfeeder, hordered, hheld⟩ := h
    exact ⟨hstraps, hfeeder, raiseInto_ordered hordered, (raiseInto_holds_of_ne hk.symm _).trans hheld⟩
  withdrawn hk h := by
    obtain ⟨hstraps, hfeeder, hordered, hheld⟩ := h
    exact ⟨hstraps, hfeeder, withdrawFrom_ordered hordered, (withdrawFrom_holds_of_ne hk.symm hordered).trans hheld⟩
  computed hv h := mainsStand_of_view ((mainsView_compute _).trans hv) h
  freed hv h := mainsStand_of_view ((mainsView_freed _ _).trans hv) h

theorem MainsStand.formed {s t : State} (h : MainsStand s t) (hs : MainsFormed s) : MainsFormed t := by
  obtain ⟨hstraps, hfeeder, -, hheld⟩ := h
  rwa [MainsFormed, hstraps, hfeeder, hheld]

theorem MainsStand.straps {s t : State} (h : MainsStand s t) (hs : StrapsFormed s) : StrapsFormed t := by
  obtain ⟨hstraps, -⟩ := h
  rwa [StrapsFormed, hstraps]

/-! ## Standing by -/

/-- The part has not learned its mains. -/
def Booting (s : State) : Prop := s.straps.window.isSome ∨ s.feeder.st = .notStarted ∨ s.feeder.st = .learning

/-- The station is in STANDBY and will not leave it for JOIN_LISTEN by itself. -/
def StandsBy (s : State) : Prop := s.member.st = .standby ∧ s.member.returnMark = false

theorem standsBy_of_standing {s t : State} (hk : KeepsStanding s t) (h : StandsBy s) : StandsBy t := by
  obtain ⟨hst, hmark⟩ := h
  unfold KeepsStanding at hk
  exact ⟨by rw [hk]; exact hst, by rw [hk]; exact hmark⟩

theorem loadNotice_standsBy (k : NoticeKind) {s : State} (h : StandsBy s) : StandsBy (loadNotice k s) := by
  obtain ⟨-, -, -, hstanding, -⟩ := loadNotice_cabinetFrame k s
  exact standsBy_of_standing hstanding h

theorem endAttempt_standsBy {s : State} (h : StandsBy s) : StandsBy (endAttempt s) := by
  obtain ⟨-, -, -, hstanding, -⟩ := endAttempt_cabinetFrame s
  exact standsBy_of_standing hstanding h

theorem reportFault_standsBy (k : FaultKind) (b : Bool) {s : State} (h : StandsBy s) : StandsBy (reportFault k b s) := by
  obtain ⟨-, -, -, hstanding, -⟩ := reportFault_cabinetFrame k b s
  exact standsBy_of_standing hstanding h

theorem framerRest_standsBy {s : State} (h : StandsBy s) : StandsBy (framerRest s) := by
  unfold StandsBy; rwa [framerRest_member]

theorem beginSending_standsBy {s : State} (h : StandsBy s) : StandsBy (beginSending s) := by
  unfold beginSending; split <;> exact h

theorem clearLineFree_standsBy {s : State} (h : StandsBy s) : StandsBy (clearLineFree s) := by
  unfold clearLineFree; split <;> exact h

theorem setTable_standsBy (table : List Entry) {s : State} (h : StandsBy s) : StandsBy (setTable table s) := by
  have reported := reportFault_standsBy .bankOverflow (overflows s.straps.bankSize table) (s := { s with table := table }) h
  rw [setTable, StandsBy, compute_member]
  exact reported

theorem standsByUpkeep : SharingUpkeep (fun _ => True) StandsBy where
  told _ := trivial
  congr {s t} hv h := by
    have hmember : t.member = s.member := congrArg Prod.fst hv
    rwa [StandsBy, hmember]
  raised _ := id
  withdrawn _ := id
  computed {s r} h := by rwa [StandsBy, compute_member]
  loaded _ := loadNotice_standsBy .demand

/-- A station that stands by takes no notice bearing its own address, starts no hold, and has no line to lose. -/
theorem ownAddress_of_standsBy {s : State} (h : StandsBy s) (k : NoticeKind) : ownAddress k s = s := by
  simp [ownAddress, h.1]

theorem startHold_of_standsBy {s : State} (h : StandsBy s) (originated : Bool) : startHold originated s = s := by
  simp [startHold, h.1]

theorem loseLine_of_standsBy {s : State} (h : StandsBy s) (otherwise : State → State) :
    loseLine otherwise s = otherwise s := by
  simp [loseLine, h.1]

theorem completionAction_of_standsBy {s : State} (h : StandsBy s) (n : Notice) : completionAction n s = s := by
  obtain ⟨hst, -⟩ := h
  unfold completionAction
  rw [hst]
  cases n <;> rfl

theorem deliver_standsBy (addr : Nat) (n : Notice) {s : State} (h : StandsBy s) : StandsBy (deliver addr n s) := by
  have seen : StandsBy (frameSeen s) := clearLineFree_standsBy h
  unfold deliver; dsimp only; split
  · refine framerRest_standsBy (endAttempt_standsBy ?_)
    split
    · rwa [ownAddress_of_standsBy seen]
    · exact setTable_standsBy _ seen
  · exact h

theorem complete_standsBy (n : Notice) {s : State} (h : StandsBy s) : StandsBy (complete n s) := by
  unfold complete; dsimp only
  rw [completionAction_of_standsBy (by exact h)]
  refine framerRest_standsBy ?_
  unfold loadHeldOver; split
  · exact h
  · exact loadNotice_standsBy _ h

theorem failAttempt_standsBy {s : State} (h : StandsBy s) : StandsBy (failAttempt s) := by
  unfold failAttempt; dsimp only; split
  · exact h
  · refine framerRest_standsBy ?_
    rw [loseLine_of_standsBy (by exact h), ite_self]
    exact endAttempt_standsBy h

theorem markSeen_standsBy (ownPulse inFrame : Bool) {s : State} (h : StandsBy s) : StandsBy (markSeen ownPulse inFrame s) := by
  have seen (f : Framer) : StandsBy (clearLineFree { s with framer := f }) := clearLineFree_standsBy h
  unfold markSeen; dsimp only; split
  · refine framerRest_standsBy ?_
    rw [startHold_of_standsBy (seen _), ite_self]
    split
    · exact endAttempt_standsBy (seen _)
    · exact seen _
  · exact h

theorem stuckLine_standsBy {s : State} (h : StandsBy s) : StandsBy (stuckLine s) := by
  unfold stuckLine; split
  · exact h
  · rw [loseLine_of_standsBy (by exact h)]
    exact clearLineFree_standsBy h

theorem idleHoldExpiry_standsBy {s : State} (h : StandsBy s) : StandsBy (idleHoldExpiry s) := by
  unfold idleHoldExpiry; split
  · split
    all_goals first
      | exact h
      | exact beginSending_standsBy h
  · exact h

theorem periodExpiry_standsBy {s : State} (h : StandsBy s) : StandsBy (periodExpiry s) := by
  have aged : StandsBy (ageTable s) := reportFault_standsBy _ _ h
  unfold periodExpiry; split
  · have counted : StandsBy (compute
        { ageTable s with share := { decreaseHold (ageTable s).share with period := some (ageTable s).straps.periodMs } }) := by
      rw [StandsBy, compute_member]; exact aged
    unfold memberPeriod
    simpa [aged.1] using counted
  · exact h

/-- No command of the line takes a station out of STANDBY while no mains is learned: its POWER key is not taken. -/
theorem exec_line_standsBy {c : Instr} {s t : State} (h : StandsBy s) (hl : s.feeder.window = none) (e : exec c s = .next t)
    (hc : OfLine c) : StandsBy t := by
  have isolated : s.member.st ≠ .isolated := by rw [h.1]; decide
  cases c with
  | powerPress =>
    refine kept_of_live h (fun _ => ?_) e
    unfold powerPress learned; dsimp only; split
    · simp only [sound, hl]; exact h
    · exact h
  | sharePeriodExpiry => exact kept_of_live h (fun _ => periodExpiry_standsBy h) e
  | raiseReadyExpiry =>
    refine kept_of_live h (fun _ => ?_) e
    unfold raiseExpiry; split
    · exact h
    · simpa [StandsBy] using h
  | isolationLimitExpiry =>
    refine kept_of_live h (fun _ => ?_) e
    unfold limitExpiry; split
    · simpa [StandsBy] using h
    · exact h
  | isolationDwellExpiry =>
    refine kept_of_live h (fun _ => ?_) e
    unfold dwellExpiry; dsimp only; split
    · rw [if_neg fun both => isolated both.1]; exact h
    · exact h
  | idleHoldExpiry => exact kept_of_live h (fun _ => idleHoldExpiry_standsBy h) e
  | receiveDemand addr cls boost want claim draw => exact kept_of_live h (fun _ => deliver_standsBy _ _ h) e
  | receivePresence addr => exact kept_of_live h (fun _ => deliver_standsBy _ _ h) e
  | receiveJoinAsk addr nonce => exact kept_of_live h (fun _ => deliver_standsBy _ _ h) e
  | receiveJoinConfirm addr nonce held => exact kept_of_live h (fun _ => deliver_standsBy _ _ h) e
  | receiveLeave addr => exact kept_of_live h (fun _ => deliver_standsBy _ _ h) e
  | frameDiscarded =>
    refine kept_of_live h (fun _ => ?_) e
    unfold discardFrame; split
    · exact framerRest_standsBy (endAttempt_standsBy (clearLineFree_standsBy h))
    · exact h
  | arbitrationLost bit =>
    refine kept_of_live h (fun _ => ?_) e
    unfold loseArbitration; split
    · exact h
    · split <;> exact h
  | noticeCompletion =>
    unfold exec execNoticeCompletion at e
    refine kept_of_live h (fun _ => ?_) e
    split
    · exact h
    · exact complete_standsBy _ h
  | attemptFailed => exact kept_of_live h (fun _ => failAttempt_standsBy h) e
  | shedMarkSeen ownPulse inFrame => exact kept_of_live h (fun _ => markSeen_standsBy ownPulse inFrame h) e
  | lineStuck => exact kept_of_live h (fun _ => stuckLine_standsBy h) e
  | lineStuckRelease =>
    refine kept_of_live h (fun _ => ?_) e
    unfold releaseStuck; split <;> exact h
  | lineFreed =>
    refine kept_of_live h (fun _ => ?_) e
    unfold lineFreed; dsimp only; split
    · exact h
    · exact h
  | _ => exact hc.elim

end Sys2Proof.Machine

namespace Sys2Proof.Machine

/-! PROOFS. The mains states through the feeder's own commands, and the settlement of O57. -/

/-- The mains states, the boot and the strap pins are as they should be. -/
def MainsSound (s : State) : Prop := MainsFormed s ∧ BootQuiet s ∧ StrapsFormed s

theorem bootQuiet_iff (s : State) : BootQuiet s ↔ (Booting s → StandsBy s ∧ s.feeder.window = none) := by
  unfold BootQuiet Booting StandsBy; tauto

/-- A running or lost supervisor has learned its mains. -/
theorem bootQuiet_of_learned {s : State} (hw : s.straps.window = none) (hst : s.feeder.st = .running ∨ s.feeder.st = .lost) :
    BootQuiet s := by
  rintro (hopen | hst' | hst')
  · simp [hw] at hopen
  · rcases hst with hst | hst <;> rw [hst] at hst' <;> cases hst'
  · rcases hst with hst | hst <;> rw [hst] at hst' <;> cases hst'

/-- Past its learning the supervisor's strap window is closed. -/
theorem MainsFormed.window_closed {s : State} (h : MainsFormed s) (hst : s.feeder.st ≠ .notStarted) :
    s.straps.window = none := by
  obtain ⟨-, -, -, -, -, hopen⟩ := h
  exact Option.not_isSome_iff_eq_none.1 (mt hopen hst)

/-- Outside LOST no resume timer runs. -/
theorem MainsFormed.no_resume {s : State} (h : MainsFormed s) (hst : s.feeder.st ≠ .lost) : s.feeder.resume = none := by
  obtain ⟨-, -, -, -, hresume, -⟩ := h
  exact Option.not_isSome_iff_eq_none.1 (mt hresume hst)

/-! ## Where the mains stand -/

/-- What keeps straps, supervisor and MAINS_LOST keeps the mains sound, while a booting station keeps standing by. -/
theorem MainsSound.of_stand {s t : State} (h : MainsSound s) (hk : MainsStand s t)
    (hby : StandsBy s → s.feeder.window = none → StandsBy t) : MainsSound t := by
  obtain ⟨hformed, hboot, hpins⟩ := h
  refine ⟨hk.formed hformed, (bootQuiet_iff t).2 fun booting => ?_, hk.straps hpins⟩
  obtain ⟨hstraps, hfeeder, -⟩ := hk
  rw [Booting, hstraps, hfeeder] at booting
  obtain ⟨standing, hnone⟩ := (bootQuiet_iff s).1 hboot booting
  exact ⟨hby standing hnone, hfeeder ▸ hnone⟩

theorem MainsSound.of_cabinet {c : Instr} {s t : State} (h : MainsSound s) (ho : FaultsOrdered s.faults)
    (e : exec c s = .next t) (hc : OfCabinet c) : MainsSound t :=
  h.of_stand ((mainsUpkeep s).sharing.exec_cabinet (.refl ho) e hc) fun hby _ => standsByUpkeep.exec_cabinet hby e hc

theorem MainsSound.of_line {c : Instr} {s t : State} (h : MainsSound s) (ho : FaultsOrdered s.faults)
    (e : exec c s = .next t) (hc : OfLine c) : MainsSound t :=
  h.of_stand ((mainsUpkeep s).exec_line (.refl ho) e hc) fun hby hnone => exec_line_standsBy hby hnone e hc

/-- The half-cycles, peaks and crossings of the supervisor do not show in its state. -/
theorem MainsSound.counted {s : State} (h : MainsSound s) {f : Feeder} (hst : f.st = s.feeder.st)
    (hw : f.window = s.feeder.window) (hn : f.nominal = s.feeder.nominal) (hr : f.resume = s.feeder.resume) :
    MainsSound { s with feeder := f } := by
  obtain ⟨hformed, hboot, hpins⟩ := h
  exact ⟨by simpa [MainsFormed, hst, hw, hn, hr] using hformed, by simpa [BootQuiet, hst, hw] using hboot, hpins⟩

/-- A learned supervisor is sound whatever the membership: it needs its figures and the right word on MAINS_LOST. -/
theorem mainsSound_of_learned {t : State} (hpins : StrapsFormed t) (hclosed : t.straps.window = none)
    (hw : t.feeder.window.isSome = true) (hn : t.feeder.nominal.isSome = true)
    (hst : (t.feeder.st = .running ∧ t.faults.holds .mainsLost = false ∧ t.feeder.resume = none) ∨
      (t.feeder.st = .lost ∧ t.faults.holds .mainsLost = true)) : MainsSound t := by
  refine ⟨?_, bootQuiet_of_learned hclosed (hst.imp And.left And.left), hpins⟩
  obtain ⟨hst, hheld, hresume⟩ | ⟨hst, hheld⟩ := hst
  · simp [MainsFormed, hw, hn, hst, hheld, hresume, hclosed]
  · simp [MainsFormed, hw, hn, hst, hheld, hclosed]

/-! ## Reports of MAINS_LOST -/

theorem reportFault_straps_feeder (k : FaultKind) (b : Bool) (s : State) :
    (reportFault k b s).straps = s.straps ∧ (reportFault k b s).feeder = s.feeder := by
  obtain ⟨⟨hstraps, -⟩, -, hfeeder, -⟩ := reportFault_cabinetFrame k b s
  exact ⟨hstraps, hfeeder⟩

/-- A learned supervisor that has reported what its state asks for is sound. -/
theorem mainsSound_reportFault {s : State} (b : Bool) (ho : FaultsOrdered s.faults) (hpins : StrapsFormed s)
    (hclosed : s.straps.window = none) (hw : s.feeder.window.isSome = true) (hn : s.feeder.nominal.isSome = true)
    (hst : (s.feeder.st = .running ∧ b = false ∧ s.feeder.resume = none) ∨ (s.feeder.st = .lost ∧ b = true)) :
    MainsSound (reportFault .mainsLost b s) := by
  obtain ⟨hstraps, hfeeder⟩ := reportFault_straps_feeder .mainsLost b s
  have taken := reportTaken_reportFault (k := .mainsLost) (by decide) (by decide) b ho
  refine mainsSound_of_learned ?_ (hstraps ▸ hclosed) (hfeeder ▸ hw) (hfeeder ▸ hn) ?_
  · rwa [StrapsFormed, hstraps]
  · rw [hfeeder, taken.reported]; exact hst

/-- A supervisor that goes on learning is sound whether MAINS_LOST is held or not. -/
theorem MainsSound.reported_in_learning {s : State} (h : MainsSound s) (hst : s.feeder.st = .learning) (b : Bool) :
    MainsSound (reportFault .mainsLost b s) := by
  obtain ⟨hformed, hboot, hpins⟩ := h
  obtain ⟨hstraps, hfeeder⟩ := reportFault_straps_feeder .mainsLost b s
  obtain ⟨hstanding, hnone⟩ := (bootQuiet_iff s).1 hboot (.inr (.inr hst))
  have hclosed := hformed.window_closed (by simp [hst])
  have hresume := hformed.no_resume (by simp [hst])
  obtain ⟨hfigures, -⟩ := hformed
  refine ⟨?_, (bootQuiet_iff _).2 fun _ => ⟨reportFault_standsBy _ _ hstanding, hfeeder ▸ hnone⟩, ?_⟩
  · rw [MainsFormed, hstraps, hfeeder]
    simp [hst, hresume, hclosed, hfigures]
  · rwa [StrapsFormed, hstraps]

/-! ## Zero-crosses -/

theorem halfCycleEvent_mainsSound {s : State} (h : MainsSound s) : MainsSound (halfCycleEvent s) := h

theorem enterJoinListen_feeder (s : State) : (enterJoinListen s).feeder = s.feeder := by simp [enterJoinListen, setMember]

theorem enterJoinListen_straps (s : State) : (enterJoinListen s).straps = s.straps := by simp [enterJoinListen, setMember]

theorem enterJoinListen_faults (s : State) : (enterJoinListen s).faults = s.faults := by simp [enterJoinListen, setMember]

/-- Learning ends with both figures held, in LOST or RUNNING as MAINS_LOST is held or not, or begins afresh (R140). -/
theorem judgeLearning_mainsSound {s : State} (h : MainsSound s) (hst : s.feeder.st = .learning) :
    MainsSound (judgeLearning s) := by
  have hretry : MainsSound { s with feeder := { s.feeder with intervals := [], peaks := [] } } := h.counted rfl rfl rfl rfl
  obtain ⟨hformed, -, hpins⟩ := h
  have hclosed := hformed.window_closed (by simp [hst])
  have hresume := hformed.no_resume (by simp [hst])
  have joined {f : Feeder} (hw : f.window.isSome = true) (hn : f.nominal.isSome = true)
      (hf : (f.st = .running ∧ s.faults.holds .mainsLost = false ∧ f.resume = none) ∨
        (f.st = .lost ∧ s.faults.holds .mainsLost = true)) : MainsSound (enterJoinListen { s with feeder := f }) := by
    refine mainsSound_of_learned ?_ ?_ ?_ ?_ ?_
    · rwa [StrapsFormed, enterJoinListen_straps]
    · rwa [enterJoinListen_straps]
    · rwa [enterJoinListen_feeder]
    · rwa [enterJoinListen_feeder]
    · rwa [enterJoinListen_feeder, enterJoinListen_faults]
  unfold judgeLearning; dsimp only; split
  · split
    · next hheld => exact joined rfl rfl (.inr ⟨rfl, hheld⟩)
    · next hheld => exact halfCycleEvent_mainsSound (joined rfl rfl (.inl ⟨rfl, by simpa using hheld, hresume⟩))
  · exact hretry.reported_in_learning hst true

theorem learnCross_mainsSound (since : Nat) {s : State} (h : MainsSound s) (hst : s.feeder.st = .learning) :
    MainsSound (learnCross since s) := by
  unfold learnCross; dsimp only; split
  · split
    · exact judgeLearning_mainsSound (h.counted rfl rfl rfl rfl) hst
    · exact h.counted rfl rfl rfl rfl
  · exact h.counted rfl rfl rfl rfl

theorem startHold_mainsStand (originated : Bool) {s : State} (ho : FaultsOrdered s.faults) :
    MainsStand s (startHold originated s) :=
  (mainsUpkeep s).startHold originated (.refl ho)

theorem startHold_standsBy (originated : Bool) {s : State} (h : StandsBy s) : StandsBy (startHold originated s) := by
  rwa [startHold_of_standsBy h]

theorem sagTest_mainsSound (dominant : Nat) {s : State} (h : MainsSound s) (ho : FaultsOrdered s.faults) :
    MainsSound (sagTest dominant s) := by
  have marked {u : State} (hu : MainsSound u) (hu' : FaultsOrdered u.faults) :
      MainsSound (startHold true (requestMark dominant u)) := by
    have requested : MainsSound (requestMark dominant u) ∧ FaultsOrdered (requestMark dominant u).faults := by
      unfold requestMark; split <;> exact ⟨hu, hu'⟩
    exact requested.1.of_stand (startHold_mainsStand true requested.2) fun hby _ => startHold_standsBy true hby
  unfold sagTest; dsimp only; split
  · split
    · exact marked (h.counted rfl rfl rfl rfl) ho
    · exact h.counted rfl rfl rfl rfl
  · exact h.counted rfl rfl rfl rfl

theorem lostCross_mainsSound {s : State} (h : MainsSound s) (hst : s.feeder.st = .lost) : MainsSound (lostCross s) := by
  obtain ⟨hformed, hboot, hpins⟩ := h
  unfold lostCross; split
  · exact ⟨hformed, hboot, hpins⟩
  · refine ⟨?_, hboot, hpins⟩
    obtain ⟨hfigures, hlearned, hlost, hrunning, -, hopen⟩ := hformed
    exact ⟨hfigures, hlearned, hlost, hrunning, fun _ => hst, hopen⟩

theorem zeroCross_mainsSound (since dominant : Nat) {s : State} (h : MainsSound s) (ho : FaultsOrdered s.faults) :
    MainsSound (zeroCross since dominant s) := by
  have crossed {u : State} (hu : MainsSound u) : MainsSound (crossTaken u) := hu.counted rfl rfl rfl rfl
  unfold zeroCross; split
  · split
    · exact h
    · next hst => exact crossed (learnCross_mainsSound since h hst)
    · refine crossed (halfCycleEvent_mainsSound (MainsSound.counted ?_ rfl rfl rfl rfl))
      split
      · exact sagTest_mainsSound dominant h ho
      · exact h
    · next hst => exact crossed (lostCross_mainsSound h hst)
  · exact h

/-! ## The supervisor's timers -/

theorem watchdogExpiry_mainsSound {s : State} (h : MainsSound s) (ho : FaultsOrdered s.faults) :
    MainsSound (watchdogExpiry s) := by
  unfold watchdogExpiry; split
  · split
    · exact h
    · next hst =>
      have restarted : MainsSound
          { s with feeder := { s.feeder with watchdog := none, intervals := [], peaks := [], halfOpen := false } } :=
        h.counted rfl rfl rfl rfl
      exact restarted.reported_in_learning hst true
    · next hst =>
      obtain ⟨hformed, -, hpins⟩ := h
      have hclosed := hformed.window_closed (by simp [hst])
      obtain ⟨hfigures, hlearned, -⟩ := hformed
      have hw := hlearned (.inl hst)
      exact mainsSound_reportFault true ho hpins hclosed hw (hfigures.2 hw) (.inr ⟨rfl, rfl⟩)
    · next hst =>
      obtain ⟨hformed, hboot, hpins⟩ := h
      obtain ⟨hfigures, hlearned, hlost, hrunning, -, hopen⟩ := hformed
      exact ⟨⟨hfigures, hlearned, hlost, hrunning, nofun, hopen⟩, hboot, hpins⟩
  · exact h

theorem resumeExpiry_mainsSound {s : State} (h : MainsSound s) (ho : FaultsOrdered s.faults) :
    MainsSound (resumeExpiry s) := by
  unfold resumeExpiry; split
  · next hruns =>
    obtain ⟨hformed, -, hpins⟩ := h
    obtain ⟨-, -, -, -, hresume, -⟩ := id hformed
    have hst := hresume hruns
    have hclosed := hformed.window_closed (by simp [hst])
    obtain ⟨hfigures, hlearned, -⟩ := hformed
    have hw := hlearned (.inr hst)
    exact mainsSound_reportFault false ho hpins hclosed hw (hfigures.2 hw) (.inl ⟨rfl, rfl, rfl⟩)
  · exact h

/-! ## Start-up and the RESET input -/

theorem powerOn_mainsSound (p0 p1 p2 rh : Int) (s : State) : MainsSound (powerOn p0 p1 p2 rh s) := by
  have fresh : MainsSound (freshStart s) := by
    simp [MainsSound, MainsFormed, BootQuiet, StrapsFormed, freshStart, State.reset, Feeder.reset, Straps.reset,
      Membership.reset]
  have ordered : FaultsOrdered (freshStart s).faults := by
    simp [freshStart, State.reset, FaultUnit.reset, FaultsOrdered]
  exact fresh.of_stand ((mainsUpkeep _).sharing.firstReadings p0 p1 p2 rh (.refl ordered)) fun hby _ =>
    standsByUpkeep.firstReadings p0 p1 p2 rh hby

/-- A part that has learned its mains starts in MAINS_RUNNING with what it learned. -/
theorem releaseReset_mainsSound (p0 p1 p2 rh : Int) {s : State} (h : MainsSound s) :
    MainsSound (releaseReset p0 p1 p2 rh s) := by
  unfold releaseReset; split
  · next hlearned =>
    obtain ⟨⟨hfigures, -⟩, hboot, hpins⟩ := h
    have hclosed : s.straps.window = none := by
      refine Option.not_isSome_iff_eq_none.1 fun hopen => ?_
      obtain ⟨-, hnone, -⟩ := hboot (.inl hopen)
      simp [hnone] at hlearned
    have joined : MainsSound (enterJoinListen (keepLearned s (freshStart s))) := by
      refine mainsSound_of_learned ?_ ?_ ?_ ?_ (.inl ?_)
      · rwa [StrapsFormed, enterJoinListen_straps]
      · rwa [enterJoinListen_straps]
      · rwa [enterJoinListen_feeder]
      · rw [enterJoinListen_feeder]; exact hfigures.2 hlearned
      · rw [enterJoinListen_feeder, enterJoinListen_faults]
        simp [keepLearned, freshStart, State.reset, Feeder.reset, FaultUnit.reset, FaultUnit.holds]
    have ordered : FaultsOrdered (enterJoinListen (keepLearned s (freshStart s))).faults := by
      rw [enterJoinListen_faults]
      simp [keepLearned, freshStart, State.reset, FaultUnit.reset, FaultsOrdered]
    refine joined.of_stand ((mainsUpkeep _).sharing.firstReadings p0 p1 p2 rh (.refl ordered)) fun hby _ => ?_
    exact standsByUpkeep.firstReadings p0 p1 p2 rh hby
  · exact powerOn_mainsSound p0 p1 p2 rh s

theorem strapWindowEnd_mainsSound (addr : Fin 16) (cap : Fin 8) (bank : Fin 16) {s : State} (h : MainsSound s) :
    MainsSound (strapWindowEnd addr cap bank s) := by
  unfold strapWindowEnd; split
  · next hopen =>
    obtain ⟨hformed, hboot, -⟩ := h
    have hquiet := hboot (.inl hopen)
    obtain ⟨hfigures, -, -, -, hresume, hstart⟩ := hformed
    have hnone : s.feeder.resume = none := Option.not_isSome_iff_eq_none.1 fun hruns => by
      have hst := hstart hopen
      rw [hresume hruns] at hst
      cases hst
    exact ⟨⟨hfigures, nofun, nofun, nofun, by simp [hnone], nofun⟩, fun _ => hquiet, rfl, rfl⟩
  · exact h

/-- Every command keeps the mains sound. -/
theorem exec_mainsSound {c : Instr} {s t : State} (h : MainsSound s) (ho : FaultsOrdered s.faults)
    (e : exec c s = .next t) : MainsSound t := by
  cases c with
  | powerOnReset p0 p1 p2 rh => exact Host.Outcome.next.inj e ▸ powerOn_mainsSound p0 p1 p2 rh s
  | resetPinAssert =>
    obtain rfl : assertReset s = t := Host.Outcome.next.inj e
    exact h
  | resetPinRelease p0 p1 p2 rh => exact Host.Outcome.next.inj e ▸ releaseReset_mainsSound p0 p1 p2 rh h
  | strapWindowEnd addr cap bank => exact kept_of_live h (fun _ => strapWindowEnd_mainsSound addr cap bank h) e
  | zeroCross since dominant => exact kept_of_live h (fun _ => zeroCross_mainsSound since dominant h ho) e
  | zeroCrossWatchdogExpiry => exact kept_of_live h (fun _ => watchdogExpiry_mainsSound h ho) e
  | resumeTimerExpiry => exact kept_of_live h (fun _ => resumeExpiry_mainsSound h ho) e
  | amplitudeSenseReading steps => exact kept_of_live h (fun _ => h.counted rfl rfl rfl rfl) e
  | powerPress | sharePeriodExpiry | raiseReadyExpiry | isolationLimitExpiry | isolationDwellExpiry | idleHoldExpiry
  | receiveDemand | receivePresence | receiveJoinAsk | receiveJoinConfirm | receiveLeave | frameDiscarded | arbitrationLost
  | noticeCompletion | attemptFailed | shedMarkSeen | lineStuck | lineStuckRelease | lineFreed =>
    exact h.of_line ho e trivial
  | _ => exact h.of_cabinet ho e trivial

/-- Settles O57: computations set the caps on the allowance afresh; straps, supervisor and MAINS_LOST change together, in the
feeder's own commands and the resets alone; and a part that has learned no mains leaves STANDBY in no other command. -/
theorem stepKeepsMainsAndIsoCap : Obligations.StepKeepsMainsAndIsoCap := by
  intro s t ho hformed hboot hpower hcap hpins e
  have kept : MainsSound t ∧ PowerCapped t := by
    unfold step at e
    split at e
    · next c rest _ =>
      exact ⟨exec_mainsSound (s := { s with pending := rest }) ⟨hformed, hboot, hpins⟩ ho e,
        exec_powerCapped (s := { s with pending := rest }) hboot ⟨hpower, hcap⟩ e⟩
    · obtain rfl : idle s = t := Host.Outcome.next.inj e
      rw [(reads_idle s).1]
      exact ⟨⟨hformed, hboot, hpins⟩, hpower, hcap⟩
  obtain ⟨⟨hformed', hboot', hpins'⟩, hpower', hcap'⟩ := kept
  exact ⟨hformed', hboot', hpower', hcap', hpins'⟩

end Sys2Proof.Machine

namespace Sys2Proof.Machine

/-! PROOFS. The notice slot and its claim (O56), first part: what stands in the slot and what it covers, as predicates of the
Membership Controller, the Load Share Unit and the framer alone, and what filling the slot, ending an attempt and the cabinet's
operations keep of them. -/

/-- The slot, the load held over, the raise-ready timer and the claims fit the membership state: `SlotFits` and `ClaimCovers` without
the framer. -/
structure SlotSound (m : Membership) (l : LoadShare) : Prop where
  kinds : ∀ n, m.slot = some n → SlotKindFits m.st n.kind
  flying : m.inFlight = true → m.slot.isSome
  held : ∀ k, m.heldOver = some k →
    m.inFlight = true ∧ if m.st = .leaving then k = .leave else m.st = .member ∧ SlotKindFits .member k
  leaves : m.st = .leaving → m.slot = some .leave ∨ (m.inFlight = true ∧ m.heldOver = some .leave)
  claimed : m.st = .member → l.allowance ≤ m.lastClaim
  covered : m.st = .member → ∀ a, m.slot = some (.demand a) → l.allowance ≤ a.claim
  quiet : m.st = .member → m.slot = some .presence ∨ m.heldOver = some .presence → l.allowance = 0
  raising : ∀ r, l.raiseReady = some r → m.st = .member ∧ m.slot = none ∧ r.target = m.lastClaim

/-- A frame is being sent in SENDING alone, and is that of the notice in the slot, in flight. -/
def FrameFits (f : Framer) (m : Membership) : Prop :=
  (f.sending.isSome = true → f.st = .sending) ∧ ∀ x, f.sending = some x → m.slot = some x.notice ∧ m.inFlight = true

/-- Slot, claims and frame are sound. -/
def SlotKept (s : State) : Prop := SlotSound s.member s.share ∧ FrameFits s.framer s.member

theorem slotKept_iff (s : State) : SlotKept s ↔ SendingFits s ∧ SlotFits s ∧ ClaimCovers s := by
  constructor
  · rintro ⟨h, hsending, hnotice⟩
    exact ⟨hsending, ⟨h.kinds, h.flying, h.held, h.leaves, hnotice⟩,
      fun hm => ⟨h.claimed hm, h.covered hm, h.quiet hm⟩, h.raising⟩
  · rintro ⟨hsending, ⟨hkinds, hflying, hheld, hleaves, hnotice⟩, hclaims, hraising⟩
    exact ⟨⟨hkinds, hflying, hheld, hleaves, fun hm => (hclaims hm).1, fun hm => (hclaims hm).2.1,
      fun hm => (hclaims hm).2.2, hraising⟩, hsending, hnotice⟩

theorem frameFits_of_none {f : Framer} {m : Membership} (h : f.sending = none) : FrameFits f m :=
  ⟨fun hs => by simp [h] at hs, fun x hx => by simp [h] at hx⟩

/-- A framer in another state than SENDING sends nothing. -/
theorem FrameFits.sending_none {f : Framer} {m : Membership} (h : FrameFits f m) (hst : f.st ≠ .sending) :
    f.sending = none :=
  Option.not_isSome_iff_eq_none.1 (mt h.1 hst)

/-- A notice that is not in flight is not being sent. -/
theorem FrameFits.sending_none_of_free {f : Framer} {m : Membership} (h : FrameFits f m) (hfree : m.inFlight = false) :
    f.sending = none := by
  refine Option.eq_none_iff_forall_ne_some.2 fun x hx => ?_
  obtain ⟨-, hflies⟩ := h.2 x hx
  exact absurd (hfree.symm.trans hflies) (by decide)

/-! ## An empty slot -/

/-- Nothing stands in the slot, is held over or is being sent, and the raise-ready timer runs in MEMBER alone. -/
structure Vacated (s : State) : Prop where
  slot : s.member.slot = none
  free : s.member.inFlight = false
  heldOver : s.member.heldOver = none
  sending : s.framer.sending = none
  raising : s.share.raiseReady.isSome = true → s.member.st = .member

/-- The membership states that send no notice of their own. -/
def SendsNothing (m : MemberState) : Prop :=
  m = .joinListen ∨ m = .joinHold ∨ m = .isolated ∨ m = .duplicate ∨ m = .standby

theorem SlotKept.vacated {s : State} (h : SlotKept s) (hm : SendsNothing s.member.st) : Vacated s := by
  obtain ⟨hslot, hframe⟩ := h
  have empty : s.member.slot = none := by
    refine Option.eq_none_iff_forall_ne_some.2 fun n hn => ?_
    have hfits := hslot.kinds n hn
    rcases hm with e | e | e | e | e <;> simp [e, SlotKindFits] at hfits
  have free : s.member.inFlight = false := by
    by_contra hflies
    simpa [empty] using hslot.flying (by simpa using hflies)
  refine ⟨empty, free, ?_, hframe.sending_none_of_free free, fun hr => ?_⟩
  · refine Option.eq_none_iff_forall_ne_some.2 fun k hk => ?_
    exact absurd (free.symm.trans (hslot.held k hk).1) (by decide)
  · obtain ⟨r, hr⟩ := Option.isSome_iff_exists.1 hr
    exact (hslot.raising r hr).1

/-- The emptied slot of any station whose raise-ready timer is in order and whose framer sends in SENDING alone. -/
theorem emptySlot_vacated {s : State} (hsends : SendingFits s)
    (hr : s.share.raiseReady.isSome = true → s.member.st = .member) : Vacated (emptySlot s) := by
  refine ⟨rfl, rfl, rfl, ?_, hr⟩
  unfold emptySlot; dsimp only; split
  · rfl
  · next hst => exact Option.not_isSome_iff_eq_none.1 fun hs => hst (.inr (hsends hs))

theorem SlotSound.raising_member {m : Membership} {l : LoadShare} (h : SlotSound m l) (hr : l.raiseReady.isSome = true) :
    m.st = .member := by
  obtain ⟨r, hr⟩ := Option.isSome_iff_exists.1 hr
  exact (h.raising r hr).1

/-- An empty slot is sound in any state but MEMBER, where the claims count, and LEAVING, where a LEAVE must wait. -/
theorem slotSound_of_empty {m : Membership} {l : LoadShare} (hslot : m.slot = none) (hfree : m.inFlight = false)
    (hheld : m.heldOver = none) (hr : l.raiseReady = none) (hl : m.st ≠ .leaving) (hm : m.st ≠ .member) : SlotSound m l where
  kinds n hn := by simp [hslot] at hn
  flying hf := by simp [hfree] at hf
  held k hk := by simp [hheld] at hk
  leaves e := absurd e hl
  claimed e := absurd e hm
  covered e := absurd e hm
  quiet e := absurd e hm
  raising r e := by simp [hr] at e

theorem setMember_raiseReady (m : MemberState) (s : State) :
    (setMember m s).share.raiseReady = if s.member.st = .member ∧ m ≠ .member then none else s.share.raiseReady := by
  simp [setMember]

theorem setMember_framer (m : MemberState) (s : State) : (setMember m s).framer = s.framer := by simp [setMember]

theorem setMember_member (m : MemberState) (s : State) : (setMember m s).member = { s.member with st := m } := by
  simp [setMember]

/-- A change to another state than MEMBER stops the raise-ready timer. -/
theorem setMember_raiseReady_none {m : MemberState} {s : State} (hm : m ≠ .member)
    (hr : s.share.raiseReady.isSome = true → s.member.st = .member) : (setMember m s).share.raiseReady = none := by
  rw [setMember_raiseReady]
  split
  · rfl
  · next hn => exact Option.not_isSome_iff_eq_none.1 fun hs => hn ⟨hr hs, hm⟩

/-- A station with its slot emptied may take any state that has nothing to send yet. -/
theorem setMember_slotKept {m : MemberState} {s : State} (h : Vacated s) (hm : m ≠ .member) (hl : m ≠ .leaving) :
    SlotKept (setMember m s) := by
  refine ⟨?_, ?_⟩
  · rw [setMember_member]
    exact slotSound_of_empty h.slot h.free h.heldOver (setMember_raiseReady_none hm h.raising) hl hm
  · rw [setMember_framer]
    exact frameFits_of_none h.sending

/-! ## Computations -/

/-- A computation in MEMBER only lowers the allowance, and touches neither slot nor framer. -/
theorem SlotSound.lowered {m : Membership} {l k : LoadShare} (h : SlotSound m l) (hr : k.raiseReady = l.raiseReady)
    (ha : m.st = .member → k.allowance ≤ l.allowance) : SlotSound m k where
  kinds := h.kinds
  flying := h.flying
  held := h.held
  leaves := h.leaves
  claimed hm := (ha hm).trans (h.claimed hm)
  covered hm a hs := (ha hm).trans (h.covered hm a hs)
  quiet hm hp := Nat.le_zero.1 ((ha hm).trans (h.quiet hm hp).le)
  raising := hr ▸ h.raising

theorem compute_allowance_le_of_member {s : State} (hm : s.member.st = .member) :
    (compute s).share.allowance ≤ s.share.allowance := by
  rw [compute_share_allowance, if_pos hm]; exact min_le_left _ _

theorem compute_slotSound {s : State} (h : SlotSound s.member s.share) : SlotSound (compute s).member (compute s).share := by
  rw [compute_member]
  exact h.lowered (by simp) compute_allowance_le_of_member

theorem compute_slotKept {s : State} (h : SlotKept s) : SlotKept (compute s) := by
  refine ⟨compute_slotSound h.1, ?_⟩
  rw [compute_framer, compute_member]
  exact h.2

/-! ## Filling the slot -/

theorem beginSending_frameFits (s : State) (h : FrameFits s.framer s.member) :
    FrameFits (beginSending s).framer (beginSending s).member := by
  unfold beginSending; split
  · exact h
  · next n hn => exact ⟨fun _ => rfl, fun x hx => Option.some.inj hx ▸ ⟨hn, rfl⟩⟩

theorem handFramer_frameFits {s : State} (h : s.framer.sending = none) :
    FrameFits (handFramer s).framer (handFramer s).member := by
  unfold handFramer; split
  · split
    · exact beginSending_frameFits s (frameFits_of_none h)
    · exact frameFits_of_none h
  · exact frameFits_of_none h

theorem fillSlot_frameFits (k : NoticeKind) {s : State} (h : s.framer.sending = none) :
    FrameFits (fillSlot k s).framer (fillSlot k s).member :=
  handFramer_frameFits (by simpa using h)

/-- Only a framer in LISTEN takes part in the filling of the slot. -/
theorem fillSlot_framer_of_busy {k : NoticeKind} {s : State} (h : s.framer.st ≠ .listen) :
    (fillSlot k s).framer = s.framer := by
  simp [fillSlot, handFramer, h]

theorem loadNotice_framer_of_busy {k : NoticeKind} {s : State} (h : s.framer.st ≠ .listen) :
    (loadNotice k s).framer = s.framer := by
  unfold loadNotice; split
  · rfl
  · exact fillSlot_framer_of_busy h

theorem endAttempt_framer_of_busy {s : State} (h : s.framer.st ≠ .listen) : (endAttempt s).framer = s.framer := by
  unfold endAttempt refreshSlot; dsimp only; split
  · exact loadNotice_framer_of_busy h
  · split
    · rfl
    · exact fillSlot_framer_of_busy h

theorem fillSlot_allowance_le_of_member {k : NoticeKind} {s : State} (hm : s.member.st = .member) :
    (fillSlot k s).share.allowance ≤ s.share.allowance := by
  simp [fillSlot, hm]

/-- A filled slot is sound: its DEMAND claims the grant that bounds the allowance, and a PRESENCE needs an allowance of 0. -/
theorem fillSlot_slotSound {k : NoticeKind} {s : State} (hfits : SlotKindFits s.member.st k)
    (hheld : s.member.heldOver = none) (hleave : s.member.st = .leaving → k = .leave)
    (hclaim : s.member.st = .member → s.share.allowance ≤ s.member.lastClaim)
    (hquiet : s.member.st = .member → k = .presence → s.share.allowance = 0) :
    SlotSound (fillSlot k s).member (fillSlot k s).share := by
  have newest := fillSlot_newest k s
  refine ⟨fun n hn => ?_, fun _ => ?_, fun j hj => ?_, fun e => ?_, fun hm => ?_, fun hm a ha => ?_, fun hm hp => ?_,
    fun r hr => ?_⟩
  · obtain rfl := Option.some.inj (newest.symm.trans hn)
    rwa [formNotice_kind, fillSlot_member_st]
  · rw [newest]; rfl
  · rw [fillSlot_member_heldOver, hheld] at hj; cases hj
  · rw [fillSlot_member_st] at e
    obtain rfl := hleave e
    exact .inl newest
  · rw [fillSlot_member_st] at hm
    rw [fillSlot_member_lastClaim]
    exact (fillSlot_allowance_le_of_member hm).trans (hclaim hm)
  · have hform := newest.symm.trans ha
    cases k with
    | demand =>
      obtain rfl := Notice.demand.inj (Option.some.inj hform)
      exact fillSlot_allowance_le _ s
    | _ => cases Option.some.inj hform
  · rw [fillSlot_member_st] at hm
    rw [fillSlot_member_heldOver, hheld, newest] at hp
    have hk : k = .presence := by
      obtain hp | hp := hp
      · rw [← formNotice_kind k (fillSlot k s), Option.some.inj hp]; rfl
      · cases hp
    exact Nat.le_zero.1 ((fillSlot_allowance_le_of_member hm).trans (hquiet hm hk).le)
  · rw [fillSlot_share_raiseReady] at hr; cases hr

/-! ## Loading a notice -/

theorem slotKeeps_some (k : NoticeKind) (n : Notice) : slotKeeps k (some n) = n.kind ∨ slotKeeps k (some n) = k := by
  unfold slotKeeps; dsimp only; split
  · exact .inl rfl
  · exact .inr rfl

/-- The slot keeps a PRESENCE only where it is empty or holds one. -/
theorem slotKeeps_presence {k : NoticeKind} {slot : Option Notice} (h : slotKeeps k slot = .presence) :
    k = .presence := by
  cases slot with
  | none => exact h
  | some n =>
    unfold slotKeeps at h
    dsimp only at h
    split at h
    · next hrank => rw [h] at hrank; cases k <;> simp [NoticeKind.rank] at hrank
    · exact h

/-- The kind that the slot keeps suits the state, where both the loaded one and the waiting one do. -/
theorem slotKeeps_fits {m : Membership} {k : NoticeKind} (hk : SlotKindFits m.st k)
    (hslot : ∀ n, m.slot = some n → SlotKindFits m.st n.kind) : SlotKindFits m.st (slotKeeps k m.slot) := by
  cases hs : m.slot with
  | none => exact hk
  | some n =>
    obtain e | e := slotKeeps_some k n <;> rw [e]
    · exact hslot n hs
    · exact hk

/-- In flight a load is only held over (R107). -/
theorem loadNotice_of_inFlight {k : NoticeKind} {s : State} (h : s.member.inFlight = true) :
    loadNotice k s = { s with member := { s.member with heldOver := holdOver k s.member.heldOver } } := by
  simp [loadNotice, h]

theorem noteLoad_lastClaim (k kept : NoticeKind) (m : Membership) : (noteLoad k kept m).lastClaim = m.lastClaim := by
  cases k with
  | presence => unfold noteLoad; dsimp only; split <;> rfl
  | _ => rfl

/-- A load into a slot with nothing in flight. -/
theorem loadNotice_slotSound_of_free {k : NoticeKind} {s : State} (hfree : s.member.inFlight = false)
    (hheld : s.member.heldOver = none) (hslot : ∀ n, s.member.slot = some n → SlotKindFits s.member.st n.kind)
    (hk : SlotKindFits s.member.st k) (hleave : s.member.st = .leaving → k = .leave)
    (hclaim : s.member.st = .member → s.share.allowance ≤ s.member.lastClaim)
    (hquiet : s.member.st = .member → k = .presence → s.share.allowance = 0) :
    SlotSound (loadNotice k s).member (loadNotice k s).share := by
  have hst := PowerUpkeep.noteLoad_st k (slotKeeps k s.member.slot) s.member
  obtain ⟨-, -, hover⟩ := noteLoad_keeps k (slotKeeps k s.member.slot) s.member
  rw [loadNotice_of_free hfree]
  refine fillSlot_slotSound ?_ (hover.trans hheld) ?_ ?_ ?_ <;> dsimp only <;> rw [hst]
  · exact slotKeeps_fits hk hslot
  · intro hl
    rw [hleave hl]
    exact slotKeeps_leave s.member.slot
  · rw [noteLoad_lastClaim]; exact hclaim
  · exact fun hm hp => hquiet hm (slotKeeps_presence hp)

/-- A load in MEMBER: of a DEMAND at any time, of a PRESENCE with an allowance of 0 (R102, R107, R109). -/
theorem loadNotice_slotSound {k : NoticeKind} {s : State} (h : SlotSound s.member s.share) (hm : s.member.st = .member)
    (hk : k = .demand ∨ (k = .presence ∧ s.share.allowance = 0)) :
    SlotSound (loadNotice k s).member (loadNotice k s).share := by
  have hfits : SlotKindFits .member k := hk.imp id And.left
  have hquiet : k = .presence → s.share.allowance = 0 := by
    rintro rfl
    exact hk.elim nofun And.right
  cases hfly : s.member.inFlight with
  | false =>
    have hheld : s.member.heldOver = none := Option.eq_none_iff_forall_ne_some.2 fun j hj =>
      absurd (hfly.symm.trans (h.held j hj).1) (by decide)
    refine loadNotice_slotSound_of_free hfly hheld h.kinds (hm ▸ hfits) (fun hl => ?_) h.claimed fun _ => hquiet
    rw [hm] at hl; cases hl
  | true =>
    have hover : ∀ j, holdOver k s.member.heldOver = some j → j = k ∨ s.member.heldOver = some j := by
      intro j hj
      cases hheld : s.member.heldOver with
      | none => rw [hheld] at hj; exact .inl (Option.some.inj hj).symm
      | some i =>
        rw [hheld] at hj
        unfold holdOver at hj
        dsimp only at hj
        split at hj
        · exact .inl (Option.some.inj hj).symm
        · exact .inr hj
    have notLeaving : s.member.st ≠ .leaving := by rw [hm]; decide
    rw [loadNotice_of_inFlight hfly]
    refine ⟨h.kinds, h.flying, fun j hj => ⟨hfly, ?_⟩, fun hl => absurd hl notLeaving, h.claimed, h.covered,
      fun _ hp => ?_, h.raising⟩
    · rw [if_neg notLeaving]
      obtain rfl | hj := hover j hj
      · exact ⟨hm, hfits⟩
      · have := (h.held j hj).2
        rwa [if_neg notLeaving] at this
    · obtain hp | hp := hp
      · exact h.quiet hm (.inl hp)
      · obtain hp | hp := hover _ hp
        · exact hquiet hp.symm
        · exact h.quiet hm (.inr hp)

theorem loadNotice_frameFits (k : NoticeKind) {s : State} (h : FrameFits s.framer s.member) :
    FrameFits (loadNotice k s).framer (loadNotice k s).member := by
  cases hfly : s.member.inFlight with
  | true => rw [loadNotice_of_inFlight hfly]; exact ⟨h.1, fun x hx => ⟨(h.2 x hx).1, hfly⟩⟩
  | false => rw [loadNotice_of_free hfly]; exact fillSlot_frameFits _ (h.sending_none_of_free hfly)

/-! ## What the cabinet keeps -/

theorem slotUpkeep : SharingUpkeep (fun _ => True) (fun s => SlotSound s.member s.share) where
  told _ := trivial
  congr {s t} hv h := by
    simp only [sharingView, Prod.mk.injEq] at hv
    obtain ⟨hmember, -, hshare, -⟩ := hv
    rwa [hmember, hshare]
  raised _ := id
  withdrawn _ := id
  computed {s r} h := compute_slotSound (s := { s with request := r }) h
  loaded hm h := loadNotice_slotSound h hm (.inl rfl)

theorem frameUpkeep : SharingUpkeep (fun _ => True) (fun s => FrameFits s.framer s.member) where
  told _ := trivial
  congr {s t} hv h := by
    simp only [sharingView, Prod.mk.injEq] at hv
    obtain ⟨hmember, hframer, -⟩ := hv
    rwa [hmember, hframer]
  raised _ := id
  withdrawn _ := id
  computed h := by rwa [compute_framer, compute_member]
  loaded _ := loadNotice_frameFits .demand

/-- What two invariants keep they keep together. -/
theorem SharingUpkeep.and {Told : FaultKind → Prop} {P Q : State → Prop} (h : SharingUpkeep Told P) (g : SharingUpkeep Told Q) :
    SharingUpkeep Told (fun s => P s ∧ Q s) where
  told := h.told
  congr hv := And.imp (h.congr hv) (g.congr hv)
  raised hk := And.imp (h.raised hk) (g.raised hk)
  withdrawn hk := And.imp (h.withdrawn hk) (g.withdrawn hk)
  computed := And.imp h.computed g.computed
  loaded hm := And.imp (h.loaded hm) (g.loaded hm)

theorem keptUpkeep : SharingUpkeep (fun _ => True) SlotKept := slotUpkeep.and frameUpkeep

/-- A framer that is not in LISTEN is left alone by all that the cabinet does. -/
theorem busyUpkeep {f : Framer} (hf : f.st ≠ .listen) : SharingUpkeep (fun _ => True) (fun s => s.framer = f) where
  told _ := trivial
  congr hv h := by
    simp only [sharingView, Prod.mk.injEq] at hv
    exact hv.2.1.trans h
  raised _ := id
  withdrawn _ := id
  computed h := (compute_framer _).trans h
  loaded {s} _ h := (loadNotice_framer_of_busy (by rw [h]; exact hf)).trans h

/-- A station outside MEMBER with its slot empty loads nothing. -/
theorem vacatedUpkeep (m : MemberState) (hm : m ≠ .member) :
    SharingUpkeep (fun _ => True) (fun s => Vacated s ∧ s.member.st = m) where
  told _ := trivial
  congr {s t} hv h := by
    simp only [sharingView, Prod.mk.injEq] at hv
    obtain ⟨hmember, hframer, hshare, -⟩ := hv
    obtain ⟨⟨hslot, hfree, hheld, hsending, hraising⟩, hst⟩ := h
    refine ⟨⟨?_, ?_, ?_, ?_, ?_⟩, ?_⟩ <;> simp only [hmember, hframer, hshare] <;> assumption
  raised _ h := ⟨⟨h.1.slot, h.1.free, h.1.heldOver, h.1.sending, h.1.raising⟩, h.2⟩
  withdrawn _ h := ⟨⟨h.1.slot, h.1.free, h.1.heldOver, h.1.sending, h.1.raising⟩, h.2⟩
  computed {s r} h := by
    obtain ⟨⟨hslot, hfree, hheld, hsending, hraising⟩, hst⟩ := h
    exact ⟨⟨by simpa using hslot, by simpa using hfree, by simpa using hheld, by simpa using hsending,
      by simpa using hraising⟩, by simpa using hst⟩
  loaded hst h := absurd (h.2.symm.trans hst) hm

/-! ## The end of an attempt -/

/-- At the end of an attempt the load held over, or the notice that waited, fills the slot. -/
theorem endAttempt_slotSound {s : State} (h : SlotSound s.member s.share) :
    SlotSound (endAttempt s).member (endAttempt s).share := by
  cases hheld : s.member.heldOver with
  | some k =>
    obtain ⟨hfly, hkind⟩ := h.held k hheld
    have hleave : s.member.st = .leaving → k = .leave := fun hl => by rwa [if_pos hl] at hkind
    have hfits : SlotKindFits s.member.st k := by
      by_cases hl : s.member.st = .leaving
      · rw [hl]; exact trivial
      · rw [if_neg hl] at hkind
        exact hkind.1 ▸ hkind.2
    have hload : endAttempt s = loadNotice k (attemptOver s) := by simp [endAttempt, hheld, attemptOver]
    rw [hload]
    exact loadNotice_slotSound_of_free (s := attemptOver s) rfl rfl h.kinds hfits hleave h.claimed
      fun hm hp => h.quiet hm (.inr (hp ▸ hheld))
  | none =>
    have hwaits : s.member.st = .leaving → s.member.slot = some .leave := fun hl =>
      (h.leaves hl).resolve_right fun both => by simp [hheld] at both
    cases hslot : s.member.slot with
    | none =>
      rw [endAttempt_of_empty hheld hslot]
      exact
        { kinds := h.kinds
          flying := nofun
          held := nofun
          leaves := fun hl => .inl (hwaits hl)
          claimed := h.claimed
          covered := h.covered
          quiet := fun hm hp => h.quiet hm (hp.imp id nofun)
          raising := h.raising }
    | some n =>
      rw [endAttempt_of_waiting hheld hslot]
      refine fillSlot_slotSound (s := attemptOver s) (h.kinds n hslot) rfl (fun hl => ?_) h.claimed fun hm hp => ?_
      · rw [Option.some.inj (hslot.symm.trans (hwaits hl))]; rfl
      · have hn : n = .presence := by
          cases n with
          | presence => rfl
          | _ => cases hp
        exact h.quiet hm (.inl (hn ▸ hslot))

theorem framerRest_frameFits {s : State} (h : s.framer.st ≠ .sending → FrameFits s.framer s.member) :
    FrameFits (framerRest s).framer (framerRest s).member := by
  unfold framerRest; split
  · exact frameFits_of_none rfl
  · next hst => exact h fun e => hst (.inr e)

theorem framerRest_slotKept {s : State} (hslot : SlotSound s.member s.share)
    (h : s.framer.st ≠ .sending → FrameFits s.framer s.member) : SlotKept (framerRest s) := by
  refine ⟨?_, framerRest_frameFits h⟩
  rwa [framerRest_member, framerRest_share]

theorem SlotKept.rest {s : State} (h : SlotKept s) : SlotKept (framerRest s) := framerRest_slotKept h.1 fun _ => h.2

/-- The end of an attempt hands the framer at most a notice to send. -/
theorem endAttempt_frameFits {s : State} (h : s.framer.sending = none) :
    FrameFits (endAttempt s).framer (endAttempt s).member := by
  unfold endAttempt refreshSlot; dsimp only; split
  · exact loadNotice_frameFits _ (frameFits_of_none h)
  · split
    · exact frameFits_of_none h
    · exact fillSlot_frameFits _ h

/-- Once an attempt has ended and the framer rests, slot and frame are sound again. -/
theorem framerRest_endAttempt_slotKept {s : State} (hslot : SlotSound s.member s.share) (hsends : SendingFits s) :
    SlotKept (framerRest (endAttempt s)) := by
  refine framerRest_slotKept (endAttempt_slotSound hslot) fun hst => endAttempt_frameFits ?_
  refine Option.not_isSome_iff_eq_none.1 fun hs => hst ?_
  rw [endAttempt_framer_of_busy (by rw [hsends hs]; decide)]
  exact hsends hs

end Sys2Proof.Machine

namespace Sys2Proof.Machine

/-! PROOFS. The notice slot and its claim (O56), second part: the Membership Controller, the line's commands, the feeder's and the
resets. -/

/-! ## Entering and leaving the membership states -/

theorem SlotKept.sends {s : State} (h : SlotKept s) : SendingFits s := h.2.1

/-- The slot of a sound station emptied. -/
theorem SlotKept.emptied {s : State} (h : SlotKept s) : Vacated (emptySlot s) :=
  emptySlot_vacated h.sends h.1.raising_member

theorem enterJoinListen_slotKept {s : State} (h : Vacated s) : SlotKept (enterJoinListen s) := by
  refine setMember_slotKept ⟨h.slot, h.free, h.heldOver, ?_, h.raising⟩ (by decide) (by decide)
  show (framerListens s.framer).sending = none
  unfold framerListens; split <;> exact h.sending

/-- STANDBY is entered with an emptied slot, and with the return mark set it is left again so (R118). -/
theorem enterStandby_slotKept {s : State} (hsends : SendingFits s)
    (hr : s.share.raiseReady.isSome = true → s.member.st = .member) : SlotKept (enterStandby s) := by
  have away {u : State} (hu : Vacated u) : SlotKept (setTable emptyTable (setMember .standby u)) ∧
      Vacated (setTable emptyTable (setMember .standby u)) := by
    have stood : SlotKept (setMember .standby u) := setMember_slotKept hu (by decide) (by decide)
    have resting := (vacatedUpkeep .standby (by decide)).setTable emptyTable
      ⟨stood.vacated (.inr (.inr (.inr (.inr (setMember_st _ _))))), setMember_st _ _⟩
    exact ⟨keptUpkeep.setTable emptyTable stood, resting.1⟩
  have emptied := emptySlot_vacated hsends hr
  unfold enterStandby; dsimp only; split
  · refine enterJoinListen_slotKept (away ?_).2
    exact ⟨rfl, rfl, rfl, rfl, emptied.raising⟩
  · refine (away ?_).1
    exact ⟨rfl, rfl, rfl, rfl, emptied.raising⟩

/-- LINE_ISOLATED raised while the requests are fresh hands over nothing: the emptied slot stays empty (R119). -/
theorem reportFault_isolated_keepsSharing {s : State} (hl : Live s) (hr : RequestFresh s) (hw : LockWatched s) :
    KeepsSharing s (reportFault .lineIsolated true s) := by
  unfold reportFault; split
  · exact .refl s
  · rw [if_pos rfl]
    obtain ⟨⟨⟨-, hlines, -⟩, -⟩, hlock⟩ := raiseFault_lineFrame_of_classC (k := .lineIsolated) rfl (hr hl)
    obtain ⟨hcommand, -⟩ := hw hl
    obtain ⟨hactive, hwaiting⟩ := raiseFault_faults .lineIsolated s
    have hheld : (raiseFault .lineIsolated s).faults.holds .lockFault = s.faults.holds .lockFault :=
      (holds_of_lists hactive hwaiting _).trans (raiseInto_holds_of_ne (by decide) s.faults)
    rw [checkLock_of_watched hl hw (hlock.trans hcommand.symm) hlines fun hh => hheld ▸ hh]
    exact raiseFault_keepsSharing_of_classC rfl (hr hl)

theorem enterIsolated_slotKept {s : State} (hl : Live s) (hfresh : RequestFresh s) (hw : LockWatched s)
    (hsends : SendingFits s) (hr : s.share.raiseReady.isSome = true → s.member.st = .member) :
    SlotKept (enterIsolated s) := by
  have emptied := emptySlot_vacated hsends hr
  refine setMember_slotKept ?_ (by decide) (by decide)
  have kept := reportFault_isolated_keepsSharing
    (s := { emptySlot s with
      member := { (emptySlot s).member with joinNonce := none, dwell := some isolationDwellMs, lineFree := false } })
    hl hfresh hw
  refine ⟨?_, ?_, ?_, ?_, ?_⟩ <;> simp only [kept.member, kept.framer, kept.share]
  · exact emptied.slot
  · exact emptied.free
  · exact emptied.heldOver
  · exact emptied.sending
  · exact emptied.raising

theorem exitIsolated_slotKept {s : State} (h : SlotKept s) (hst : s.member.st = .isolated) : SlotKept (exitIsolated s) := by
  have resting := h.vacated (.inr (.inr (.inl hst)))
  have cleared := (vacatedUpkeep .isolated (by decide)).setTable emptyTable
    (s := { s with member := { s.member with dwell := none, lineFree := false } })
    ⟨⟨resting.slot, resting.free, resting.heldOver, resting.sending, resting.raising⟩, hst⟩
  exact enterJoinListen_slotKept cleared.1

theorem enterDuplicate_slotKept {s : State} (h : SlotKept s) : SlotKept (enterDuplicate s) := by
  obtain ⟨hslot, hfree, hheld, hsending, hraising⟩ := h.emptied
  refine keptUpkeep.reportFault trivial _ (setMember_slotKept ?_ (by decide) (by decide))
  exact ⟨hslot, hfree, hheld, hsending, hraising⟩

/-- A station with an empty slot takes a joining state and loads its notice. -/
theorem loadNotice_setMember_slotKept {m : MemberState} {k : NoticeKind} {s : State} (h : Vacated s)
    (hk : SlotKindFits m k) (hm : m ≠ .member) (hl : m ≠ .leaving) : SlotKept (loadNotice k (setMember m s)) := by
  have joined : SlotKept (setMember m s) := setMember_slotKept h hm hl
  have hfree : (setMember m s).member.inFlight = false := by rw [setMember_member]; exact h.free
  have hheld : (setMember m s).member.heldOver = none := by rw [setMember_member]; exact h.heldOver
  have hst : (setMember m s).member.st = m := setMember_st m s
  refine ⟨loadNotice_slotSound_of_free hfree hheld joined.1.kinds ?_ (fun e => absurd (hst ▸ e) hl)
    (fun e => absurd (hst ▸ e) hm) (fun e => absurd (hst ▸ e) hm), loadNotice_frameFits k joined.2⟩
  rw [hst]; exact hk

theorem enterJoinAsk_slotKept {s : State} (h : Vacated s) : SlotKept (enterJoinAsk s) :=
  loadNotice_setMember_slotKept (m := .joinAsk) (k := .joinAsk)
    ⟨h.slot, h.free, h.heldOver, h.sending, h.raising⟩ rfl (by decide) (by decide)

theorem enterJoinConfirm_slotKept {s : State} (h : Vacated s) : SlotKept (enterJoinConfirm s) :=
  loadNotice_setMember_slotKept (m := .joinConfirm) (k := .joinConfirm) h rfl (by decide) (by decide)

theorem holdOver_of_leave (held : Option NoticeKind) : holdOver .leave held = some .leave := by
  cases held with
  | none => rfl
  | some j => cases j <;> rfl

/-- A LEAVE takes the slot, or is held over behind the notice in flight (R104, R107, R117). -/
theorem loadNotice_leave_slotSound {s : State} (hst : s.member.st = .leaving) (hflying : s.member.inFlight = true → s.member.slot.isSome)
    (hheld : s.member.inFlight = false → s.member.heldOver = none) (hr : s.share.raiseReady = none) :
    SlotSound (loadNotice .leave s).member (loadNotice .leave s).share := by
  have fits (k : NoticeKind) : SlotKindFits s.member.st k := by rw [hst]; exact trivial
  cases hfly : s.member.inFlight with
  | false =>
    refine loadNotice_slotSound_of_free hfly (hheld hfly) (fun n _ => fits n.kind) (fits .leave) (fun _ => rfl) ?_ ?_ <;>
      intro hm <;> rw [hst] at hm <;> cases hm
  | true =>
    rw [loadNotice_of_inFlight hfly, holdOver_of_leave]
    exact
      { kinds := fun n _ => fits n.kind
        flying := hflying
        held := fun k hk => ⟨hfly, by rw [if_pos (by exact hst)]; exact (Option.some.inj hk).symm⟩
        leaves := fun _ => .inr ⟨hfly, rfl⟩
        claimed := fun hm => by rw [hst] at hm; cases hm
        covered := fun hm => by rw [hst] at hm; cases hm
        quiet := fun hm => by rw [hst] at hm; cases hm
        raising := fun r e => by rw [hr] at e; cases e }

/-- Outside a flight nothing is held over. -/
theorem SlotSound.held_none {m : Membership} {l : LoadShare} (h : SlotSound m l) (hfree : m.inFlight = false) :
    m.heldOver = none :=
  Option.eq_none_iff_forall_ne_some.2 fun k hk => absurd (hfree.symm.trans (h.held k hk).1) (by decide)

/-- Only in MEMBER and LEAVING is a load held over. -/
theorem SlotSound.held_none_of {m : Membership} {l : LoadShare} (h : SlotSound m l) (hm : m.st ≠ .member)
    (hl : m.st ≠ .leaving) : m.heldOver = none :=
  Option.eq_none_iff_forall_ne_some.2 fun k hk => by
    obtain ⟨-, hkind⟩ := h.held k hk
    rw [if_neg hl] at hkind
    exact hm hkind.1

theorem SlotSound.raising_none {m : Membership} {l : LoadShare} (h : SlotSound m l) (hm : m.st ≠ .member) :
    l.raiseReady = none :=
  Option.not_isSome_iff_eq_none.1 (mt h.raising_member hm)

theorem leaving_slotKept {s : State} (h : SlotKept s) : SlotKept (loadNotice .leave (setMember .leaving s)) := by
  refine ⟨loadNotice_leave_slotSound (setMember_st _ _) ?_ ?_ ?_, loadNotice_frameFits _ ?_⟩
  · rw [setMember_member]; exact h.1.flying
  · rw [setMember_member]; exact h.1.held_none
  · exact setMember_raiseReady_none (by decide) h.1.raising_member
  · rw [setMember_framer, setMember_member]; exact h.2

theorem memberPower_slotKept {s : State} (h : SlotKept s) : SlotKept (memberPower s) := by
  have stood : SlotKept (enterStandby s) := enterStandby_slotKept h.sends h.1.raising_member
  have leaving := leaving_slotKept h
  unfold memberPower; split
  · exact stood
  · exact stood
  · exact leaving
  · exact leaving
  · exact leaving
  · exact leaving
  · exact h
  · exact ⟨⟨h.1.kinds, h.1.flying, h.1.held, h.1.leaves, h.1.claimed, h.1.covered, h.1.quiet, h.1.raising⟩, h.2⟩
  · next hst => exact enterJoinListen_slotKept (h.vacated (.inr (.inr (.inr (.inr hst)))))

/-! ## Received frames -/

/-- The counts of the Membership Controller do not show in its slot. -/
theorem SlotSound.counted {m n : Membership} {l : LoadShare} (h : SlotSound m l) (hst : n.st = m.st) (hslot : n.slot = m.slot)
    (hfly : n.inFlight = m.inFlight) (hheld : n.heldOver = m.heldOver) (hclaim : n.lastClaim = m.lastClaim) :
    SlotSound n l := by
  obtain ⟨hkinds, hflying, hhelds, hleaves, hclaimed, hcovered, hquiet, hraising⟩ := h
  constructor <;> simp only [hst, hslot, hfly, hheld, hclaim] <;> assumption

theorem FrameFits.counted {f : Framer} {m n : Membership} (h : FrameFits f m) (hslot : n.slot = m.slot)
    (hfly : n.inFlight = m.inFlight) : FrameFits f n := by
  unfold FrameFits; rwa [hslot, hfly]

theorem SlotKept.counted {s : State} (h : SlotKept s) {m : Membership} (hst : m.st = s.member.st)
    (hslot : m.slot = s.member.slot) (hfly : m.inFlight = s.member.inFlight) (hheld : m.heldOver = s.member.heldOver)
    (hclaim : m.lastClaim = s.member.lastClaim) : SlotKept { s with member := m } :=
  ⟨h.1.counted hst hslot hfly hheld hclaim, h.2.counted hslot hfly⟩

theorem clearLineFree_slotSound {s : State} (h : SlotSound s.member s.share) :
    SlotSound (clearLineFree s).member (clearLineFree s).share := by
  unfold clearLineFree; split
  · exact h.counted rfl rfl rfl rfl rfl
  · exact h

theorem clearLineFree_framer (s : State) : (clearLineFree s).framer = s.framer := by unfold clearLineFree; split <;> rfl

theorem not_sending_of_reading {s : State} (h : reading s = true) : s.framer.st ≠ .sending := by
  intro e
  simp [reading, e] at h

/-- A framer that reads has no frame of its own on the line. -/
theorem frameSeen_slotKept {s : State} (h : SlotKept s) (hreads : reading s = true) : SlotKept (frameSeen s) := by
  refine ⟨clearLineFree_slotSound h.1, ?_⟩
  have none := h.2.sending_none (not_sending_of_reading hreads)
  exact frameFits_of_none (by rw [frameSeen, clearLineFree_framer]; exact none)

theorem SlotKept.ended {s : State} (h : SlotKept s) : SlotKept (framerRest (endAttempt s)) :=
  framerRest_endAttempt_slotKept h.1 h.sends

theorem allowance_of_quiet {s : State} (h : quiet s = true) : s.share.allowance = 0 := by
  simp only [quiet, Bool.and_eq_true, decide_eq_true_eq] at h
  exact h.1.2

theorem loadNotice_slotKept {k : NoticeKind} {s : State} (h : SlotKept s) (hm : s.member.st = .member)
    (hk : k = .demand ∨ (k = .presence ∧ s.share.allowance = 0)) : SlotKept (loadNotice k s) :=
  ⟨loadNotice_slotSound h.1 hm hk, loadNotice_frameFits k h.2⟩

theorem ownAddress_slotKept (k : NoticeKind) {s : State} (h : SlotKept s) : SlotKept (ownAddress k s) := by
  have duplicate := enterDuplicate_slotKept h
  have defended (hm : s.member.st = .member) : SlotKept (defendAddress s) := by
    unfold defendAddress; split
    · next hq => exact loadNotice_slotKept (h.counted rfl rfl rfl rfl rfl) hm (.inr ⟨rfl, allowance_of_quiet hq⟩)
    · exact loadNotice_slotKept h hm (.inl rfl)
  unfold ownAddress; split
  · exact duplicate
  · exact duplicate
  · exact duplicate
  · exact duplicate
  · next hm =>
    split
    · exact defended hm
    · exact duplicate
  all_goals exact h

theorem deliver_slotKept (addr : Nat) (n : Notice) {s : State} (h : SlotKept s) : SlotKept (deliver addr n s) := by
  unfold deliver; dsimp only; split
  · next hreads =>
    have seen := frameSeen_slotKept h hreads
    refine SlotKept.ended ?_
    split
    · exact ownAddress_slotKept _ seen
    · exact keptUpkeep.setTable _ seen
  · exact h

theorem discardFrame_slotKept {s : State} (h : SlotKept s) : SlotKept (discardFrame s) := by
  unfold discardFrame; split
  · next hreads => exact (frameSeen_slotKept h hreads).ended
  · exact h

/-! ## Own attempts -/

theorem beginSending_slotSound {s : State} (h : SlotSound s.member s.share) :
    SlotSound (beginSending s).member (beginSending s).share := by
  unfold beginSending; split
  · exact h
  · next n hn =>
    exact
      { kinds := h.kinds
        flying := fun _ => by rw [hn]; rfl
        held := fun k hk => ⟨rfl, (h.held k hk).2⟩
        leaves := fun hl => (h.leaves hl).imp id fun both => ⟨rfl, both.2⟩
        claimed := h.claimed
        covered := h.covered
        quiet := h.quiet
        raising := h.raising }

theorem idleHoldExpiry_slotKept {s : State} (h : SlotKept s) : SlotKept (idleHoldExpiry s) := by
  unfold idleHoldExpiry; split
  · split
    · exact ⟨beginSending_slotSound h.1, beginSending_frameFits s h.2⟩
    all_goals exact h
  · exact h

theorem loseArbitration_slotKept (bit : Nat) {s : State} (h : SlotKept s) : SlotKept (loseArbitration bit s) := by
  unfold loseArbitration; split
  · exact h
  · split
    · exact ⟨h.1, frameFits_of_none rfl⟩
    · exact h

/-! ## Completion -/

/-- A completed notice is taken from the slot, its claim recorded and the isolation limit set (R94, R96, R108). -/
def noticeTaken (n : Notice) (s : State) : State :=
  { s with
    framer := { s.framer with failures := 0 }
    member := { s.member with lastClaim := n.claim, slot := none, inFlight := false }
    share := shareCompletion n s.member.st s.share }

theorem complete_eq (n : Notice) (s : State) :
    complete n s = framerRest (loadHeldOver (completionAction n (noticeTaken n s))) := rfl

/-- Only a DEMAND in MEMBER starts the raise-ready timer (R94). -/
theorem noticeTaken_raiseReady_none {n : Notice} {s : State} (hm : s.member.st ≠ .member) (hr : s.share.raiseReady = none) :
    (noticeTaken n s).share.raiseReady = none := by
  show (if n.kind = .demand ∧ s.member.st = .member then some _ else s.share.raiseReady) = none
  rw [if_neg fun both => hm both.2, hr]

theorem loadHeldOver_of_none {s : State} (h : s.member.heldOver = none) : loadHeldOver s = s := by
  unfold loadHeldOver; rw [h]

/-- Behind a notice in flight the load held over stays so. -/
theorem loadHeldOver_of_sound {s : State} (h : SlotSound s.member s.share) : loadHeldOver s = s := by
  cases hheld : s.member.heldOver with
  | none => exact loadHeldOver_of_none hheld
  | some k =>
    obtain ⟨hfly, -⟩ := h.held k hheld
    unfold loadHeldOver; rw [hheld]; dsimp only
    rw [loadNotice_of_inFlight (by exact hfly)]
    show { s with member := { s.member with heldOver := some k } } = s
    rw [← hheld]

theorem loadHeldOver_of_some {k : NoticeKind} {s : State} (h : s.member.heldOver = some k) :
    loadHeldOver s = loadNotice k { s with member := { s.member with heldOver := none } } := by
  unfold loadHeldOver; rw [h]

/-- Completions that act on the membership: of a JOIN-ASK in JOIN_ASK, of a JOIN-CONFIRM in JOIN_CONFIRM, of a LEAVE in LEAVING. -/
def ActsOn : Notice → MemberState → Prop
  | .joinAsk _, m => m = .joinAsk
  | .joinConfirm _ _, m => m = .joinConfirm
  | .leave, m => m = .leaving
  | .demand _, _ => False
  | .presence, _ => False

theorem completionAction_joinAsk {nonce : Fin 256} {s : State} (h : s.member.st = .joinAsk) :
    completionAction (.joinAsk nonce) s = setMember .joinHold { s with member := { s.member with periodCount := 0 } } := by
  unfold completionAction; rw [h]

theorem completionAction_joinConfirm {nonce : Fin 256} {held : Nat} {s : State} (h : s.member.st = .joinConfirm) :
    completionAction (.joinConfirm nonce held) s = enterMember held s := by
  unfold completionAction; rw [h]

theorem completionAction_leave {s : State} (h : s.member.st = .leaving) : completionAction .leave s = enterStandby s := by
  unfold completionAction; rw [h]

theorem completionAction_of_not_acts {n : Notice} {s : State} (h : ¬ActsOn n s.member.st) : completionAction n s = s := by
  unfold completionAction
  generalize s.member.st = m at h
  cases n with
  | demand => cases m <;> rfl
  | presence => cases m <;> rfl
  | joinAsk =>
    cases m with
    | joinAsk => exact absurd rfl h
    | _ => rfl
  | joinConfirm =>
    cases m with
    | joinConfirm => exact absurd rfl h
    | _ => rfl
  | leave =>
    cases m with
    | leaving => exact absurd rfl h
    | _ => rfl

/-- The framer stays in SENDING up to its rest, which ends the frame. -/
theorem framerRest_slotKept_of_sending {s : State} (hst : s.framer.st = .sending) (h : SlotSound s.member s.share) :
    SlotKept (framerRest s) :=
  framerRest_slotKept h fun hn => absurd hst hn

/-- A JOIN-ASK's completion leaves JOIN_HOLD with nothing to send yet (R112). -/
theorem complete_joinAsk_slotKept {nonce : Fin 256} {s : State} (h : SlotKept s) (hm : s.member.st = .joinAsk)
    (hst : s.framer.st = .sending) : SlotKept (complete (.joinAsk nonce) s) := by
  have hheld := h.1.held_none_of (by rw [hm]; decide) (by rw [hm]; decide)
  have hraise := h.1.raising_none (by rw [hm]; decide)
  rw [complete_eq, completionAction_joinAsk (by exact hm), loadHeldOver_of_none (by rw [setMember_member]; exact hheld)]
  refine framerRest_slotKept_of_sending (by rw [setMember_framer]; exact hst) ?_
  have hr : (setMember .joinHold { noticeTaken (.joinAsk nonce) s with
      member := { (noticeTaken (.joinAsk nonce) s).member with periodCount := 0 } }).share.raiseReady = none := by
    rw [setMember_raiseReady]
    split
    · rfl
    · exact noticeTaken_raiseReady_none (by rw [hm]; decide) hraise
  rw [setMember_member]
  exact slotSound_of_empty rfl rfl hheld hr nofun nofun

/-- MEMBER is entered with an empty slot and an allowance within the claim that the JOIN-CONFIRM carried (R92, R113). -/
theorem setMember_member_slotSound {held : Nat} {s : State} (hslot : s.member.slot = none) (hfree : s.member.inFlight = false)
    (hheld : s.member.heldOver = none) (hclaim : s.member.lastClaim = held) (hr : s.share.raiseReady = none)
    (ha : s.share.allowance ≤ held) : SlotSound (setMember .member s).member (setMember .member s).share := by
  have hallowance : (setMember .member s).share.allowance ≤ held := by
    simp only [setMember, compute_share_allowance]
    exact (min_le_left _ _).trans ha
  have hraise : (setMember .member s).share.raiseReady = none := by
    rw [setMember_raiseReady, if_neg (by simp)]; exact hr
  rw [setMember_member]
  exact
    { kinds := fun n hn => by simp [hslot] at hn
      flying := fun hf => by simp [hfree] at hf
      held := fun k hk => by simp [hheld] at hk
      leaves := nofun
      claimed := fun _ => hallowance.trans hclaim.ge
      covered := fun _ a ha => by simp [hslot] at ha
      quiet := fun _ hp => by simp [hslot, hheld] at hp
      raising := fun r e => by simp [hraise] at e }

theorem enterMember_eq (held : Nat) (s : State) :
    enterMember held s =
      (fun u => if 0 < u.request.want then loadNotice .demand u else u)
        (reportFault .lineIsolated false
          (setMember .member
            { s with
              member := { s.member with presence := presenceStart, refWant := 0, joinNonce := none }
              share := { s.share with allowance := min s.share.allowance held } })) := rfl

theorem reportFault_member_st (k : FaultKind) (b : Bool) (s : State) : (reportFault k b s).member.st = s.member.st := by
  obtain ⟨-, -, -, hstanding, -⟩ := reportFault_cabinetFrame k b s
  unfold KeepsStanding at hstanding
  rw [hstanding]

/-- The entry to MEMBER while the frame of the JOIN-CONFIRM is still on the line: the framer is left alone. -/
theorem enterMember_slotSound {held : Nat} {s : State} (hst : s.framer.st = .sending) (hslot : s.member.slot = none)
    (hfree : s.member.inFlight = false) (hheld : s.member.heldOver = none) (hclaim : s.member.lastClaim = held)
    (hr : s.share.raiseReady = none) :
    SlotSound (enterMember held s).member (enterMember held s).share ∧ (enterMember held s).framer = s.framer := by
  have busy : s.framer.st ≠ .listen := by rw [hst]; decide
  rw [enterMember_eq]
  generalize hu : ({ s with
    member := { s.member with presence := presenceStart, refWant := 0, joinNonce := none }
    share := { s.share with allowance := min s.share.allowance held } } : State) = u
  have joined : SlotSound (setMember .member u).member (setMember .member u).share :=
    setMember_member_slotSound (held := held) (by subst hu; exact hslot) (by subst hu; exact hfree)
      (by subst hu; exact hheld) (by subst hu; exact hclaim) (by subst hu; exact hr) (by subst hu; exact min_le_right _ _)
  have framed : (setMember .member u).framer = s.framer := by rw [setMember_framer]; subst hu; rfl
  have told := slotUpkeep.reportFault (k := .lineIsolated) trivial false joined
  have still := (busyUpkeep busy).reportFault (k := .lineIsolated) trivial false framed
  have hm : (reportFault .lineIsolated false (setMember .member u)).member.st = .member := by
    rw [reportFault_member_st, setMember_st]
  dsimp only; split
  · exact ⟨loadNotice_slotSound told hm (.inl rfl), (loadNotice_framer_of_busy (by rw [still]; exact busy)).trans still⟩
  · exact ⟨told, still⟩

theorem complete_joinConfirm_slotKept {nonce : Fin 256} {held : Nat} {s : State} (h : SlotKept s)
    (hm : s.member.st = .joinConfirm) (hst : s.framer.st = .sending) :
    SlotKept (complete (.joinConfirm nonce held) s) := by
  have hr : (noticeTaken (.joinConfirm nonce held) s).share.raiseReady = none :=
    noticeTaken_raiseReady_none (by rw [hm]; decide) (h.1.raising_none (by rw [hm]; decide))
  obtain ⟨joined, still⟩ := enterMember_slotSound (held := held) (s := noticeTaken (.joinConfirm nonce held) s) hst rfl rfl
    (h.1.held_none_of (by rw [hm]; decide) (by rw [hm]; decide)) rfl hr
  rw [complete_eq, completionAction_joinConfirm (by exact hm), loadHeldOver_of_sound joined]
  exact framerRest_slotKept_of_sending (by rw [still]; exact hst) joined

/-- A DEMAND or PRESENCE completed in MEMBER: the allowance is within its claim, which a load held over then renews (R94, R108). -/
theorem complete_member_slotKept {n : Notice} {s : State} (h : SlotKept s) (hm : s.member.st = .member)
    (hslot : s.member.slot = some n) (hst : s.framer.st = .sending) : SlotKept (complete n s) := by
  have hn : n.kind = .demand ∨ n.kind = .presence := by simpa [hm, SlotKindFits] using h.1.kinds n hslot
  have hclaim : s.share.allowance ≤ n.claim := by
    cases n with
    | demand a => exact h.1.covered hm a hslot
    | presence => exact (h.1.quiet hm (.inl hslot)).le.trans (Nat.zero_le _)
    | _ => simp [Notice.kind] at hn
  have hraise : ∀ r, (noticeTaken n s).share.raiseReady = some r → r.target = n.claim := by
    intro r hr
    simp only [noticeTaken, shareCompletion] at hr
    split at hr
    · rw [← Option.some.inj hr]
    · have := (h.1.raising r hr).2.1
      simp [hslot] at this
  have hstay : ¬ActsOn n (noticeTaken n s).member.st := by
    have : (noticeTaken n s).member.st = .member := hm
    rw [this]
    cases n <;> simp [ActsOn]
  rw [complete_eq, completionAction_of_not_acts hstay]
  cases hheld : s.member.heldOver with
  | none =>
    rw [loadHeldOver_of_none (by exact hheld)]
    exact framerRest_slotKept_of_sending hst
      { kinds := nofun
        flying := nofun
        held := fun k hk => by rw [show (noticeTaken n s).member.heldOver = none from hheld] at hk; cases hk
        leaves := fun e => by rw [show (noticeTaken n s).member.st = .member from hm] at e; cases e
        claimed := fun _ => hclaim
        covered := fun _ a => nofun
        quiet := fun _ hp => by
          obtain hp | hp := hp
          · cases hp
          · rw [show (noticeTaken n s).member.heldOver = none from hheld] at hp; cases hp
        raising := fun r hr => ⟨hm, rfl, hraise r hr⟩ }
  | some k =>
    have hkind := (h.1.held k hheld).2
    rw [if_neg (by rw [hm]; decide)] at hkind
    rw [loadHeldOver_of_some (by exact hheld)]
    refine framerRest_slotKept_of_sending
      (by rw [loadNotice_framer_of_busy (by rw [show (noticeTaken n s).framer.st = .sending from hst]; decide)]; exact hst) ?_
    refine loadNotice_slotSound_of_free rfl rfl nofun ?_ (fun e => ?_) (fun _ => hclaim) fun _ hp => ?_
    · show SlotKindFits s.member.st k
      rw [hm]; exact hkind.2
    · rw [show (noticeTaken n s).member.st = .member from hm] at e; cases e
    · exact h.1.quiet hm (.inr (hp ▸ hheld))

/-- In LEAVING a completed LEAVE ends in STANDBY, and behind any other notice the LEAVE held over is loaded (R117, R118). -/
theorem complete_leaving_slotKept {n : Notice} {s : State} (h : SlotKept s) (hm : s.member.st = .leaving)
    (hslot : s.member.slot = some n) (hst : s.framer.st = .sending) : SlotKept (complete n s) := by
  have hr : (noticeTaken n s).share.raiseReady = none :=
    noticeTaken_raiseReady_none (by rw [hm]; decide) (h.1.raising_none (by rw [hm]; decide))
  rw [complete_eq]
  by_cases hleave : n = .leave
  · subst hleave
    have stood : SlotKept (enterStandby (noticeTaken .leave s)) :=
      enterStandby_slotKept (fun _ => hst) (fun hs => by simp [hr] at hs)
    rw [completionAction_leave (by exact hm), loadHeldOver_of_sound stood.1]
    exact stood.rest
  · have hstay : ¬ActsOn n (noticeTaken n s).member.st := by
      rw [show (noticeTaken n s).member.st = .leaving from hm]
      cases n with
      | leave => exact absurd rfl hleave
      | _ => simp [ActsOn]
    have hheld : s.member.heldOver = some .leave := by
      obtain hw | ⟨-, hw⟩ := h.1.leaves hm
      · exact absurd (Option.some.inj (hslot.symm.trans hw)) hleave
      · exact hw
    rw [completionAction_of_not_acts hstay, loadHeldOver_of_some (by exact hheld)]
    refine framerRest_slotKept_of_sending
      (by rw [loadNotice_framer_of_busy (by rw [show (noticeTaken n s).framer.st = .sending from hst]; decide)]; exact hst) ?_
    exact loadNotice_leave_slotSound hm nofun (fun _ => rfl) hr

/-- A completion by the membership state: in the states that send nothing there is none. -/
theorem complete_slotKept {n : Notice} {s : State} (h : SlotKept s) (hslot : s.member.slot = some n)
    (hst : s.framer.st = .sending) : SlotKept (complete n s) := by
  have hfits := h.1.kinds n hslot
  cases hm : s.member.st with
  | joinAsk =>
    rw [hm] at hfits
    cases n with
    | joinAsk nonce => exact complete_joinAsk_slotKept h hm hst
    | _ => cases hfits
  | joinConfirm =>
    rw [hm] at hfits
    cases n with
    | joinConfirm nonce held => exact complete_joinConfirm_slotKept h hm hst
    | _ => cases hfits
  | member => exact complete_member_slotKept h hm hslot hst
  | leaving => exact complete_leaving_slotKept h hm hslot hst
  | _ => rw [hm] at hfits; exact hfits.elim

end Sys2Proof.Machine

namespace Sys2Proof.Machine

/-! PROOFS. The notice slot and its claim (O56), third part: lost attempts, shed marks and timers, and the settlement of O56. -/

/-! ## Lost attempts -/

/-- What the entry to ISOLATED reports on: events are taken, the requests are fresh and the lock is watched. -/
def CabinetFresh (s : State) : Prop := Live s ∧ RequestFresh s ∧ LockWatched s

theorem sending_of_attempt {x : Sending} {s : State} (h : attempt s = some x) :
    s.framer.st = .sending ∧ s.framer.sending = some x := by
  unfold attempt at h
  split at h
  · next both => exact ⟨both.1, h⟩
  · cases h

/-- The loss of the line: the station is isolated or stands by, and where it had nothing to send it does as it would otherwise. -/
theorem loseLine_slotKept {otherwise : State → State} {s : State} (hf : CabinetFresh s) (hsends : SendingFits s)
    (hr : s.share.raiseReady.isSome = true → s.member.st = .member)
    (ho : SendsNothing s.member.st → SlotKept (otherwise s)) : SlotKept (loseLine otherwise s) := by
  obtain ⟨hl, hfresh, hw⟩ := hf
  have isolated := enterIsolated_slotKept hl hfresh hw hsends hr
  unfold loseLine; split
  · exact isolated
  · exact isolated
  · exact isolated
  · exact isolated
  · exact isolated
  · exact enterStandby_slotKept hsends hr
  · next hst => exact ho (.inr (.inr (.inl hst)))
  · next hst => exact ho (.inr (.inr (.inr (.inl hst))))
  · next hst => exact ho (.inr (.inr (.inr (.inr hst))))

theorem failAttempt_slotKept {s : State} (hf : CabinetFresh s) (h : SlotKept s) : SlotKept (failAttempt s) := by
  unfold failAttempt; dsimp only; split
  · exact h
  · generalize hn : min (s.framer.failures + 1) failureLimit = n
    generalize hu : ({ s with framer := touchLine { s.framer with failures := n } } : State) = u
    have counted : SlotKept u := by subst hu; exact h
    split
    · have fresh : CabinetFresh u := by subst hu; exact hf
      refine (loseLine_slotKept fresh counted.sends counted.1.raising_member fun hm => ?_).rest
      exact ⟨endAttempt_slotSound counted.1, endAttempt_frameFits (counted.vacated hm).sending⟩
    · exact counted.ended

/-- On a stuck line nothing is in flight, and where the station had nothing to send it goes on so. -/
theorem stuckLine_slotKept {s : State} (hf : CabinetFresh s) (h : SlotKept s) : SlotKept (stuckLine s) := by
  unfold stuckLine; split
  · exact h
  · refine loseLine_slotKept hf nofun h.1.raising_member fun hm => ?_
    have sound : SlotSound { s.member with inFlight := false } s.share :=
      h.1.counted rfl rfl (h.vacated hm).free.symm rfl rfl
    exact ⟨clearLineFree_slotSound sound, frameFits_of_none (by rw [clearLineFree_framer]; rfl)⟩

theorem releaseStuck_slotKept {s : State} (h : SlotKept s) : SlotKept (releaseStuck s) := by
  unfold releaseStuck; split
  · next hst =>
    have none : s.framer.sending = none := h.2.sending_none (by rw [hst]; decide)
    exact ⟨h.1, frameFits_of_none none⟩
  · exact h

theorem lineFreed_slotKept {s : State} (h : SlotKept s) : SlotKept (lineFreed s) := by
  unfold lineFreed; dsimp only; split
  · split
    · next hst =>
      split
      · exact h.counted rfl rfl rfl rfl rfl
      · exact exitIsolated_slotKept (s := { s with framer := { s.framer with lineFreed := none } }) h hst
    · exact h
  · exact h

/-! ## Shed marks -/

theorem startHold_slotSound (originated : Bool) {s : State} (h : SlotSound s.member s.share) :
    SlotSound (startHold originated s).member (startHold originated s).share := by
  unfold startHold; split
  · exact h
  · exact compute_slotSound (s := { s with share := _ }) (h.lowered rfl fun _ => min_le_left _ _)

theorem startHold_framer (originated : Bool) (s : State) : (startHold originated s).framer = s.framer := by
  unfold startHold; split
  · rfl
  · exact compute_framer _

theorem startHold_member (originated : Bool) (s : State) : (startHold originated s).member = s.member := by
  unfold startHold; split
  · rfl
  · exact compute_member _

theorem startHold_slotKept (originated : Bool) {s : State} (h : SlotKept s) : SlotKept (startHold originated s) := by
  refine ⟨startHold_slotSound originated h.1, ?_⟩
  rw [startHold_framer, startHold_member]
  exact h.2

theorem clearLineFree_slotKept {s : State} (h : SlotKept s) : SlotKept (clearLineFree s) := by
  unfold clearLineFree; split
  · exact h.counted rfl rfl rfl rfl rfl
  · exact h

theorem markSeen_slotKept (ownPulse inFrame : Bool) {s : State} (h : SlotKept s) :
    SlotKept (markSeen ownPulse inFrame s) := by
  have seen : SlotKept (clearLineFree { s with framer := touchLine { s.framer with drive := none } }) :=
    clearLineFree_slotKept (s := { s with framer := touchLine { s.framer with drive := none } }) h
  have held (own : Bool) {u : State} (hu : SlotKept u) : SlotKept (if own then u else startHold false u) := by
    split
    · exact hu
    · exact startHold_slotKept false hu
  unfold markSeen; dsimp only; split
  · split
    · exact (held _ seen).ended
    · exact (held _ seen).rest
  · exact h

/-! ## Timers -/

theorem memberPeriod_slotKept {s : State} (h : SlotKept s) : SlotKept (memberPeriod s) := by
  have counted (n : Nat) : SlotKept { s with member := { s.member with periodCount := n } } :=
    h.counted rfl rfl rfl rfl rfl
  have present (n : Nat) : SlotKept { s with member := { s.member with presence := n } } := h.counted rfl rfl rfl rfl rfl
  have told (hm : s.member.st = .member) : SlotKept (cadence s) := by
    unfold cadence; split
    · next hq =>
      split
      · exact loadNotice_slotKept (present _) hm (.inr ⟨rfl, allowance_of_quiet hq⟩)
      · exact present _
    · exact loadNotice_slotKept (present _) hm (.inl rfl)
  unfold memberPeriod; dsimp only; split
  · next hst =>
    split
    · exact enterJoinAsk_slotKept ((counted _).vacated (.inl hst))
    · exact counted _
  · next hst =>
    split
    · exact enterJoinConfirm_slotKept ((counted _).vacated (.inr (.inl hst)))
    · exact counted _
  · next hst => exact told hst
  all_goals exact h

theorem decreaseHold_keeps (l : LoadShare) :
    (decreaseHold l).raiseReady = l.raiseReady ∧ (decreaseHold l).allowance = l.allowance := by
  unfold decreaseHold; split <;> exact ⟨rfl, rfl⟩

theorem periodExpiry_slotKept {s : State} (h : SlotKept s) : SlotKept (periodExpiry s) := by
  have aged : SlotKept (ageTable s) := keptUpkeep.reportFault (s := { s with table := _ }) trivial _ h
  unfold periodExpiry; split
  · refine memberPeriod_slotKept (compute_slotKept (s := { ageTable s with share := _ }) ⟨?_, aged.2⟩)
    obtain ⟨hr, ha⟩ := decreaseHold_keeps (ageTable s).share
    exact aged.1.lowered hr fun _ => ha.le
  · exact h

/-- The raise goes up to the target claim, that of the last completed notice, over an empty slot (R94, R95). -/
theorem raiseExpiry_slotKept {s : State} (h : SlotKept s) : SlotKept (raiseExpiry s) := by
  unfold raiseExpiry; split
  · exact h
  · next r hr =>
    obtain ⟨hm, hslot, htarget⟩ := h.1.raising r hr
    have free : s.member.inFlight = false := by
      by_contra hfly
      simpa [hslot] using h.1.flying (by simpa using hfly)
    have hheld := h.1.held_none free
    dsimp only
    refine ⟨?_, ?_⟩
    · rw [settle_member, settle_share]
      dsimp only
      rw [compute_member]
      exact
        { kinds := h.1.kinds
          flying := h.1.flying
          held := h.1.held
          leaves := h.1.leaves
          claimed := fun _ => (min_le_left _ _).trans htarget.le
          covered := fun _ a ha => by rw [hslot] at ha; cases ha
          quiet := fun _ hp => by rw [hslot, hheld] at hp; simp at hp
          raising := fun r hr => by simp at hr }
    · rw [settle_framer, settle_member]
      dsimp only
      rw [compute_framer, compute_member]
      exact h.2

theorem limitExpiry_slotKept {s : State} (h : SlotKept s) : SlotKept (limitExpiry s) := by
  unfold limitExpiry; split
  · exact compute_slotKept (s := { s with share := _ }) ⟨h.1.lowered rfl fun _ => le_rfl, h.2⟩
  · exact h

theorem dwellExpiry_slotKept {s : State} (h : SlotKept s) : SlotKept (dwellExpiry s) := by
  have dwelt : SlotKept { s with member := { s.member with dwell := none } } := h.counted rfl rfl rfl rfl rfl
  unfold dwellExpiry; dsimp only; split
  · split
    · next both => exact exitIsolated_slotKept dwelt both.1
    · exact dwelt
  · exact h

theorem powerPress_slotKept {s : State} (h : SlotKept s) : SlotKept (powerPress s) := by
  have clicked : SlotKept (sound .click { s with panel := { s.panel with power := KeyLine.steady true } }) := h
  have powered {u : State} (hu : SlotKept u) : SlotKept (cyclePower u) := by
    have left (st : CycleState) : SlotKept (memberPower (checkLock (handOver (leaveTo st u)))) :=
      memberPower_slotKept (keptUpkeep.leftAndHanded st hu)
    unfold cyclePower; split
    · exact left .standby
    · exact left .standby
    · exact left .idle
    all_goals exact hu
  unfold powerPress; dsimp only; split
  · split
    · exact powered clicked
    · exact clicked
  · exact h

/-! ## Mains -/

theorem sagTest_slotKept (dominant : Nat) {s : State} (h : SlotKept s) : SlotKept (sagTest dominant s) := by
  have marked (f : Feeder) : SlotKept (requestMark dominant { s with feeder := f }) := by
    unfold requestMark; split <;> exact h
  unfold sagTest; dsimp only; split
  · split
    · exact startHold_slotKept true (marked _)
    · exact h
  · exact h

/-- Learning ends in STANDBY, where nothing stands in the slot (R17). -/
theorem learnCross_slotKept (since : Nat) {s : State} (h : SlotKept s) (hst : s.member.st = .standby) :
    SlotKept (learnCross since s) := by
  have resting := h.vacated (.inr (.inr (.inr (.inr hst))))
  have judged (f : Feeder) : SlotKept (judgeLearning { s with feeder := f }) := by
    have joined (f : Feeder) : SlotKept (enterJoinListen { s with feeder := f }) :=
      enterJoinListen_slotKept ⟨resting.slot, resting.free, resting.heldOver, resting.sending, resting.raising⟩
    unfold judgeLearning; dsimp only; split
    · split
      · exact joined _
      · exact joined _
    · exact keptUpkeep.reportFault (s := { s with feeder := _ }) trivial _ h
  unfold learnCross; dsimp only; split
  · split
    · exact judged _
    · exact h
  · exact h

theorem zeroCross_slotKept (since dominant : Nat) {s : State} (hboot : BootQuiet s) (h : SlotKept s) :
    SlotKept (zeroCross since dominant s) := by
  unfold zeroCross; split
  · split
    · exact h
    · next hst => exact learnCross_slotKept since h (hboot (.inr (.inr hst))).1
    · have tested : SlotKept (if s.feeder.halfOpen then sagTest dominant s else s) := by
        split
        · exact sagTest_slotKept dominant h
        · exact h
      exact tested
    · unfold lostCross; split <;> exact h
  · exact h

theorem watchdogExpiry_slotKept {s : State} (h : SlotKept s) : SlotKept (watchdogExpiry s) := by
  unfold watchdogExpiry; split
  · split
    · exact h
    · exact keptUpkeep.reportFault (s := { s with feeder := _ }) trivial _ h
    · exact keptUpkeep.reportFault (s := { s with feeder := _, loads := _ }) trivial _ h
    · exact h
  · exact h

theorem resumeExpiry_slotKept {s : State} (h : SlotKept s) : SlotKept (resumeExpiry s) := by
  unfold resumeExpiry; split
  · exact keptUpkeep.reportFault (s := { s with feeder := _ }) trivial _ h
  · exact h

/-! ## Start-up -/

theorem freshStart_vacated (s : State) : Vacated (freshStart s) := by
  constructor <;> simp [freshStart, State.reset, Membership.reset, Framer.reset, LoadShare.reset]

theorem powerOn_slotKept (p0 p1 p2 rh : Int) (s : State) : SlotKept (powerOn p0 p1 p2 rh s) := by
  refine keptUpkeep.firstReadings p0 p1 p2 rh ⟨slotSound_of_empty ?_ ?_ ?_ ?_ ?_ ?_, frameFits_of_none ?_⟩
  all_goals simp [freshStart, State.reset, Membership.reset, Framer.reset, LoadShare.reset]

theorem releaseReset_slotKept (p0 p1 p2 rh : Int) (s : State) : SlotKept (releaseReset p0 p1 p2 rh s) := by
  unfold releaseReset; split
  · obtain ⟨hslot, hfree, hheld, hsending, hraising⟩ := freshStart_vacated s
    refine keptUpkeep.firstReadings p0 p1 p2 rh (enterJoinListen_slotKept ?_)
    exact ⟨hslot, hfree, hheld, hsending, hraising⟩
  · exact powerOn_slotKept p0 p1 p2 rh s

/-! ## Every step -/

/-- Every command keeps slot, claims and frame sound. -/
theorem exec_slotKept {c : Instr} {s t : State} (hfresh : RequestFresh s) (hlock : LockWatched s) (hboot : BootQuiet s)
    (h : SlotKept s) (e : exec c s = .next t) : SlotKept t := by
  cases c with
  | powerOnReset p0 p1 p2 rh => exact Host.Outcome.next.inj e ▸ powerOn_slotKept p0 p1 p2 rh s
  | resetPinAssert =>
    obtain rfl : assertReset s = t := Host.Outcome.next.inj e
    exact ⟨h.1, frameFits_of_none rfl⟩
  | resetPinRelease p0 p1 p2 rh => exact Host.Outcome.next.inj e ▸ releaseReset_slotKept p0 p1 p2 rh s
  | strapWindowEnd addr cap bank =>
    refine kept_of_live h (fun _ => ?_) e
    unfold strapWindowEnd; split <;> exact h
  | zeroCross since dominant => exact kept_of_live h (fun _ => zeroCross_slotKept since dominant hboot h) e
  | zeroCrossWatchdogExpiry => exact kept_of_live h (fun _ => watchdogExpiry_slotKept h) e
  | resumeTimerExpiry => exact kept_of_live h (fun _ => resumeExpiry_slotKept h) e
  | amplitudeSenseReading steps => exact kept_of_live h (fun _ => h) e
  | powerPress => exact kept_of_live h (fun _ => powerPress_slotKept h) e
  | sharePeriodExpiry => exact kept_of_live h (fun _ => periodExpiry_slotKept h) e
  | raiseReadyExpiry => exact kept_of_live h (fun _ => raiseExpiry_slotKept h) e
  | isolationLimitExpiry => exact kept_of_live h (fun _ => limitExpiry_slotKept h) e
  | isolationDwellExpiry => exact kept_of_live h (fun _ => dwellExpiry_slotKept h) e
  | idleHoldExpiry => exact kept_of_live h (fun _ => idleHoldExpiry_slotKept h) e
  | receiveDemand addr cls boost want claim draw => exact kept_of_live h (fun _ => deliver_slotKept _ _ h) e
  | receivePresence addr => exact kept_of_live h (fun _ => deliver_slotKept _ _ h) e
  | receiveJoinAsk addr nonce => exact kept_of_live h (fun _ => deliver_slotKept _ _ h) e
  | receiveJoinConfirm addr nonce held => exact kept_of_live h (fun _ => deliver_slotKept _ _ h) e
  | receiveLeave addr => exact kept_of_live h (fun _ => deliver_slotKept _ _ h) e
  | frameDiscarded => exact kept_of_live h (fun _ => discardFrame_slotKept h) e
  | arbitrationLost bit => exact kept_of_live h (fun _ => loseArbitration_slotKept bit h) e
  | noticeCompletion =>
    unfold exec execNoticeCompletion at e
    refine kept_of_live h (fun _ => ?_) e
    split
    · exact h
    · next x hx =>
      obtain ⟨hst, hsending⟩ := sending_of_attempt hx
      exact complete_slotKept h (h.2.2 x hsending).1 hst
  | attemptFailed => exact kept_of_live h (fun hl => failAttempt_slotKept ⟨hl, hfresh, hlock⟩ h) e
  | shedMarkSeen ownPulse inFrame => exact kept_of_live h (fun _ => markSeen_slotKept ownPulse inFrame h) e
  | lineStuck => exact kept_of_live h (fun hl => stuckLine_slotKept ⟨hl, hfresh, hlock⟩ h) e
  | lineStuckRelease => exact kept_of_live h (fun _ => releaseStuck_slotKept h) e
  | lineFreed => exact kept_of_live h (fun _ => lineFreed_slotKept h) e
  | _ => exact keptUpkeep.exec_cabinet h e trivial

/-- The notice being sent stays the same from pulse to pulse, and in SENDING. -/
theorem FrameFits.reads {f g : Framer} {m : Membership} (hr : FramerReads f g) (h : FrameFits f m) : FrameFits g m := by
  obtain ⟨hst, hnotice⟩ := h
  obtain rfl | rfl | ⟨x, hs, hx, rfl⟩ | ⟨hs, rfl⟩ | ⟨r, b, -, -, rfl⟩ := hr
  · exact ⟨hst, hnotice⟩
  · exact ⟨hst, hnotice⟩
  · exact ⟨fun _ => hs, fun y hy => Option.some.inj hy ▸ hnotice x hx⟩
  · refine frameFits_of_none (Option.not_isSome_iff_eq_none.1 fun hsome => ?_)
    have e := hst hsome
    rcases hs with hs | hs | hs <;> rw [hs] at e <;> cases e
  · exact ⟨hst, hnotice⟩

/-- Settles O56: a load in MEMBER claims the grant that bounds the allowance, the raise-ready timer runs only over the slot that the
completed claim has emptied, and every change of state empties the slot or loads what the new state sends. -/
theorem stepKeepsClaimCovers : Obligations.StepKeepsClaimCovers := by
  intro s t hfresh hlock _ hboot hsends hslot hclaims e
  have h : SlotKept s := (slotKept_iff s).2 ⟨hsends, hslot, hclaims⟩
  refine (slotKept_iff t).1 ?_
  unfold step at e
  split at e
  · next c rest _ => exact exec_slotKept (s := { s with pending := rest }) hfresh hlock hboot h e
  · obtain rfl : idle s = t := Host.Outcome.next.inj e
    obtain ⟨hsame, hreads, -⟩ := reads_idle s
    have hframe := h.2.reads hreads
    rw [hsame]
    exact ⟨h.1, hframe⟩

end Sys2Proof.Machine

namespace Sys2Proof.Machine

/-! PROOFS. The raise-ready and isolation-limit timers (O36), and the room a grant leaves its peers (O38). -/

/-- A computation after the share timers have been set: phase, gates and inputs are as they were. -/
theorem compute_stands (l : LoadShare) (s : State) :
    KeepsPhase s (compute { s with share := l }) ∧ KeepsGates s (compute { s with share := l }) ∧
      KeepsInputs s (compute { s with share := l }) := by
  have phase : KeepsPhase s (compute { s with share := l }) := compute_keepsPhase { s with share := l }
  obtain ⟨inputs, -, -, -, -, gates, -⟩ := compute_cabinetFrame { s with share := l }
  exact ⟨phase, gates, inputs⟩

/-- At its expiry the raise-ready timer frees the allowance up to its target claim (R94). -/
theorem raiseExpiry_of_running {r : RaiseReady} {s : State} (h : s.share.raiseReady = some r) :
    raiseExpiry s = freed r.target { s with share := { s.share with raiseReady := none } } := by
  unfold raiseExpiry freed; rw [h]

theorem freed_share (n : Nat) (s : State) :
    (freed n s).share = { s.share with grant := grantOf s, allowance := min n (grantOf s) } := by
  simp [freed, compute]

theorem freed_keeps (n : Nat) (s : State) :
    (freed n s).member = s.member ∧ (freed n s).framer = s.framer ∧ (freed n s).table = s.table ∧
      (freed n s).request = s.request ∧ (freed n s).climate = s.climate ∧ (freed n s).faults = s.faults ∧
      (freed n s).feeder = s.feeder := by
  simp [freed]

theorem freed_stands (n : Nat) (s : State) : KeepsPhase s (freed n s) ∧ KeepsGates s (freed n s) ∧ KeepsInputs s (freed n s) := by
  have phase := compute_keepsPhase s
  obtain ⟨inputs, -, -, -, -, gates, -⟩ := compute_cabinetFrame s
  unfold freed
  generalize compute s = c at *
  obtain ⟨inputs', -, -, -, -, gates', -⟩ :=
    settle_cabinetFrame { c with share := { c.share with allowance := min n c.share.grant } }
  exact ⟨KeepsPhase.trans (t := { c with share := _ }) phase (settle_keepsPhase _),
    KeepsGates.trans (t := { c with share := _ }) gates gates',
    KeepsInputs.trans (t := { c with share := _ }) inputs inputs'⟩

/-- The isolation limit does not show in a MEMBER's grant (R88, R97). -/
theorem grantOf_unlimited_of_member {s : State} (hm : s.member.st = .member) (limit : Option Nat) (timer : Timer) :
    grantOf { s with share := { s.share with limit := limit, limitTimer := timer } } = grantOf s := by
  simp [grantOf, baseGrant, ownShare, hm]

/-- With its limit lifted an isolated station is granted its want up to the isolated allowance (R97). -/
theorem grantOf_of_isolated {s : State} (hm : s.member.st = .isolated) (hl : s.share.limit = none) :
    grantOf s = min s.request.want s.straps.aIso := by
  simp [grantOf, baseGrant, hm, hl]

/-- Settles O36, by the two computations that the timers bring: one frees the allowance up to the target claim, the other is run
without the isolation limit. -/
theorem raiseAndLimitTimers : Obligations.RaiseAndLimitTimers := by
  intro r s hl
  refine ⟨fun hr => ?_, fun hr => ?_, fun hr => ?_, fun hr => ?_⟩
  · refine ⟨raiseExpiry s, live_of_live hl raiseExpiry, ?_⟩
    rw [raiseExpiry_of_running hr]
    obtain ⟨hmember, hframer, htable, hrequest, hclimate, hfaults, hfeeder⟩ :=
      freed_keeps r.target { s with share := { s.share with raiseReady := none } }
    obtain ⟨phase, gates, inputs⟩ := freed_stands r.target { s with share := { s.share with raiseReady := none } }
    have hgrant : grantOf { s with share := { s.share with raiseReady := none } } = grantOf s :=
      grantOf_congr rfl rfl rfl rfl rfl rfl
    refine ⟨?_, hmember, hframer, htable, hrequest, hclimate, hfaults, hfeeder, phase, gates, inputs⟩
    rw [freed_share, hgrant]
  · have hidle : raiseExpiry s = s := by unfold raiseExpiry; rw [hr]
    exact (live_of_live hl raiseExpiry).trans (congrArg _ hidle)
  · have hlift : limitExpiry s = compute { s with share := { s.share with limit := none, limitTimer := none } } := if_pos hr
    obtain ⟨phase, gates, inputs⟩ := compute_stands { s.share with limit := none, limitTimer := none } s
    refine ⟨limitExpiry s, live_of_live hl limitExpiry, ?_⟩
    rw [hlift]
    refine ⟨by simp, by simp, by simp, fun hm => ⟨?_, ?_⟩, fun hm => ⟨?_, ?_⟩, by simp, by simp, by simp, by simp, by simp,
      by simp, by simp, phase, gates, inputs⟩
    · rw [compute_share_grant]; exact grantOf_of_isolated hm rfl
    · simp [hm]
    · rw [compute_share_grant]; exact grantOf_unlimited_of_member hm none none
    · rw [compute_share_allowance, if_pos (by exact hm), grantOf_unlimited_of_member hm]
  · have hidle : limitExpiry s = s := by unfold limitExpiry; rw [hr]; rfl
    exact (live_of_live hl limitExpiry).trans (congrArg _ hidle)

/-! ## The room a grant leaves -/

theorem baseGrant_of_member {s : State} (hm : s.member.st = .member) :
    baseGrant s ≤ headroom s.straps s.table ∧ baseGrant s ≤ ownCeiling := by
  simp only [baseGrant, hm]; omega

/-- A headroom that is not 0 has every reservation of the table taken off the capacity (R83, R87). -/
theorem headroom_fits {k : Straps} {table : List Entry} (h : 0 < headroom k table) :
    headroom k table + headReserved table + poolReserved k.aIso table + missingCount k.bankSize table * k.aIso +
      controlReserve ≤ k.capacity := by
  unfold headroom pool at *
  generalize missingCount k.bankSize table * k.aIso = missing at *
  omega

theorem grantOf_le_baseGrant (s : State) : grantOf s ≤ baseGrant s := by
  unfold grantOf; split
  · exact min_le_left _ _
  · exact le_rfl

/-- Settles O38: a grant in MEMBER is within the headroom, and a headroom above 0 is the capacity less every reservation. -/
theorem grantFitsBesidePeers : Obligations.GrantFitsBesidePeers := by
  intro s hm hpos
  obtain ⟨hhead, hceiling⟩ := baseGrant_of_member hm
  have hbase := grantOf_le_baseGrant s
  have hfits := headroom_fits (hpos.trans_le (hbase.trans hhead))
  refine ⟨?_, grantOf_le_want s, hbase.trans hceiling, grantOf_le_iso_of_hold⟩
  unfold controlReserve at hfits
  omega

end Sys2Proof.Machine

namespace Sys2Proof.Machine

/-! PROOFS. The weighted fill (O37): a round's provisional shares sum to no more than Q, the leftover units go to no more
participants than there are units, and no participant is given more than its want. -/

/-! ## Provisional shares -/

theorem sum_provisional_mul_le (q total : Nat) (u : List Participant) :
    (u.map (provisional q total)).sum * total ≤ q * (u.map Participant.weight).sum := by
  induction u with
  | nil => simp
  | cons p u ih =>
    have share : provisional q total p * total ≤ q * p.weight := Nat.div_mul_le_self _ _
    simp only [List.map_cons, List.sum_cons, Nat.add_mul, Nat.mul_add]
    omega

/-- The provisional shares of a round sum to no more than Q (R85). -/
theorem sum_provisional_le (q : Nat) (u : List Participant) :
    (u.map (provisional q (u.map Participant.weight).sum)).sum ≤ q := by
  have scaled := sum_provisional_mul_le q (u.map Participant.weight).sum u
  cases htotal : (u.map Participant.weight).sum with
  | zero =>
    have none : u.map (provisional q 0) = u.map fun _ => 0 := List.map_congr_left fun p _ => Nat.div_zero _
    simp [none]
  | succ n =>
    rw [htotal] at scaled
    exact Nat.le_of_mul_le_mul_right scaled (Nat.succ_pos n)

/-! ## Leftover units -/

/-- How many participants come before this one in the order of leftover units. -/
def rankIn (u : List Participant) (p : Participant) : Nat := (u.filter fun x => ahead x p).length

theorem ahead_irrefl (p : Participant) : ahead p p = false := by simp [ahead]

theorem ahead_trans {x y z : Participant} (h : ahead x y = true) (g : ahead y z = true) : ahead x z = true := by
  simp only [ahead, decide_eq_true_eq] at *; omega

/-- Of two participants of different addresses one is ahead of the other (R86). -/
theorem ahead_or_ahead {x y : Participant} (h : x.addr ≠ y.addr) : ahead x y = true ∨ ahead y x = true := by
  simp only [ahead, decide_eq_true_eq]; omega

/-- Being ahead means having the lower rank. -/
theorem rankIn_lt {u : List Participant} (hu : u.Nodup) {x y : Participant} (hx : x ∈ u) (h : ahead x y = true) :
    rankIn u x < rankIn u y := by
  have nodup : (x :: u.filter fun z => ahead z x).Nodup :=
    List.nodup_cons.2 ⟨fun hmem => by simp [ahead_irrefl] at hmem, hu.filter _⟩
  have sub : (x :: u.filter fun z => ahead z x) ⊆ u.filter fun z => ahead z y := by
    intro z hz
    obtain rfl | hz := List.mem_cons.1 hz
    · exact List.mem_filter.2 ⟨hx, h⟩
    · obtain ⟨hmem, hz⟩ := List.mem_filter.1 hz
      exact List.mem_filter.2 ⟨hmem, ahead_trans hz h⟩
  exact (List.subperm_of_subset nodup sub).length_le

theorem rankIn_nodup {u : List Participant} (h : (u.map Participant.addr).Nodup) : (u.map (rankIn u)).Nodup := by
  have hu : u.Nodup := h.of_map
  refine hu.map_on fun x hx y hy heq => ?_
  by_contra hne
  have haddr : x.addr ≠ y.addr := fun e => hne (List.inj_on_of_nodup_map h hx hy e)
  obtain ha | ha := ahead_or_ahead haddr
  · exact absurd heq (rankIn_lt hu hx ha).ne
  · exact absurd heq (rankIn_lt hu hy ha).ne'

/-- No more participants are given a leftover unit than there are units (R86). -/
theorem leftover_given_le {u : List Participant} (h : (u.map Participant.addr).Nodup) (l : Nat) :
    (u.map fun p => if rankIn u p < l then 1 else 0).sum ≤ l := by
  have ranks : ((u.map (rankIn u)).filter fun r => decide (r < l)) ⊆ List.range l := by
    intro r hr
    simpa using (List.mem_filter.1 hr).2
  have few := (List.subperm_of_subset ((rankIn_nodup h).filter _) ranks).length_le
  rw [List.length_range] at few
  have count : ∀ v : List Participant,
      (v.map fun p => if rankIn u p < l then 1 else 0).sum =
        ((v.map (rankIn u)).filter fun r => decide (r < l)).length := by
    intro v
    induction v with
    | nil => rfl
    | cons p v ih =>
      by_cases hp : rankIn u p < l <;> simp [hp, ih, Nat.add_comm]
  rw [count u]
  exact few

theorem finalRound_sum_le {q : Nat} {u : List Participant} (h : (u.map Participant.addr).Nodup) :
    ((finalRound q u).map Prod.snd).sum ≤ q := by
  have provisionals := sum_provisional_le q u
  have leftovers := leftover_given_le h (q - (u.map (provisional q (u.map Participant.weight).sum)).sum)
  have split : ((finalRound q u).map Prod.snd).sum =
      (u.map (provisional q (u.map Participant.weight).sum)).sum +
        (u.map fun p =>
          if rankIn u p < q - (u.map (provisional q (u.map Participant.weight).sum)).sum then 1 else 0).sum := by
    rw [← List.sum_map_add]
    simp only [finalRound, List.map_map]
    rfl
  omega

/-! ## The rounds -/

/-- The participants content with their provisional shares of a round. -/
def contentIn (q : Nat) (u : List Participant) : List Participant :=
  u.filter fun p => decide (p.want ≤ provisional q (u.map Participant.weight).sum p)

/-- The participants that go on to the next round. -/
def wantingIn (q : Nat) (u : List Participant) : List Participant :=
  u.filter fun p => !decide (p.want ≤ provisional q (u.map Participant.weight).sum p)

theorem fillRounds_succ (fuel q : Nat) (u : List Participant) :
    fillRounds (fuel + 1) q u =
      if contentIn q u = [] then finalRound q u
      else
        (contentIn q u).map (fun p => (p.addr, p.want)) ++
          fillRounds fuel (q - ((contentIn q u).map Participant.want).sum) (wantingIn q u) := rfl

/-- What the content participants want is within Q. -/
theorem contentIn_sum_le (q : Nat) (u : List Participant) : ((contentIn q u).map Participant.want).sum ≤ q := by
  refine le_trans ?_ (sum_provisional_le q u)
  have wanted : ((contentIn q u).map Participant.want).sum ≤
      ((contentIn q u).map (provisional q (u.map Participant.weight).sum)).sum :=
    List.sum_le_sum fun p hp => by simpa [contentIn] using (List.mem_filter.1 hp).2
  exact wanted.trans (List.Sublist.sum_le_sum (List.filter_sublist.map _) fun _ _ => Nat.zero_le _)

/-- The shares of all rounds sum to no more than Q (R85, R86). -/
theorem fillRounds_sum_le (fuel : Nat) :
    ∀ {q : Nat} {u : List Participant}, (u.map Participant.addr).Nodup → ((fillRounds fuel q u).map Prod.snd).sum ≤ q := by
  induction fuel with
  | zero => exact fun _ => Nat.zero_le _
  | succ fuel ih =>
    intro q u h
    rw [fillRounds_succ]
    split
    · exact finalRound_sum_le h
    · have content := contentIn_sum_le q u
      have rest := ih (q := q - ((contentIn q u).map Participant.want).sum) (u := wantingIn q u)
        (h.sublist (List.filter_sublist.map _))
      have wants : (((contentIn q u).map fun p => (p.addr, p.want)).map Prod.snd).sum =
          ((contentIn q u).map Participant.want).sum := by rw [List.map_map]; rfl
      rw [List.map_append, List.sum_append, wants]
      omega

/-- Where no participant is content, a provisional share with a leftover unit is within the want (R86). -/
theorem finalRound_within_want {q : Nat} {u : List Participant} (h : contentIn q u = []) {x : Nat × Nat}
    (hx : x ∈ finalRound q u) : ∃ p ∈ u, p.addr = x.1 ∧ x.2 ≤ p.want := by
  obtain ⟨p, hp, rfl⟩ := List.mem_map.1 hx
  have wanting : provisional q (u.map Participant.weight).sum p < p.want := by
    have := List.filter_eq_nil_iff.1 h p hp
    simpa using this
  refine ⟨p, hp, rfl, ?_⟩
  dsimp only
  split <;> omega

/-- Every share is that of a participant and within its want. -/
theorem fillRounds_within_want (fuel : Nat) :
    ∀ {q : Nat} {u : List Participant} {x : Nat × Nat}, x ∈ fillRounds fuel q u → ∃ p ∈ u, p.addr = x.1 ∧ x.2 ≤ p.want := by
  induction fuel with
  | zero => exact fun h => nomatch h
  | succ fuel ih =>
    intro q u x hx
    rw [fillRounds_succ] at hx
    split at hx
    · next h => exact finalRound_within_want h hx
    · obtain hx | hx := List.mem_append.1 hx
      · obtain ⟨p, hp, rfl⟩ := List.mem_map.1 hx
        exact ⟨p, (List.mem_filter.1 hp).1, rfl, le_rfl⟩
      · obtain ⟨p, hp, haddr, hwant⟩ := ih hx
        exact ⟨p, (List.mem_filter.1 hp).1, haddr, hwant⟩

/-- Settles O37, by induction on the rounds of the fill. -/
theorem fillStaysWithinPool : Obligations.FillStaysWithinPool := by
  intro q u _ hnodup
  refine ⟨fillRounds_sum_le _ hnodup, fun p hp => ?_⟩
  unfold shareOf
  cases hfind : (fill q u).find? fun x => x.1 == p.addr with
  | none => exact Nat.zero_le _
  | some x =>
    obtain ⟨p', hp', haddr, hwant⟩ := fillRounds_within_want _ (List.mem_of_find?_eq_some hfind)
    have same : x.1 = p.addr := by simpa using List.find?_some hfind
    obtain rfl := List.inj_on_of_nodup_map hnodup hp' hp (haddr.trans same)
    exact hwant

end Sys2Proof.Machine

namespace Sys2Proof.Machine

/-! PROOFS. The sag test and its shed mark (O31). A taken zero-cross in MAINS_RUNNING is the sag test on the half-cycle that closes,
followed by the half-cycle event on the levels and counts that the test has left. -/

/-! ## Counts that follow the levels -/

theorem settle_heaterCount (s : State) :
    (settle s).loads.heaterCount =
      min s.loads.heaterCount (firingCount s.feeder.window (settle s).loads.heaterLevel heaterRating) := by
  have fan : (formFan s).loads.heaterCount = s.loads.heaterCount := by unfold formFan; dsimp only; split <;> [rfl; split <;> rfl]
  have lock (u : State) : (formLock u).loads.heaterCount = u.loads.heaterCount := by unfold formLock; split <;> rfl
  simp [settle, formLamps, formStarved, formLevels, lock, fan]

theorem settle_steamCount (s : State) :
    (settle s).loads.steamCount =
      min s.loads.steamCount (firingCount s.feeder.window (settle s).loads.steamLevel steamRating) := by
  have fan : (formFan s).loads.steamCount = s.loads.steamCount := by unfold formFan; dsimp only; split <;> [rfl; split <;> rfl]
  have lock (u : State) : (formLock u).loads.steamCount = u.loads.steamCount := by unfold formLock; split <;> rfl
  simp [settle, formLamps, formStarved, formLevels, lock, fan]

/-! ## The hold -/

/-- The share of a station as a shed hold is started on it, before its computation (R98). -/
def heldShare (originated : Bool) (s : State) : State :=
  { s with
    share :=
      { s.share with
        hold := shedHoldPeriods
        arm := if originated then false else s.share.arm
        allowance := min s.share.allowance s.straps.aIso } }

theorem startHold_of_not_standby {s : State} (h : s.member.st ≠ .standby) (originated : Bool) :
    startHold originated s = compute (heldShare originated s) := by
  unfold startHold; rw [if_neg h]; rfl

/-- A hold set to three periods caps grant and allowance at the isolated allowance and raises no member's allowance (R98). -/
theorem compute_heldShare (originated : Bool) (s : State) :
    (compute (heldShare originated s)).share.hold = 3 ∧
      (compute (heldShare originated s)).share.arm = (if originated then false else s.share.arm) ∧
      (compute (heldShare originated s)).share.allowance ≤ s.straps.aIso ∧
      (compute (heldShare originated s)).share.grant ≤ s.straps.aIso ∧
      (s.member.st = .member → (compute (heldShare originated s)).share.allowance ≤ s.share.allowance) := by
  have hgrant : (compute (heldShare originated s)).share.grant ≤ s.straps.aIso := by
    rw [compute_share_grant]
    exact grantOf_le_iso_of_hold (s := heldShare originated s) (Nat.succ_pos 2)
  refine ⟨by rw [compute_share_hold]; rfl, by rw [compute_share_arm]; rfl, (compute_allowance_le _).trans hgrant, hgrant,
    fun hm => ?_⟩
  exact (compute_allowance_le_of_member (s := heldShare originated s) hm).trans (min_le_left _ _)

/-! ## The sag test -/

/-- The low half-cycle counted (R144). -/
def sagCounted (s : State) : State := { s with feeder := { s.feeder with sagRun := min (s.feeder.sagRun + 1) 3 } }

/-- Whether the low half-cycle originates a shed mark: the third one in a row, with the arm set (R145). -/
def Originates (s : State) : Prop := 2 ≤ s.feeder.sagRun ∧ s.share.arm = true

theorem not_originates_iff (s : State) : ¬Originates s ↔ s.feeder.sagRun < 2 ∨ s.share.arm = false := by
  unfold Originates
  rw [not_and_or, Nat.not_le, Bool.not_eq_true]

theorem sagTest_of_low {dominant n : Nat} {s : State} (hn : s.feeder.nominal = some n) (hlow : 100 * s.feeder.peak < 88 * n) :
    (Originates s → sagTest dominant s = startHold true (requestMark dominant (sagCounted s))) ∧
      (¬Originates s → sagTest dominant s = sagCounted s) := by
  have hpeak : lowPeak s.feeder.peak (s.feeder.nominal.getD 0) = true := by simpa [lowPeak, hn] using hlow
  have third : min (s.feeder.sagRun + 1) sagLimit = sagLimit ↔ 2 ≤ s.feeder.sagRun := by unfold sagLimit; omega
  unfold sagTest Originates
  dsimp only
  rw [if_pos hpeak]
  simp only [third]
  exact ⟨fun h => if_pos h, fun h => if_neg h⟩

/-- A mark is requested of the framer, which drives none when SILENT, STUCK or on a line dominant for 8 ms (R136, R146). -/
theorem requestMark_eq (dominant : Nat) (s : State) :
    ∃ f, requestMark dominant s = { s with framer := f } ∧ f.st = s.framer.st ∧
      f.drive = if s.framer.st = .silent ∨ s.framer.st = .stuck ∨ 8000 ≤ dominant then s.framer.drive
        else some (.mark dominant) := by
  unfold requestMark markUs
  split
  · exact ⟨s.framer, rfl, rfl, rfl⟩
  · exact ⟨_, rfl, rfl, rfl⟩

/-- What the sag test on a low half-cycle leaves. -/
structure SagTested (dominant : Nat) (s t : State) : Prop where
  feeder : t.feeder = { s.feeder with sagRun := min (s.feeder.sagRun + 1) 3 }
  unmarked : ¬Originates s → t.share = s.share ∧ t.framer = s.framer
  marked : Originates s →
    t.framer.drive =
        (if s.framer.st = .silent ∨ s.framer.st = .stuck ∨ 8000 ≤ dominant then s.framer.drive else some (.mark dominant)) ∧
      t.framer.st = s.framer.st
  standby : s.member.st = .standby → t.share = s.share
  holding : Originates s → s.member.st ≠ .standby →
    t.share.hold = 3 ∧ t.share.arm = false ∧ t.share.allowance ≤ s.straps.aIso ∧ t.share.grant ≤ s.straps.aIso ∧
      (s.member.st = .member → t.share.allowance ≤ s.share.allowance)
  loads : ¬Originates s ∨ s.member.st = .standby → t.loads = s.loads
  counts : Originates s → s.member.st ≠ .standby →
    t.loads.heaterCount = min s.loads.heaterCount (firingCount s.feeder.window t.loads.heaterLevel heaterRating) ∧
      t.loads.steamCount = min s.loads.steamCount (firingCount s.feeder.window t.loads.steamLevel steamRating)
  position : t.loads.position = s.loads.position
  keeps : t.member = s.member ∧ t.table = s.table ∧ t.request = s.request ∧ t.climate = s.climate ∧ t.faults = s.faults ∧
    KeepsPhase s t ∧ KeepsInputs s t

theorem sagTested_sagCounted (dominant : Nat) {s : State} (h : ¬Originates s) : SagTested dominant s (sagCounted s) where
  feeder := rfl
  unmarked _ := ⟨rfl, rfl⟩
  marked ho := absurd ho h
  standby _ := rfl
  holding ho := absurd ho h
  loads _ := rfl
  counts ho := absurd ho h
  position := rfl
  keeps := ⟨rfl, rfl, rfl, rfl, rfl, .refl s, .refl s⟩

theorem sagTested_startHold (dominant : Nat) {s : State} (h : Originates s) :
    SagTested dominant s (startHold true (requestMark dominant (sagCounted s))) := by
  obtain ⟨f, hmark, hst, hdrive⟩ := requestMark_eq dominant (sagCounted s)
  rw [hmark]
  by_cases hm : s.member.st = .standby
  · have stays : startHold true { sagCounted s with framer := f } = { sagCounted s with framer := f } := if_pos hm
    rw [stays]
    exact
      { feeder := rfl
        unmarked := fun hn => absurd h hn
        marked := fun _ => ⟨hdrive, hst⟩
        standby := fun _ => rfl
        holding := fun _ hn => absurd hm hn
        loads := fun _ => rfl
        counts := fun _ hn => absurd hm hn
        position := rfl
        keeps := ⟨rfl, rfl, rfl, rfl, rfl, .refl s, .refl s⟩ }
  · rw [startHold_of_not_standby (by exact hm)]
    generalize hu : heldShare true { sagCounted s with framer := f } = u
    have held := compute_heldShare true { sagCounted s with framer := f }
    rw [hu] at held
    obtain ⟨inputs, -⟩ := compute_cabinetFrame u
    have phase := compute_keepsPhase u
    have heater : (compute u).loads.heaterCount = _ := settle_heaterCount _
    have steam : (compute u).loads.steamCount = _ := settle_steamCount _
    subst hu
    exact
      { feeder := by simp; rfl
        unmarked := fun hn => absurd h hn
        marked := fun _ => by simpa using ⟨hdrive, hst⟩
        standby := fun e => absurd e hm
        holding := fun _ _ => held
        loads := fun e => by obtain e | e := e <;> contradiction
        counts := fun _ _ => ⟨heater, steam⟩
        position := by simp; rfl
        keeps := ⟨by simp; rfl, by simp; rfl, by simp; rfl, by simp; rfl, by simp; rfl, phase, inputs⟩ }

theorem sagTested_sagTest {dominant n : Nat} {s : State} (hn : s.feeder.nominal = some n)
    (hlow : 100 * s.feeder.peak < 88 * n) : SagTested dominant s (sagTest dominant s) := by
  obtain ⟨origin, others⟩ := sagTest_of_low (dominant := dominant) hn hlow
  by_cases h : Originates s
  · rw [origin h]; exact sagTested_startHold dominant h
  · rw [others h]; exact sagTested_sagCounted dominant h

/-! ## The zero-cross -/

/-- The zero-cross in MAINS_RUNNING once its sag test is done: the next half-cycle is open and its event taken. -/
def crossedOn (s : State) : State := crossTaken (halfCycleEvent { s with feeder := { s.feeder with halfOpen := true } })

theorem zeroCross_of_running {since dominant : Nat} {s : State} (hst : s.feeder.st = .running) (hsince : 5000 ≤ since)
    (hopen : s.feeder.halfOpen = true) : zeroCross since dominant s = crossedOn (sagTest dominant s) := by
  have htaken : taken s.feeder since = true := by simp [taken, takenUs, hsince]
  unfold zeroCross
  rw [if_pos htaken, hst]
  dsimp only
  unfold runningCross
  rw [hopen]
  rfl

/-- Settles O31, from what the sag test leaves: the half-cycle event that follows takes its counts at position 0 from the levels,
and elsewhere as the computation has lowered them. -/
theorem sagOriginatesShedMark : Obligations.SagOriginatesShedMark := by
  intro since dominant w n s hl hst hsince hw hn hopen hlow
  have tested : SagTested dominant s (sagTest dominant s) := sagTested_sagTest hn hlow
  refine ⟨crossedOn (sagTest dominant s), ?_, ?_⟩
  · rw [← zeroCross_of_running hst hsince hopen]
    exact live_of_live hl (zeroCross since dominant)
  generalize sagTest dominant s = u at tested
  obtain ⟨hfeeder, hunmarked, hmarked, hstandby, hholding, hloads, hcounts, hposition, hmember, htable, hrequest, hclimate,
    hfaults, hphase, hinputs⟩ := tested
  have hwindow : u.feeder.window = some w := by rw [hfeeder]; exact hw
  have quietly : s.feeder.sagRun < 2 ∨ s.share.arm = false ∨ s.member.st = .standby ↔
      ¬Originates s ∨ s.member.st = .standby := by rw [not_originates_iff, or_assoc]
  have counts {c r : Nat} {level : LoadOut → Nat} {count : LoadOut → Nat}
      (hcrossed : c = if u.loads.position = 0 then firingCount u.feeder.window (level u.loads) r else count u.loads)
      (hlowered : Originates s → s.member.st ≠ .standby →
        count u.loads = min (count s.loads) (firingCount s.feeder.window (level u.loads) r)) :
      c = if s.loads.position = 0 then level u.loads * w / r
        else if s.feeder.sagRun < 2 ∨ s.share.arm = false ∨ s.member.st = .standby then count s.loads
        else min (count s.loads) (level u.loads * w / r) := by
    rw [hcrossed, hposition, hwindow]
    refine if_congr Iff.rfl rfl ?_
    split
    · next hq => rw [hloads (quietly.1 hq)]
    · next hq =>
      rw [quietly, not_or, not_not] at hq
      rw [hlowered hq.1 hq.2, hw]; rfl
  refine ⟨?_, fun h => hunmarked ((not_originates_iff s).2 h), fun hrun harm => ?_, fun h => ?_,
    counts (count := LoadOut.heaterCount) (level := LoadOut.heaterLevel) rfl fun ho hm => (hcounts ho hm).1,
    counts (count := LoadOut.steamCount) (level := LoadOut.steamLevel) rfl fun ho hm => (hcounts ho hm).2, ?_, ?_, ?_,
    hmember, htable, hrequest, hclimate, hfaults, hphase, hinputs⟩
  · show { u.feeder with halfOpen := true, peak := 0, crossed := true, watchdog := some watchdogMs } = _
    rw [hfeeder, ← hopen]; rfl
  · obtain ⟨hdrive, hframer⟩ := hmarked ⟨hrun, harm⟩
    exact ⟨hdrive, hframer, hstandby, hholding ⟨hrun, harm⟩⟩
  · have same := hloads (quietly.1 h)
    have heater : (crossedOn u).loads.heaterLevel = u.loads.heaterLevel := rfl
    have steam : (crossedOn u).loads.steamLevel = u.loads.steamLevel := rfl
    exact ⟨by rw [heater, same], by rw [steam, same]⟩
  · show fires (crossedOn u).loads.heaterCount (u.feeder.window.getD 0) u.loads.position = _
    rw [hwindow, hposition]; rfl
  · show fires (crossedOn u).loads.steamCount (u.feeder.window.getD 0) u.loads.position = _
    rw [hwindow, hposition]; rfl
  · show (if u.loads.position + 1 < u.feeder.window.getD 0 then u.loads.position + 1 else 0) = _
    rw [hwindow, hposition]; rfl

end Sys2Proof.Machine

namespace Sys2Proof.Machine

/-! PROOFS. Shed marks as they are classified (O48). A mark ends the frame on the line: its end is `attemptClosed`, on a state in
which the driver is released, the idle hold begun afresh and, for a peer's mark, the shed hold started. -/

/-! ## The end of an attempt on a line that is not idle -/

/-- The framer cannot send at once: in LISTEN its idle hold has not run (R129). -/
def MustWait (f : Framer) : Prop := f.st = .listen → f.holdDone = false

theorem handFramer_member_of_mustWait {s : State} (h : MustWait s.framer) : (handFramer s).member = s.member := by
  unfold handFramer; split
  · next hst => simp [h hst]
  · rfl

theorem fillSlot_inFlight_of_mustWait {k : NoticeKind} {s : State} (h : MustWait s.framer) :
    (fillSlot k s).member.inFlight = s.member.inFlight := by
  unfold fillSlot; dsimp only
  rw [handFramer_member_of_mustWait (by simpa using h)]
  simp

/-- On such a line nothing is in flight or held over once the attempt has ended. -/
theorem endAttempt_over_of_mustWait {s : State} (h : MustWait s.framer) :
    (endAttempt s).member.inFlight = false ∧ (endAttempt s).member.heldOver = none := by
  cases hheld : s.member.heldOver with
  | some k =>
    obtain ⟨-, hflight, hover⟩ := noteLoad_keeps k (slotKeeps k s.member.slot) (attemptOver s).member
    rw [endAttempt_of_held hheld, fillSlot_inFlight_of_mustWait (by exact h), fillSlot_member_heldOver]
    exact ⟨hflight, hover⟩
  | none =>
    cases hslot : s.member.slot with
    | none => rw [endAttempt_of_empty hheld hslot]; exact ⟨rfl, rfl⟩
    | some n =>
      rw [endAttempt_of_waiting hheld hslot]
      exact ⟨fillSlot_inFlight_of_mustWait h, fillSlot_member_heldOver _ _⟩

/-- A held-over load that is no LEAVE is one of a MEMBER. -/
theorem member_of_held {k : NoticeKind} {s : State} (hs : SlotFits s) (hheld : s.member.heldOver = some k)
    (hne : k ≠ .leave) : s.member.st = .member := by
  obtain ⟨-, -, hfits, -⟩ := hs
  obtain ⟨-, hkind⟩ := hfits k hheld
  split at hkind
  · exact absurd hkind hne
  · exact hkind.1

/-- A load held over behind the attempt is applied at its end (R107). -/
theorem heldLoaded_of_mustWait {s : State} (h : MustWait s.framer) (hs : SlotFits s) (hheld : s.member.heldOver.isSome = true) :
    HeldLoaded s (endAttempt s) := by
  obtain ⟨hflight, hover⟩ := endAttempt_over_of_mustWait h
  obtain ⟨k, hk⟩ := Option.isSome_iff_exists.1 hheld
  refine ⟨hover, hflight, ?_, fun hl => ?_, fun hd => ?_, fun hp => ?_⟩
  · rw [endAttempt_of_held hk, fillSlot_share_raiseReady]
  · rw [endAttempt_of_held hl, slotKeeps_leave, fillSlot_newest]; rfl
  · rw [endAttempt_of_held hd, slotKeeps_demand_of_member hs (member_of_held hs hd (by decide))]
    refine ⟨fillSlot_newest .demand _, ?_, ?_⟩
    · rw [fillSlot_refWant]; rfl
    · rw [fillSlot_member_presence]; rfl
  · rw [endAttempt_of_held hp, fillSlot_newest, formNotice_slotKeeps_presence hs (member_of_held hs hp (by decide))]
    rfl

theorem newestDemand_framerRest (s : State) : newestDemand (framerRest s) = newestDemand s := by simp [newestDemand]

theorem HeldLoaded.rest {s t : State} (h : HeldLoaded s t) : HeldLoaded s (framerRest t) := by
  unfold HeldLoaded
  rwa [framerRest_member, framerRest_share, newestDemand_framerRest]

theorem endAttempt_faults (s : State) : (endAttempt s).faults = s.faults := by
  unfold endAttempt refreshSlot; dsimp only; split
  · exact loadNotice_faults _ _
  · split
    · rfl
    · exact fillSlot_faults _ _

/-- In MEMBER a load only lowers the allowance (R91). -/
theorem loadNotice_allowance_le_of_member {k : NoticeKind} {s : State} (hm : s.member.st = .member) :
    (loadNotice k s).share.allowance ≤ s.share.allowance := by
  unfold loadNotice; split
  · exact le_rfl
  · exact fillSlot_allowance_le_of_member (s := { s with member := noteLoad k _ s.member })
      ((PowerUpkeep.noteLoad_st k _ _).trans hm)

theorem endAttempt_allowance_le_of_member {s : State} (hm : s.member.st = .member) :
    (endAttempt s).share.allowance ≤ s.share.allowance := by
  unfold endAttempt refreshSlot; dsimp only; split
  · exact loadNotice_allowance_le_of_member (s := attemptOver s) hm
  · split
    · exact le_rfl
    · exact fillSlot_allowance_le_of_member (s := attemptOver s) hm

/-! ## The frame on the line ended -/

/-- The attempt or reception on the line ends, where there was one, and the framer comes to rest (R123, R136). -/
def attemptClosed (ended : Bool) (s : State) : State := framerRest (if ended then endAttempt s else s)

/-- What a closed attempt leaves, of a state in which the driver is released. -/
structure AttemptClosed (ended : Bool) (s t : State) : Prop where
  line : LineFrame s t
  table : t.table = s.table
  standing : KeepsStanding s t
  shedding : KeepsShedding s t
  faults : t.faults = s.faults
  failures : t.framer.failures = s.framer.failures
  rests : s.framer.st = .receiving ∨ s.framer.st = .sending →
    t.framer.st = (if t.member.slot.isSome then .waiting else .listen) ∧ t.framer.drive = none ∧
      t.framer.reception = none ∧ t.framer.sending = none
  lowered : s.member.st = .member → t.share.allowance ≤ s.share.allowance
  capped : PowerCapped s → PowerCapped t
  refreshed : ended = true → ∀ a, s.member.slot = some (.demand a) → s.member.heldOver = none →
    t.member.slot = some (newestDemand t) ∧ t.member.inFlight = false ∧ t.member.refWant = s.request.want ∧
      t.share.raiseReady = none
  held : ended = true → s.member.heldOver.isSome = true → SlotFits s → HeldLoaded s t
  untouched : ended = false → t.member.slot = s.member.slot ∧ t.share = s.share
  emptied : s.member.slot = none → s.member.heldOver = none →
    t.share = s.share ∧ t.framer.drive = none ∧ t.framer.idleHold = s.framer.idleHold ∧
      t.framer.lineFreed = s.framer.lineFreed ∧ t.cycle = s.cycle ∧ t.loads = s.loads ∧ t.panel = s.panel

theorem framerRest_drive_of_none {s : State} (h : s.framer.drive = none) : (framerRest s).framer.drive = none := by
  unfold framerRest; split
  · simp [Framer.stopFrame, h]
  · exact h

theorem framerRest_of_busy {s : State} (h : s.framer.st = .receiving ∨ s.framer.st = .sending) :
    (framerRest s).framer = { s.framer.stopFrame with st := restState s, reception := none } := by
  unfold framerRest; rw [if_pos h]

theorem attemptClosed_closed (ended : Bool) {s : State} (hdrive : s.framer.drive = none) (hwait : MustWait s.framer) :
    AttemptClosed ended s (attemptClosed ended s) := by
  have framed : LineFrame s (if ended then endAttempt s else s) := by
    split
    · exact endAttempt_lineFrame s
    · exact .refl s
  have cabinet : CabinetFrame s (if ended then endAttempt s else s) := by
    split
    · exact endAttempt_cabinetFrame s
    · exact .refl s
  obtain ⟨-, htable, -, hstanding, hshedding, -, hfailures, -⟩ := cabinet
  exact
    { line := framed.trans (framerRest_lineFrame _)
      table := by rw [attemptClosed, framerRest_table]; exact htable
      standing := by unfold KeepsStanding at *; rw [attemptClosed, framerRest_member]; exact hstanding
      shedding := by unfold KeepsShedding at *; rw [attemptClosed, framerRest_share]; exact hshedding
      faults := by
        rw [attemptClosed, framerRest_faults]; split
        · exact endAttempt_faults s
        · rfl
      failures := by rw [attemptClosed, framerRest_framer_failures]; exact hfailures
      rests := fun hst => by
        have same : (if ended then endAttempt s else s).framer = s.framer := by
          split
          · exact endAttempt_framer_of_busy (by rcases hst with e | e <;> rw [e] <;> decide)
          · rfl
        unfold attemptClosed
        generalize (if ended then endAttempt s else s) = u at same
        rw [framerRest_of_busy (by rw [same]; exact hst), framerRest_member]
        exact ⟨rfl, by simp [Framer.stopFrame, same, hdrive], rfl, rfl⟩
      lowered := fun hm => by
        rw [attemptClosed, framerRest_share]; split
        · exact endAttempt_allowance_le_of_member hm
        · exact le_rfl
      capped := fun hc => by
        refine cappedUpkeep.framerRest ?_
        split
        · exact cappedUpkeep.endAttempt hc
        · exact hc
      refreshed := fun he a hslot hheld => by
        subst he
        have hflight := (endAttempt_over_of_mustWait hwait).1
        rw [attemptClosed, if_pos rfl, framerRest_member, framerRest_share, newestDemand_framerRest]
        rw [endAttempt_of_waiting hheld hslot] at hflight ⊢
        exact ⟨fillSlot_newest .demand _, hflight, fillSlot_refWant .demand _, fillSlot_share_raiseReady _ _⟩
      held := fun he hheld hs => by
        subst he
        exact (heldLoaded_of_mustWait hwait hs hheld).rest
      untouched := fun he => by
        subst he
        rw [attemptClosed, framerRest_member, framerRest_share]
        exact ⟨rfl, rfl⟩
      emptied := fun hslot hheld => by
        have ends : (if ended then endAttempt s else s) = attemptOver s ∨ (if ended then endAttempt s else s) = s := by
          split
          · exact .inl (endAttempt_of_empty hheld hslot)
          · exact .inr rfl
        unfold attemptClosed
        obtain ends | ends := ends <;> rw [ends] <;>
          exact ⟨by simp [attemptOver], framerRest_drive_of_none hdrive, by simp [attemptOver], by simp [attemptOver],
            by simp [attemptOver], by simp [attemptOver], by simp [attemptOver]⟩ }

/-! ## The mark seen -/

/-- The mark read: the driver is released, the framer's timers restarted and line free cleared (R120, R124, R136). -/
def markRead (s : State) : State := clearLineFree { s with framer := touchLine { s.framer with drive := none } }

theorem markRead_eq (s : State) :
    markRead s =
      { s with
        framer := touchLine { s.framer with drive := none }
        member := { s.member with lineFree := if s.member.st = .isolated then false else s.member.lineFree } } := by
  unfold markRead clearLineFree
  by_cases h : s.member.st = .isolated <;> simp [h]

/-- The mark read and, for a peer's, the shed hold started (R98, R147). -/
def markTaken (own : Bool) (s : State) : State := if own then markRead s else startHold false (markRead s)

theorem markSeen_eq {ownPulse inFrame : Bool} {s : State} (h : reading s = true ∨ s.framer.st = .sending) :
    markSeen ownPulse inFrame s =
      attemptClosed (inFrame || decide (s.framer.st = .receiving) || s.member.inFlight)
        (markTaken (s.framer.marking || ownPulse) s) := by
  unfold markSeen; rw [if_pos h]; rfl

/-- What every mark leaves before its attempt is closed. -/
structure MarkTaken (s u : State) : Prop where
  line : LineFrame s u
  table : u.table = s.table
  faults : u.faults = s.faults
  stands : SlotStands s u
  framer : u.framer = touchLine { s.framer with drive := none }

theorem markRead_taken (s : State) : MarkTaken s (markRead s) := by
  rw [markRead_eq]
  exact ⟨.refl s, rfl, rfl, ⟨rfl, rfl, rfl, rfl, rfl, rfl, rfl, rfl⟩, rfl⟩

theorem startHold_taken (s : State) : MarkTaken s (startHold false (markRead s)) := by
  obtain ⟨line, table, faults, stands, framer⟩ := markRead_taken s
  have raiseReady : (startHold false (markRead s)).share.raiseReady = (markRead s).share.raiseReady := by
    unfold startHold; split
    · rfl
    · rw [compute_share_raiseReady]
  have rest : (startHold false (markRead s)).table = (markRead s).table ∧
      (startHold false (markRead s)).faults = (markRead s).faults ∧
      (startHold false (markRead s)).request = (markRead s).request := by
    unfold startHold; split
    · exact ⟨rfl, rfl, rfl⟩
    · rw [compute_table, compute_faults, compute_request]; exact ⟨rfl, rfl, rfl⟩
  obtain ⟨htable, hfaults, hrequest⟩ := rest
  refine ⟨line.trans (startHold_lineFrame _ _), htable.trans table, hfaults.trans faults, ?_, ?_⟩
  · have member := startHold_member false (markRead s)
    have framer := startHold_framer false (markRead s)
    exact stands.trans ⟨by rw [member], by rw [member], by rw [member], by rw [member], by rw [framer], by rw [framer],
      raiseReady, hrequest⟩
  · rw [startHold_framer]; exact framer

theorem markTaken_taken (own : Bool) (s : State) : MarkTaken s (markTaken own s) := by
  unfold markTaken; split
  · exact markRead_taken s
  · exact startHold_taken s

theorem MarkTaken.closed {s u : State} (h : MarkTaken s u) (ended : Bool) : AttemptClosed ended u (attemptClosed ended u) := by
  refine attemptClosed_closed ended ?_ ?_
  · rw [h.framer]; rfl
  · rw [h.framer]; exact fun _ => rfl

theorem KeepsStanding.st {s t : State} (h : KeepsStanding s t) : t.member.st = s.member.st := by
  unfold KeepsStanding at h; rw [h]

/-- What the end of the frame does after any mark, own or a peer's (R104, R106, R107, R136). -/
theorem markClosed_slot {ended : Bool} {s u t : State} (h : MarkTaken s u) (c : AttemptClosed ended u t) :
    t.member.st = s.member.st ∧ t.framer.failures = s.framer.failures ∧ t.table = s.table ∧ t.faults = s.faults ∧
      LineFrame s t ∧
      (s.framer.st = .receiving ∨ s.framer.st = .sending →
        t.framer.st = (if t.member.slot.isSome then .waiting else .listen) ∧ t.framer.drive = none ∧
          t.framer.reception = none ∧ t.framer.sending = none) ∧
      (ended = true → ∀ a, s.member.slot = some (.demand a) → s.member.heldOver = none →
        t.member.slot = some (newestDemand t) ∧ t.member.inFlight = false ∧ t.member.refWant = s.request.want ∧
          t.share.raiseReady = none) ∧
      (ended = true → s.member.heldOver.isSome = true → SlotFits s → HeldLoaded s t) := by
  refine ⟨c.standing.st.trans h.stands.st, c.failures.trans h.stands.failures, c.table.trans h.table,
    c.faults.trans h.faults, h.line.trans c.line, fun hst => c.rests (by rw [h.framer]; exact hst),
    fun he a hslot hheld => ?_, fun he hheld hs => ?_⟩
  · have closed := c.refreshed he a (h.stands.slot.trans hslot) (h.stands.heldOver.trans hheld)
    rwa [h.stands.request] at closed
  · exact h.stands.heldLoaded (c.held he (by rw [h.stands.heldOver]; exact hheld) (h.stands.slotFits hs))

/-- A load is held over only behind a notice in flight, which every mark ends. -/
theorem inFlight_of_held {s : State} (hs : SlotFits s) (hheld : s.member.heldOver.isSome = true) : s.member.inFlight = true := by
  obtain ⟨k, hk⟩ := Option.isSome_iff_exists.1 hheld
  obtain ⟨-, -, hfits, -⟩ := hs
  exact (hfits k hk).1

/-- Settles O48: any mark ends the frame and the attempt on the line; a peer's starts the hold first, on whose computation the
refreshed notice stands. -/
theorem shedMarkTightensAllowance : Obligations.ShedMarkTightensAllowance := by
  intro ownPulse inFrame s hl hst
  have reads : reading s = true ∨ s.framer.st = .sending := by
    rw [reading_iff]
    obtain h | h | h | h := hst
    · exact .inl (.inl h)
    · exact .inl (.inr (.inl h))
    · exact .inl (.inr (.inr h))
    · exact .inr h
  have run : exec (.shedMarkSeen ownPulse inFrame) s = .next (markSeen ownPulse inFrame s) :=
    live_of_live hl (markSeen ownPulse inFrame)
  rw [markSeen_eq reads] at run
  generalize hended : (inFrame || decide (s.framer.st = .receiving) || s.member.inFlight) = ended at run
  have ends : s.member.inFlight = true ∨ s.framer.st = .receiving ∨ inFrame = true → ended = true := by
    rw [← hended]
    rintro (h | h | h) <;> simp [h]
  have taken := markTaken_taken (s.framer.marking || ownPulse) s
  have closed := taken.closed ended
  obtain ⟨hmember, hfailures, htable, hfaults, hline, hrests, hrefreshed, hheld⟩ := markClosed_slot taken closed
  have refreshed := fun a hslot hover hcause => hrefreshed (ends hcause) a hslot hover
  have loaded := fun hover hs => hheld (ends (.inl (inFlight_of_held hs hover))) hover hs
  refine ⟨fun hmark hpulse hm => ⟨_, run, ?_⟩, fun hown => ⟨_, run, ?_⟩⟩
  · have hu : markTaken (s.framer.marking || ownPulse) s = compute (heldShare false (markRead s)) := by
      rw [hmark, hpulse]
      exact startHold_of_not_standby (by rw [(markRead_taken s).stands.st]; exact hm) false
    obtain ⟨-, hhold, harm, -⟩ := closed.shedding
    obtain ⟨⟨hstraps, -⟩, -⟩ := id hline
    have capped := (closed.capped (by rw [hu]; exact compute_powerCapped _)).2.1
    obtain ⟨hthree, hset, -, -, hlower⟩ := compute_heldShare false (markRead s)
    rw [← hu] at hthree hset hlower
    have same : (markRead s).share = s.share := by rw [markRead_eq]
    rw [same] at hset hlower
    refine ⟨hhold.trans hthree, harm.trans hset, ?_, fun hmem => ?_, hmember, hfailures, hrests, refreshed, loaded, htable,
      hfaults, hline⟩
    · rw [← hstraps]
      exact capped (by rw [hhold, hthree]; exact Nat.succ_pos 2)
    · exact (closed.lowered (taken.stands.st.trans hmem)).trans (hlower ((markRead_taken s).stands.st.trans hmem))
  · have hu : markTaken (s.framer.marking || ownPulse) s = markRead s := if_pos (by simpa using hown)
    have same : (markTaken (s.framer.marking || ownPulse) s).share = s.share := by rw [hu, markRead_eq]
    have hcycle : (markTaken (s.framer.marking || ownPulse) s).cycle = s.cycle := by rw [hu, markRead_eq]
    have hloads : (markTaken (s.framer.marking || ownPulse) s).loads = s.loads := by rw [hu, markRead_eq]
    have hpanel : (markTaken (s.framer.marking || ownPulse) s).panel = s.panel := by rw [hu, markRead_eq]
    refine ⟨?_, hmember, fun hmem => ?_, hfailures, htable, hfaults, hline, hrests, fun hslot hover => ?_, refreshed, loaded,
      fun hfly hin hquiet => ?_⟩
    · have shed := closed.shedding
      unfold KeepsShedding at shed ⊢
      rwa [same] at shed
    · rw [← same]; exact closed.lowered (taken.stands.st.trans hmem)
    · obtain ⟨hshare, hdrive, hidle, hfreed, hcyc, hlds, hpnl⟩ :=
        closed.emptied (taken.stands.slot.trans hslot) (taken.stands.heldOver.trans hover)
      rw [taken.framer] at hidle hfreed
      exact ⟨hshare.trans same, hdrive, hidle, hfreed, hcyc.trans hcycle, hlds.trans hloads, hpnl.trans hpanel⟩
    · have unended : ended = false := by
        rw [← hended]
        rcases hquiet with e | e <;> simp [hfly, hin, e]
      obtain ⟨hslot, hshare⟩ := closed.untouched unended
      exact ⟨hslot.trans taken.stands.slot, hshare.trans same⟩

end Sys2Proof.Machine

namespace Sys2Proof.Machine

/-! PROOFS. Completed notices (O46). A completion takes the notice, acts by its kind, applies a load held over and lets the framer
rest; the framer stays in SENDING until then, except where the station goes through STANDBY. -/

/-! ## The frame ended -/

/-- A framer whose own frame has ended with nothing on the line (R123, R133). -/
def frameOver (st : FramerState) (f : Framer) : Framer :=
  { f with st := st, reception := none, sending := none, lost := false, drive := none }

theorem framerRest_of_sending {s : State} (hst : s.framer.st = .sending) (hmark : s.framer.marking = false) :
    framerRest s = { s with framer := frameOver (restState s) s.framer } := by
  unfold framerRest
  rw [if_pos (.inr hst), frameOver, ← stopFrame_drive_of_unmarked hmark]
  rfl

theorem exec_noticeCompletion {x : Sending} {s : State} (hl : Live s) (hst : s.framer.st = .sending)
    (hmark : s.framer.marking = false) (hx : s.framer.sending = some x) :
    exec .noticeCompletion s = .next (complete x.notice s) := by
  have hattempt : attempt s = some x := by unfold attempt; rw [if_pos ⟨hst, hmark⟩, hx]
  refine (live_of_live hl fun s => match attempt s with | none => s | some x => complete x.notice s).trans (congrArg _ ?_)
  rw [hattempt]

/-- A completion with no further action leaves the empty slot and the rested framer (R108). -/
theorem complete_of_still {n : Notice} {s : State} (hst : s.framer.st = .sending) (hmark : s.framer.marking = false)
    (hstay : ¬ActsOn n s.member.st) (hheld : s.member.heldOver = none) :
    complete n s =
      { noticeTaken n s with framer := frameOver .listen { s.framer with failures := 0 } } := by
  rw [complete_eq, completionAction_of_not_acts (s := noticeTaken n s) hstay, loadHeldOver_of_none (by exact hheld),
    framerRest_of_sending (s := noticeTaken n s) hst hmark]
  rfl

/-! ## A load held over -/

/-- A load held over is applied to the slot that the completion has emptied (R107, R108). -/
theorem heldLoaded_loadHeldOver {k : NoticeKind} {s : State} (hwait : MustWait s.framer) (hslot : s.member.slot = none)
    (hfree : s.member.inFlight = false) (hheld : s.member.heldOver = some k) :
    HeldLoaded s (loadHeldOver s) ∧ (loadHeldOver s).member.slot.isSome = true := by
  have loaded : loadHeldOver s = fillSlot k { s with member := noteLoad k k { s.member with heldOver := none } } := by
    rw [loadHeldOver_of_some hheld, loadNotice_of_free (by exact hfree)]
    dsimp only
    rw [hslot]
    rfl
  obtain ⟨-, hflight, hover⟩ := noteLoad_keeps k k { s.member with heldOver := none }
  rw [loaded]
  refine ⟨⟨?_, ?_, fillSlot_share_raiseReady _ _, fun hl => ?_, fun hd => ?_, fun hp => ?_⟩, by rw [fillSlot_slot]; rfl⟩
  · rw [fillSlot_member_heldOver]; exact hover
  · rw [fillSlot_inFlight_of_mustWait (by exact hwait)]; exact hflight.trans hfree
  · obtain rfl := Option.some.inj (hheld.symm.trans hl)
    exact fillSlot_newest .leave _
  · obtain rfl := Option.some.inj (hheld.symm.trans hd)
    exact ⟨fillSlot_newest .demand _, fillSlot_refWant .demand _, fillSlot_member_presence .demand _⟩
  · obtain rfl := Option.some.inj (hheld.symm.trans hp)
    rw [hslot]
    exact fillSlot_newest .presence _

/-- What a load held over leaves as it is. -/
theorem loadHeldOver_keeps {s : State} (hst : s.framer.st = .sending) :
    (loadHeldOver s).framer = s.framer ∧ CabinetFrame s (loadHeldOver s) ∧ (loadHeldOver s).faults = s.faults ∧
      LineFrame s (loadHeldOver s) := by
  unfold loadHeldOver; split
  · exact ⟨rfl, .refl s, rfl, .refl s⟩
  · next k _ =>
    exact ⟨loadNotice_framer_of_busy (by rw [hst]; decide), loadNotice_cabinetFrame k _, loadNotice_faults k _,
      loadNotice_lineFrame k _⟩

/-- Behind a load held over no completed notice but a LEAVE acts on the membership: the station is in MEMBER or LEAVING (R107). -/
theorem not_acts_of_held {n : Notice} {s : State} (hs : SlotFits s) (hheld : s.member.heldOver.isSome = true) (hn : n ≠ .leave) :
    ¬ActsOn n s.member.st := by
  obtain ⟨k, hk⟩ := Option.isSome_iff_exists.1 hheld
  obtain ⟨-, -, hfits, -⟩ := hs
  obtain ⟨-, hkind⟩ := hfits k hk
  have hst : s.member.st = .leaving ∨ s.member.st = .member := by
    split at hkind
    · next h => exact .inl h
    · exact .inr hkind.1
  cases n with
  | leave => exact absurd rfl hn
  | demand => exact id
  | presence => exact id
  | joinAsk => rcases hst with e | e <;> rw [e] <;> exact nofun
  | joinConfirm => rcases hst with e | e <;> rw [e] <;> exact nofun

/-! ## The cabinet under a change of membership -/

theorem settle_loads_lockConfirm {s : State} (h : s.loads.lock = s.request.lock) :
    (settle s).loads.lockConfirm = s.loads.lockConfirm := by
  have fan : (formFan s).loads.lockConfirm = s.loads.lockConfirm ∧ (formFan s).loads.lock = s.loads.lock ∧
      (formFan s).request = s.request := by
    unfold formFan; dsimp only; split
    · exact ⟨rfl, rfl, rfl⟩
    · split <;> exact ⟨rfl, rfl, rfl⟩
  obtain ⟨hconfirm, hlock, hrequest⟩ := fan
  unfold settle
  rw [formLock_of_formed (by rw [hlock, hrequest, h])]
  exact hconfirm

/-- A share computation leaves requests and lock watch as they are. -/
theorem compute_cabinetFresh {s : State} (h : CabinetFresh s) : CabinetFresh (compute s) := by
  obtain ⟨hl, hr, hw⟩ := h
  obtain ⟨hcommand, hwatch⟩ := hw hl
  have confirm : (compute s).loads.lockConfirm = s.loads.lockConfirm := settle_loads_lockConfirm hcommand
  have lock : (compute s).loads.lock = s.request.lock := settle_loads_lock _
  refine ⟨(compute_inReset s).trans hl, fun _ => requestUpkeep.compute (hr hl), fun _ => ⟨?_, ?_⟩⟩
  · rw [lock, compute_request]
  · rw [confirm, lock, compute_faults, compute_lines, ← hcommand]
    exact hwatch

/-! ## The entry to MEMBER -/

/-- MEMBER entered, before its first notice falls due (R92, R113). -/
structure JoinReported (held : Nat) (s t : State) : Prop where
  member : t.member = { s.member with st := .member, presence := 7, refWant := 0, joinNonce := none }
  framer : t.framer = s.framer
  table : t.table = s.table
  limit : t.share.limit = s.share.limit
  allowance : t.share.allowance ≤ min s.share.allowance held
  joined : t.faults.holds .lineIsolated = false
  frame : LineFrame s t

/-- MEMBER entered up to its first notice. -/
def joinReported (held : Nat) (s : State) : State :=
  reportFault .lineIsolated false
    (setMember .member
      { s with
        member := { s.member with presence := presenceStart, refWant := 0, joinNonce := none }
        share := { s.share with allowance := min s.share.allowance held } })

theorem enterMember_eq_joinReported (held : Nat) (s : State) :
    enterMember held s =
      if 0 < (joinReported held s).request.want then loadNotice .demand (joinReported held s) else joinReported held s := rfl

theorem joinReported_reported (held : Nat) {s : State} (hf : CabinetFresh s) (ho : FaultsOrdered s.faults) :
    JoinReported held s (joinReported held s) := by
  unfold joinReported
  generalize hv : ({ s with
    member := { s.member with presence := presenceStart, refWant := 0, joinNonce := none }
    share := { s.share with allowance := min s.share.allowance held } } : State) = v
  have fresh : CabinetFresh (setMember .member v) := compute_cabinetFresh (by subst hv; exact hf)
  have ordered : FaultsOrdered (setMember .member v).faults := by
    rw [show (setMember .member v).faults = v.faults from compute_faults _]; subst hv; exact ho
  obtain ⟨hl, hr, hw⟩ := fresh
  obtain ⟨frame, joined⟩ := reportFault_lineFrame_of_classC (k := .lineIsolated) rfl false hl ordered (hr hl) hw
  obtain ⟨member, framer, share, table⟩ := reportFault_keepsSharing_of_classC (k := .lineIsolated) rfl false hl ordered hr hw
  obtain ⟨-, htable, -, ⟨-, -, -, hlimit, -⟩, -, hmember, hframer⟩ := setMember_frame .member v
  have lowered : (setMember .member v).share.allowance ≤ v.share.allowance := by
    simp only [setMember, compute_share_allowance]
    exact min_le_left _ _
  have entered : LineFrame s v := by subst hv; exact .refl s
  exact
    { member := by rw [member, hmember]; subst hv; rfl
      framer := by rw [framer, hframer]; subst hv; rfl
      table := by rw [table, htable]; subst hv; rfl
      limit := by rw [share, hlimit]; subst hv; rfl
      allowance := by rw [share]; subst hv; exact lowered
      joined
      frame := (entered.trans (setMember_lineFrame _ v)).trans frame }

/-- What MEMBER is entered with on a JOIN-CONFIRM whose frame is still on the line (R92, R94, R108, R113). -/
structure MemberEntered (held : Nat) (s t : State) : Prop where
  st : t.member.st = .member
  joinNonce : t.member.joinNonce = none
  presence : t.member.presence = 7
  lastClaim : t.member.lastClaim = s.member.lastClaim
  slot : t.member.slot = if 0 < s.request.want then some (newestDemand t) else none
  heldOver : t.member.heldOver = none
  refWant : t.member.refWant = s.request.want
  framer : t.framer = s.framer
  table : t.table = s.table
  limit : t.share.limit = s.share.limit
  allowance : t.share.allowance ≤ min s.share.allowance held
  joined : t.faults.holds .lineIsolated = false
  frame : LineFrame s t

theorem enterMember_entered (held : Nat) {s : State} (hf : CabinetFresh s) (ho : FaultsOrdered s.faults)
    (hst : s.framer.st = .sending) (hslot : s.member.slot = none) (hfree : s.member.inFlight = false)
    (hheld : s.member.heldOver = none) : MemberEntered held s (enterMember held s) := by
  obtain ⟨member, framer, table, limit, allowance, joined, frame⟩ := joinReported_reported held hf ho
  obtain ⟨-, -, -, -, -, hrequest, -⟩ := id frame
  rw [enterMember_eq_joinReported]
  generalize joinReported held s = u at *
  by_cases hwant : 0 < s.request.want
  · rw [hrequest, if_pos hwant]
    obtain ⟨-, ktable, -, -, ⟨-, -, -, klimit, -⟩, -⟩ := loadNotice_cabinetFrame .demand u
    have lowered : (loadNotice .demand u).share.allowance ≤ u.share.allowance :=
      loadNotice_allowance_le_of_member (by rw [member])
    have loaded : loadNotice .demand u = fillSlot .demand { u with member := noteLoad .demand .demand u.member } := by
      rw [loadNotice_of_free (by rw [member]; exact hfree), show u.member.slot = none by rw [member]; exact hslot]
      rfl
    have busy := loadNotice_framer_of_busy (k := .demand) (s := u) (by rw [framer, hst]; decide)
    have kfaults := loadNotice_faults .demand u
    have kframe := loadNotice_lineFrame .demand u
    rw [loaded] at ktable klimit lowered busy kfaults kframe ⊢
    exact
      { st := by rw [fillSlot_member_st]; exact congrArg Membership.st member
        joinNonce := by rw [fillSlot_member_joinNonce]; exact congrArg Membership.joinNonce member
        presence := by rw [fillSlot_member_presence]; rfl
        lastClaim := by rw [fillSlot_member_lastClaim]; exact (noteLoad_lastClaim _ _ _).trans (by rw [member])
        slot := by rw [if_pos hwant]; exact fillSlot_newest .demand _
        heldOver := by rw [fillSlot_member_heldOver]; exact (congrArg Membership.heldOver member).trans hheld
        refWant := by rw [fillSlot_refWant, if_pos rfl]; exact congrArg Request.want hrequest
        framer := busy.trans framer
        table := ktable.trans table
        limit := klimit.trans limit
        allowance := lowered.trans allowance
        joined := by rw [kfaults]; exact joined
        frame := frame.trans kframe }
  · rw [hrequest, if_neg hwant]
    exact
      { st := by rw [member]
        joinNonce := by rw [member]
        presence := by rw [member]
        lastClaim := by rw [member]
        slot := by rw [if_neg hwant, member]; exact hslot
        heldOver := by rw [member]; exact hheld
        refWant := by rw [member]; exact (Nat.eq_zero_of_not_pos hwant).symm
        framer, table, limit, allowance, joined, frame }

/-! ## The way out through STANDBY -/

/-- STANDBY entered, before a return mark leads on. -/
def stoodBy (s : State) : State := setTable emptyTable (setMember .standby (standingDown s))

theorem enterStandby_eq (s : State) :
    enterStandby s = if s.member.returnMark then enterJoinListen (stoodBy s) else stoodBy s := rfl

/-- The station in STANDBY, its Peer Table cleared and its framer silent (R62, R80, R99, R118). -/
structure StoodBy (s t : State) : Prop where
  member : t.member = { (standingDown s).member with st := .standby }
  framer : t.framer = framerSilent (emptySlot s).framer
  table : t.table = emptyTable
  period : t.share.period = none
  hold : t.share.hold = 0
  arm : t.share.arm = true
  allowance : t.share.allowance = 0
  frame : LineFrame s t

theorem stoodBy_stoodBy {s : State} (hf : CabinetFresh s) (ho : FaultsOrdered s.faults) : StoodBy s (stoodBy s) := by
  obtain ⟨-, -, -, ⟨hperiod, hhold, harm, -⟩, -, hmember, hframer⟩ := setMember_frame .standby (standingDown s)
  have entered : LineFrame s (setMember .standby (standingDown s)) :=
    LineFrame.trans (t := standingDown s) (.refl s) (setMember_lineFrame .standby _)
  have ordered : FaultsOrdered (setMember .standby (standingDown s)).faults := by
    rw [show (setMember .standby (standingDown s)).faults = s.faults from compute_faults _]
    exact ho
  have fresh : CabinetFresh (setMember .standby (standingDown s)) := compute_cabinetFresh (by exact hf)
  obtain ⟨hl, hr, hw⟩ := fresh
  have cleared := tableSet_setTable emptyTable hl ordered hr hw
  obtain ⟨kperiod, khold, karm, -⟩ := cleared.shedding
  have member : (stoodBy s).member = { (standingDown s).member with st := .standby } := cleared.member.trans hmember
  have powerless : (stoodBy s).share.grant = 0 :=
    cleared.grant.trans (grantOf_of_powerless (.inr (.inr (.inr (.inr (congrArg Membership.st member))))))
  exact
    { member
      framer := cleared.framer.trans hframer
      table := cleared.table
      period := kperiod.trans hperiod
      hold := khold.trans hhold
      arm := karm.trans harm
      allowance := Nat.le_zero.1 (powerless ▸ cleared.allowance)
      frame := entered.trans cleared.frame }

/-- The station leaves for STANDBY or, with the return mark set, for JOIN_LISTEN (R62, R80, R99, R111, R118). -/
theorem enterStandby_leftFor {s : State} (hf : CabinetFresh s) (ho : FaultsOrdered s.faults) :
    LeftFor s (enterStandby s) ∧ (enterStandby s).member.lastClaim = s.member.lastClaim ∧
      (enterStandby s).framer.failures = (if s.member.returnMark then 0 else s.framer.failures) ∧
      LineFrame s (enterStandby s) := by
  obtain ⟨member, framer, table, period, hold, arm, allowance, frame⟩ := stoodBy_stoodBy hf ho
  have failures : (emptySlot s).framer.failures = s.framer.failures := by unfold emptySlot; dsimp only; split <;> rfl
  rw [enterStandby_eq]
  unfold LeftFor
  cases s.member.returnMark with
  | false =>
    simp only [Bool.false_eq_true, if_false]
    rw [member, framer]
    exact ⟨⟨rfl, rfl, rfl, rfl, rfl, rfl, rfl, table, period, hold, arm, allowance, rfl, rfl, rfl, rfl⟩, rfl, failures, frame⟩
  | true =>
    simp only [if_true]
    obtain ⟨⟨hstraps, -⟩, -⟩ := id frame
    generalize stoodBy s = u at *
    have listening : LineFrame u (enterJoinListen u) := enterJoinListen_lineFrame u
    obtain ⟨-, ktable, -, ⟨kperiod, khold, karm, -⟩, -, kmember, kframer⟩ := setMember_frame .joinListen
      { u with
        member := { u.member with periodCount := 0, refWant := 0, joinNonce := none }
        share := { u.share with period := some u.straps.periodMs }
        framer := framerListens u.framer }
    have joined : (enterJoinListen u).member =
        { u.member with st := .joinListen, periodCount := 0, refWant := 0, joinNonce := none } := kmember
    have heard : (enterJoinListen u).framer = framerListens u.framer := kframer
    rw [joined, heard, member, framer]
    exact ⟨⟨rfl, rfl, rfl, rfl, rfl, rfl, rfl, ktable.trans table, kperiod.trans (by rw [← hstraps]), khold.trans hold,
      karm.trans arm, (setMember_powerless (.inl rfl) _).2, rfl, rfl, rfl, rfl⟩, rfl, rfl, frame.trans listening⟩

/-! ## Each completion -/

/-- A JOIN-ASK completed leads to JOIN_HOLD, with power up to the isolated allowance (R89, R108, R112). -/
theorem complete_joinAsk {nonce : Fin 256} {s : State} (hst : s.framer.st = .sending) (hmark : s.framer.marking = false)
    (hm : s.member.st = .joinAsk) (hheld : s.member.heldOver = none) :
    ∃ u, complete (.joinAsk nonce) s = { u with framer := frameOver .listen { s.framer with failures := 0 } } ∧
      u.member = { s.member with st := .joinHold, slot := none, inFlight := false, periodCount := 0, lastClaim := 0 } ∧
      u.share.allowance = min s.request.want s.straps.aIso ∧ u.share.limit = some 0 ∧ u.share.limitTimer = some 45000 ∧
      u.table = s.table ∧ u.faults = s.faults ∧ LineFrame s u := by
  generalize hv : ({ noticeTaken (.joinAsk nonce) s with
    member := { (noticeTaken (.joinAsk nonce) s).member with periodCount := 0 } } : State) = v
  obtain ⟨-, htable, -, ⟨-, -, -, hlimit, htimer⟩, -, hmember, hframer⟩ := setMember_frame .joinHold v
  have framer : (setMember .joinHold v).framer = { s.framer with failures := 0 } := by rw [hframer, ← hv]; rfl
  have member : (setMember .joinHold v).member =
      { s.member with st := .joinHold, slot := none, inFlight := false, periodCount := 0, lastClaim := 0 } := by
    rw [hmember, ← hv]; rfl
  have rests : restState (setMember .joinHold v) = .listen := by unfold restState; rw [member]; rfl
  have allowance : (setMember .joinHold v).share.allowance = min v.request.want v.straps.aIso := by
    simp [setMember, grantOf, baseGrant]
  have taken : LineFrame s v := by subst hv; exact .refl s
  have held : complete (.joinAsk nonce) s = framerRest (setMember .joinHold v) := by
    rw [complete_eq, completionAction_joinAsk (by exact hm), hv, loadHeldOver_of_none (by rw [member]; exact hheld)]
  refine ⟨setMember .joinHold v, ?_, member, ?_, ?_, ?_, ?_, ?_, taken.trans (setMember_lineFrame _ v)⟩
  · rw [held, framerRest_of_sending (by rw [framer]; exact hst) (by rw [framer]; exact hmark), rests, framer]
  · rw [allowance, ← hv]; rfl
  · rw [hlimit, ← hv]; rfl
  · rw [htimer, ← hv]; rfl
  · rw [htable, ← hv]; rfl
  · rw [show (setMember .joinHold v).faults = v.faults from compute_faults _, ← hv]; rfl

/-- A JOIN-CONFIRM completed leads to MEMBER, and the framer rests after that (R92, R108, R113). -/
theorem complete_joinConfirm {nonce : Fin 256} {held : Nat} {s : State} (hf : CabinetFresh s) (ho : FaultsOrdered s.faults)
    (hst : s.framer.st = .sending) (hm : s.member.st = .joinConfirm) (hheld : s.member.heldOver = none) :
    ∃ u, complete (.joinConfirm nonce held) s = framerRest u ∧ MemberEntered held (noticeTaken (.joinConfirm nonce held) s) u := by
  have entered := enterMember_entered held (s := noticeTaken (.joinConfirm nonce held) s) hf ho hst rfl rfl hheld
  refine ⟨_, ?_, entered⟩
  rw [complete_eq, completionAction_joinConfirm (by exact hm), loadHeldOver_of_none entered.heldOver]

/-- A LEAVE completed takes the station out, its framer silent or listening afresh (R108, R118). -/
theorem complete_leave {s : State} (hf : CabinetFresh s) (ho : FaultsOrdered s.faults) (hm : s.member.st = .leaving) :
    LeftFor s (complete .leave s) ∧ (complete .leave s).member.lastClaim = 0 ∧ (complete .leave s).framer.failures = 0 ∧
      LineFrame s (complete .leave s) := by
  obtain ⟨left, claim, failures, frame⟩ := enterStandby_leftFor (s := noticeTaken .leave s) hf ho
  obtain ⟨-, -, -, hover, -, -, -, -, -, -, -, -, hframer, -⟩ := id left
  have rested : (enterStandby (noticeTaken .leave s)).framer.st ≠ .receiving ∧
      (enterStandby (noticeTaken .leave s)).framer.st ≠ .sending := by
    rw [hframer]; split <;> decide
  have out : complete .leave s = enterStandby (noticeTaken .leave s) := by
    rw [complete_eq, completionAction_leave (by exact hm), loadHeldOver_of_none hover]
    exact if_neg fun h => h.elim rested.1 rested.2
  rw [out]
  refine ⟨left, claim, failures.trans ?_, frame⟩
  exact ite_self 0

/-- A completion behind which a load was held over leaves the slot filled with it, for the framer to send (R107, R108). -/
theorem complete_held {n : Notice} {s : State} (hst : s.framer.st = .sending) (hmark : s.framer.marking = false)
    (hs : SlotFits s) (hheld : s.member.heldOver.isSome = true) (hn : n ≠ .leave) :
    ∃ u, complete n s = { u with framer := frameOver .waiting { s.framer with failures := 0 } } ∧
      HeldLoaded { s with member := { s.member with slot := none } } u ∧ CabinetFrame (noticeTaken n s) u ∧
      u.faults = s.faults ∧ LineFrame s u := by
  obtain ⟨k, hk⟩ := Option.isSome_iff_exists.1 hheld
  obtain ⟨loaded, filled⟩ := heldLoaded_loadHeldOver (s := noticeTaken n s) (k := k)
    (fun e => absurd (e.symm.trans hst) (by decide)) rfl rfl hk
  obtain ⟨framer, cabinet, faults, frame⟩ := loadHeldOver_keeps (s := noticeTaken n s) hst
  have waits : restState (loadHeldOver (noticeTaken n s)) = .waiting := by unfold restState; rw [if_pos filled]
  refine ⟨loadHeldOver (noticeTaken n s), ?_, loaded, cabinet, faults, LineFrame.trans (t := noticeTaken n s) (.refl s) frame⟩
  have stays : ¬ActsOn n (noticeTaken n s).member.st := not_acts_of_held (s := s) hs hheld hn
  rw [complete_eq, completionAction_of_not_acts stays,
    framerRest_of_sending (by rw [framer]; exact hst) (by rw [framer]; exact hmark), waits, framer]
  rfl

/-- Settles O46: in every case the completion is what its kind does on the notice taken, with the load held over and the framer's
rest after it. -/
theorem completionActsByKind : Obligations.CompletionActsByKind := by
  intro n x s hl hst hmark hx hn
  subst hn
  have run := exec_noticeCompletion hl hst hmark hx
  refine ⟨fun a ha hm hover => ?_, fun hp hm hover => ?_, fun k hk hm hover => ?_, fun k held hk hm hover ho hr hw => ?_,
    fun hleave hm ho hr hw => ?_, fun hover hs hleave => ?_⟩
  · rw [run, complete_of_still hst hmark (by rw [ha]; exact id) hover, ha]
    simp [noticeTaken, shareCompletion, frameOver, hm, Notice.claim, Notice.kind, isolationLimitMs, raiseReadyMs]
  · rw [run, complete_of_still hst hmark (by rw [hp]; exact id) hover, hp]
    simp [noticeTaken, shareCompletion, frameOver, Notice.claim, Notice.kind, isolationLimitMs]
  · rw [hk] at run
    obtain ⟨u, hu, member, allowance, limit, timer, table, faults, frame⟩ := complete_joinAsk (nonce := k) hst hmark hm hover
    exact ⟨_, run.trans (congrArg _ hu), member, allowance, limit, timer, rfl, rfl, table, faults, frame⟩
  · rw [hk] at run
    obtain ⟨u, hu, entered⟩ := complete_joinConfirm (nonce := k) (held := held) ⟨hl, hr, hw⟩ ho hst hm hover
    have rest := framerRest_of_sending (s := u) (by rw [entered.framer]; exact hst) (by rw [entered.framer]; exact hmark)
    have failures : u.framer.failures = 0 := congrArg Framer.failures entered.framer
    exact ⟨_, run.trans (congrArg _ (hu.trans rest)), entered.st, entered.joinNonce, entered.presence, entered.lastClaim,
      entered.allowance.trans (min_le_right _ _), entered.allowance.trans (min_le_left _ _), entered.limit, entered.joined,
      failures, entered.slot, entered.refWant, entered.table, entered.frame⟩
  · rw [hleave] at run
    exact ⟨_, run, complete_leave ⟨hl, hr, hw⟩ ho hm⟩
  · obtain ⟨u, hu, loaded, cabinet, faults, frame⟩ := complete_held hst hmark hs hover hleave
    obtain ⟨-, table, -, standing, ⟨-, -, -, limit, timer⟩, -⟩ := cabinet
    have claim : u.member.lastClaim = x.notice.claim := by unfold KeepsStanding at standing; rw [standing]; rfl
    have listed : x.notice.claim = match x.notice with | .demand a => a.claim | .joinConfirm _ held => held | _ => 0 := by
      cases x.notice <;> rfl
    exact ⟨_, run.trans (congrArg _ hu), loaded, standing.st, claim.trans listed, limit.trans (congrArg some claim.symm),
      timer, rfl, rfl, rfl, rfl, table, faults, frame⟩

end Sys2Proof.Machine

namespace Sys2Proof.Machine

/-! PROOFS. The fan, the framer and its driver (O58), first part: one invariant for the fan watch and for what the framer is and
drives, and what the shared operations keep of it. The fan part is one of the Load Output Unit and of whether FAN_STALL is held, the
framer part one of the framer and the membership state; no other item shows in it. -/

/-! ## The fan -/

/-- The fan is watched, with FAN_STALL held or not as `stall` says, and its two outputs carry the command (R157, R158). -/
def FanSound (l : LoadOut) (stall : Bool) : Prop :=
  (l.fan = 0 → l.tachConfirmed = false ∧ l.tachWatchdog = none) ∧
    (l.fan ≠ 0 → l.tachWatchdog.isSome = true ∨ stall = true) ∧
    (l.tachConfirmed = true → l.tachWatchdog.isSome = true) ∧ FanDriven l

theorem fanSound_iff (s : State) :
    FanSound s.loads (s.faults.holds .fanStall) ↔ FanWatched s ∧ FanDriven s.loads := by
  unfold FanSound FanWatched; tauto

/-- What is watched without FAN_STALL is watched with it. -/
theorem FanSound.mono {l : LoadOut} {b c : Bool} (h : FanSound l b) (hbc : b = true → c = true) : FanSound l c := by
  obtain ⟨hoff, hwatched, htimed, hdriven⟩ := h
  exact ⟨hoff, fun hon => (hwatched hon).imp id hbc, htimed, hdriven⟩

/-- A turn-on starts the watchdog, a turn-off ends the watch, and nothing else moves it (R157, R158). -/
theorem settle_fanSound {s : State} {b : Bool} (h : FanSound s.loads b) : FanSound (settle s).loads b := by
  obtain ⟨-, hwatched, htimed, -⟩ := h
  unfold FanSound
  rw [settle_loads_fan, settle_loads_tachConfirmed, settle_loads_tachWatchdog]
  refine ⟨fun hoff => ?_, fun hon => ?_, fun hc => ?_, settle_fanDriven s⟩
  · simp [formFan, hoff]
  · by_cases hwas : s.loads.fan = 0
    · simp [formFan, hon, hwas]
    · simpa [formFan, hon, hwas] using hwatched hwas
  · by_cases hoff : fanCommand s = 0
    · simp [formFan, hoff] at hc
    · by_cases hwas : s.loads.fan = 0
      · simp [formFan, hoff, hwas]
      · simp only [formFan, driveFan_fan, hoff, hwas, if_false, driveFan_tachConfirmed, driveFan_tachWatchdog] at hc ⊢
        exact htimed hc

/-- A raise lets every other fault stand. -/
theorem raiseInto_holds_mono {j k : FaultKind} {f : FaultUnit} (h : f.holds j = true) : (raiseInto k f).holds j = true := by
  simp [raiseInto_holds, h]

/-- A withdraw lets every other fault stand, whatever the order of the list. -/
theorem withdrawFrom_holds_mono {j k : FaultKind} (hjk : j ≠ k) {f : FaultUnit} (h : f.holds j = true) :
    (withdrawFrom k f).holds j = true := by
  rw [holds_iff] at h ⊢
  unfold withdrawFrom
  split
  · next hactive =>
    have hne : f.active ≠ some j := by rw [hactive]; exact fun e => hjk (Option.some.inj e).symm
    have hwaits := h.resolve_left hne
    cases hw : f.waiting with
    | nil => rw [hw] at hwaits; cases hwaits
    | cons i rest =>
      rw [hw] at hwaits
      exact (List.mem_cons.1 hwaits).imp (fun e => congrArg some e.symm) id
  · exact h.imp id fun hwaits => List.mem_filter.2 ⟨hwaits, by simpa using hjk⟩

/-! ## The framer and its driver -/

/-- The driver drives a mark, or the pulse at hand of the frame being sent, and none in SILENT and STUCK. -/
def DriveFits (f : Framer) : Prop :=
  (∀ d, f.drive = some d → d.isMark = true ∨ (f.st = .sending ∧ f.sending.bind Sending.drive = some d)) ∧
    (f.st = .silent ∨ f.st = .stuck → f.drive = none)

/-- The framer is SILENT in STANDBY alone, and its driver fits. -/
def FramerSound (f : Framer) (m : MemberState) : Prop := (f.st = .silent ↔ m = .standby) ∧ DriveFits f

theorem driveFits_of_released {f : Framer} (h : f.drive = none) : DriveFits f :=
  ⟨fun _ hd => (nomatch h.symm.trans hd), fun _ => h⟩

/-- Outside SENDING only a mark is driven. -/
theorem DriveFits.isMark {f : Framer} (h : DriveFits f) (hst : f.st ≠ .sending) {d : Drive} (hd : f.drive = some d) :
    d.isMark = true :=
  (h.1 d hd).resolve_right fun both => hst both.1

/-- A framer that listens, waits or receives may drive a mark. -/
theorem driveFits_of_mark {f : Framer} (hsilent : f.st ≠ .silent) (hstuck : f.st ≠ .stuck)
    (h : ∀ d, f.drive = some d → d.isMark = true) : DriveFits f :=
  ⟨fun d hd => .inl (h d hd), fun hst => (hst.elim hsilent hstuck).elim⟩

/-- Outside SENDING the driver stays as it is when the framer turns to another state that may drive. -/
theorem DriveFits.turned {f g : Framer} (h : DriveFits f) (hst : f.st ≠ .sending) (hd : g.drive = f.drive)
    (hsilent : g.st ≠ .silent) (hstuck : g.st ≠ .stuck) : DriveFits g :=
  driveFits_of_mark hsilent hstuck fun _ hg => h.isMark hst (hd ▸ hg)

/-- A frame given up leaves at most a mark at the driver (R123, R136). -/
theorem stopFrame_isMark {f : Framer} {d : Drive} (h : f.stopFrame.drive = some d) : d.isMark = true := by
  rw [Framer.stopFrame_drive] at h
  exact (Option.filter_eq_some_iff.1 h).2

/-- Between two membership states that are not STANDBY the framer stays sound. -/
theorem FramerSound.moved {f : Framer} {m n : MemberState} (h : FramerSound f m) (hm : m ≠ .standby) (hn : n ≠ .standby) :
    FramerSound f n :=
  ⟨⟨fun hs => absurd (h.1.1 hs) hm, fun e => absurd e hn⟩, h.2⟩

/-- A framer that is not SILENT is sound in any state but STANDBY, with a driver that fits. -/
theorem framerSound_of_fits {f : Framer} {m : MemberState} (hst : f.st ≠ .silent) (hm : m ≠ .standby) (h : DriveFits f) :
    FramerSound f m :=
  ⟨⟨fun hs => absurd hs hst, fun e => absurd e hm⟩, h⟩

/-- The framer keeps its soundness in a new state that is as little SILENT as the old one. -/
theorem FramerSound.of_fits {f g : Framer} {m : MemberState} (h : FramerSound f m) (hf : f.st ≠ .silent)
    (hg : g.st ≠ .silent) (hfits : DriveFits g) : FramerSound g m :=
  framerSound_of_fits hg (mt h.1.2 hf) hfits

/-- The frame at hand is given up for a state in which the framer listens or waits. -/
theorem stopFrame_sound {f g : Framer} {m : MemberState} (h : FramerSound f m) (hf : f.st ≠ .silent)
    (hg : g.st = .listen ∨ g.st = .waiting) (hd : g.drive = f.stopFrame.drive) : FramerSound g m := by
  have hsilent : g.st ≠ .silent := by rcases hg with e | e <;> rw [e] <;> decide
  have hstuck : g.st ≠ .stuck := by rcases hg with e | e <;> rw [e] <;> decide
  exact h.of_fits hf hsilent (driveFits_of_mark hsilent hstuck fun d hgd => stopFrame_isMark (hd ▸ hgd))

theorem restState_cases (s : State) : restState s = .listen ∨ restState s = .waiting := by
  unfold restState; split
  · exact .inr rfl
  · exact .inl rfl

theorem beginSending_framerSound {s : State} (h : FramerSound s.framer s.member.st) (hst : s.framer.st ≠ .silent) :
    FramerSound (beginSending s).framer (beginSending s).member.st := by
  unfold beginSending; split
  · exact h
  · refine h.of_fits hst (by simp) ⟨fun d hd => .inr ⟨rfl, hd⟩, ?_⟩
    rintro (hs | hs) <;> cases hs

theorem handFramer_framerSound {s : State} (h : FramerSound s.framer s.member.st) :
    FramerSound (handFramer s).framer (handFramer s).member.st := by
  unfold handFramer; split
  · next hst =>
    have awake : s.framer.st ≠ .silent := by rw [hst]; decide
    split
    · exact beginSending_framerSound h awake
    · exact h.of_fits awake nofun (h.2.turned (by rw [hst]; decide) rfl nofun nofun)
  · exact h

theorem framerRest_framerSound {s : State} (h : FramerSound s.framer s.member.st) :
    FramerSound (framerRest s).framer (framerRest s).member.st := by
  rw [framerRest_member]
  unfold framerRest; split
  · next hst => exact stopFrame_sound h (by rcases hst with e | e <;> rw [e] <;> decide) (restState_cases s) rfl
  · exact h

theorem emptySlot_framerSound {s : State} (h : FramerSound s.framer s.member.st) :
    FramerSound (emptySlot s).framer (emptySlot s).member.st := by
  unfold emptySlot; dsimp only; split
  · next hst => exact stopFrame_sound h (by rcases hst with e | e <;> rw [e] <;> decide) (.inl rfl) rfl
  · exact h

theorem framerStuck_sound {f : Framer} {m : MemberState} (h : FramerSound f m) (hst : f.st ≠ .silent) :
    FramerSound (framerStuck f) m :=
  h.of_fits hst nofun (driveFits_of_released rfl)

theorem framerSilent_sound (f : Framer) : FramerSound (framerSilent f) .standby :=
  ⟨⟨fun _ => rfl, fun _ => rfl⟩, driveFits_of_released rfl⟩

/-- The framer listens at the entry to JOIN_LISTEN, whatever it did before (R111, R122). -/
theorem framerListens_sound {f : Framer} (h : DriveFits f) : FramerSound (framerListens f) .joinListen := by
  unfold framerListens; split
  · next hst =>
    have released := h.2 (.inl hst)
    exact framerSound_of_fits nofun nofun (driveFits_of_released released)
  · next hst => exact framerSound_of_fits hst nofun h

/-! ## Both -/

/-- The fan is watched and driven, and the framer sound. -/
def Attended (s : State) : Prop := FanSound s.loads (s.faults.holds .fanStall) ∧ FramerSound s.framer s.member.st

theorem Attended.raised {s : State} (h : Attended s) (k : FaultKind) :
    Attended { s with faults := raiseInto k s.faults } :=
  ⟨h.1.mono raiseInto_holds_mono, h.2⟩

theorem Attended.withdrawn {s : State} (h : Attended s) {k : FaultKind} (hk : .fanStall ≠ k) :
    Attended { s with faults := withdrawFrom k s.faults } :=
  ⟨h.1.mono (withdrawFrom_holds_mono hk), h.2⟩

/-! ## Forming the outputs, the share computation and the notice slot -/

theorem settle_attended {s : State} (h : Attended s) : Attended (settle s) := by
  rw [Attended, settle_faults, settle_framer, settle_member]
  exact ⟨settle_fanSound h.1, h.2⟩

theorem compute_attended {s : State} (h : Attended s) : Attended (compute s) := settle_attended (by exact h)

theorem startHold_attended (originated : Bool) {s : State} (h : Attended s) : Attended (startHold originated s) := by
  unfold startHold; split
  · exact h
  · exact compute_attended h

theorem beginSending_attended {s : State} (h : Attended s) (hst : s.framer.st ≠ .silent) : Attended (beginSending s) := by
  refine ⟨?_, beginSending_framerSound h.2 hst⟩
  unfold beginSending; split <;> exact h.1

theorem handFramer_attended {s : State} (h : Attended s) : Attended (handFramer s) := by
  refine ⟨?_, handFramer_framerSound h.2⟩
  rw [handFramer_loads, handFramer_faults]
  exact h.1

theorem framerRest_attended {s : State} (h : Attended s) : Attended (framerRest s) := by
  refine ⟨?_, framerRest_framerSound h.2⟩
  rw [framerRest_loads, framerRest_faults]
  exact h.1

theorem fillSlot_attended (k : NoticeKind) {s : State} (h : Attended s) : Attended (fillSlot k s) := by
  have computed : Attended (compute { s with share := { s.share with raiseReady := none } }) := compute_attended h
  exact handFramer_attended (by exact computed)

theorem loadNotice_attended (k : NoticeKind) {s : State} (h : Attended s) : Attended (loadNotice k s) := by
  unfold loadNotice; split
  · exact h
  · refine fillSlot_attended _ ⟨h.1, ?_⟩
    rw [PowerUpkeep.noteLoad_st]
    exact h.2

theorem refreshSlot_attended {s : State} (h : Attended s) : Attended (refreshSlot s) := by
  unfold refreshSlot; split
  · exact h
  · exact fillSlot_attended _ h

theorem endAttempt_attended {s : State} (h : Attended s) : Attended (endAttempt s) := by
  unfold endAttempt; dsimp only; split
  · exact loadNotice_attended _ h
  · exact refreshSlot_attended h

theorem clearLineFree_attended {s : State} (h : Attended s) : Attended (clearLineFree s) := by
  unfold clearLineFree; split <;> exact h

/-! ## Handing over, and the cycle -/

theorem handOver_attended {s : State} (h : Attended s) : Attended (handOver s) := by
  have computed : Attended (compute { s with request := formRequest s }) := compute_attended h
  unfold handOver wantRise; dsimp only; split
  · exact settle_attended h
  · split
    · exact loadNotice_attended _ computed
    · exact computed

theorem leaveTo_attended (st : CycleState) {s : State} (h : Attended s) : Attended (leaveTo st s) := by
  unfold leaveTo; dsimp only; split <;> exact h

theorem activate_attended {s : State} (h : Attended s) : Attended (activate s) := by
  unfold activate; dsimp only; split
  · exact h
  · split <;> exact h

theorem handOver_leaveTo_attended (st : CycleState) {s : State} (h : Attended s) : Attended (handOver (leaveTo st s)) :=
  handOver_attended (leaveTo_attended st h)

/-! ## The Fault Unit and the phases -/

theorem cycleOnClass_attended {s : State} (h : Attended s) : Attended (cycleOnClass s) := by
  have stay : Attended (handOver s) := handOver_attended h
  have halted : Attended (haltCycle s) := handOver_leaveTo_attended .halted h
  have held : Attended (holdCycle s) := handOver_attended (by exact h)
  unfold cycleOnClass; split
  · split
    all_goals first
      | exact halted
      | exact stay
  · split
    · exact held
    · exact stay
  · exact stay
  · exact stay

/-- What a raise brings about keeps what its fault list has. -/
theorem raiseFault_attended {k : FaultKind} {s : State} (h : Attended { s with faults := raiseInto k s.faults }) :
    Attended (raiseFault k s) := by
  unfold raiseFault; dsimp only; split
  · exact settle_attended h
  · exact cycleOnClass_attended (activate_attended h)

theorem checkWater_attended {s : State} (h : Attended s) : Attended (checkWater s) := by
  unfold checkWater; split
  · exact raiseFault_attended (h.raised _)
  · exact h

theorem enterPhase_attended (i : Nat) (r : Record) {s : State} (h : Attended s) : Attended (enterPhase i r s) :=
  checkWater_attended (handOver_attended (by exact h))

theorem endPhase_attended {s : State} (h : Attended s) : Attended (endPhase s) := by
  unfold endPhase completeCycle; split
  · exact enterPhase_attended _ _ h
  · exact handOver_leaveTo_attended .done h

theorem checkDryPoint_attended {s : State} (h : Attended s) : Attended (checkDryPoint s) := by
  unfold checkDryPoint; split
  · exact endPhase_attended h
  · exact h

/-- What a withdraw brings about keeps what its fault list has. -/
theorem withdrawCore_attended {k : FaultKind} {s : State} (h : Attended { s with faults := withdrawFrom k s.faults }) :
    Attended (withdrawCore k s) := by
  have fallen := activate_attended h
  unfold withdrawCore cycleOnFall returnToRunning; dsimp only; split
  · exact settle_attended h
  · split
    · exact checkWater_attended (checkDryPoint_attended (handOver_attended (by exact fallen)))
    · exact cycleOnClass_attended fallen

theorem checkLock_attended {s : State} (h : Attended s) : Attended (checkLock s) := by
  unfold checkLock; split
  · exact withdrawCore_attended (h.withdrawn (by decide))
  · exact h

theorem reportFault_attended {k : FaultKind} (hk : .fanStall ≠ k) (b : Bool) {s : State} (h : Attended s) :
    Attended (reportFault k b s) := by
  unfold reportFault; split
  · exact h
  · split
    · exact checkLock_attended (raiseFault_attended (h.raised k))
    · exact checkLock_attended (withdrawCore_attended (h.withdrawn hk))

/-- Leaving the phase, with the lock looked at. -/
theorem leftAndHanded_attended (st : CycleState) {s : State} (h : Attended s) :
    Attended (checkLock (handOver (leaveTo st s))) :=
  checkLock_attended (handOver_leaveTo_attended st h)

end Sys2Proof.Machine

namespace Sys2Proof.Machine

/-! PROOFS. The fan, the framer and its driver (O58), second part: the cabinet's commands and the Membership Controller. -/

/-! ## Door, water, lock and fan -/

theorem doorOpened_attended {s : State} (h : Attended s) : Attended (doorOpened s) := by
  have paused : Attended (pauseCycle s) := handOver_attended (by exact h)
  unfold doorOpened; split
  · exact checkLock_attended paused
  · exact checkLock_attended paused
  · exact leftAndHanded_attended .idle h
  all_goals exact settle_attended h

theorem waterReported_attended {s : State} (h : Attended s) : Attended (waterReported s) := by
  unfold waterReported; split
  · exact checkLock_attended (checkWater_attended (handOver_attended h))
  · exact reportFault_attended (by decide) _ (handOver_attended h)

theorem lockReported_attended (was : Bool) {s : State} (h : Attended s) : Attended (lockReported was s) :=
  checkLock_attended (settle_attended (by exact h))

theorem lockConfirmExpiry_attended {s : State} (h : Attended s) : Attended (lockConfirmExpiry s) := by
  unfold lockConfirmExpiry; split
  · exact reportFault_attended (by decide) _ (by exact h)
  · exact h

/-- A tach pulse confirms the fan and restarts its watchdog, so that FAN_STALL is no longer needed to watch it (R158). -/
theorem tachPulse_attended {s : State} (h : Attended s) : Attended (tachPulse s) := by
  unfold tachPulse; split
  · exact h
  · next hon =>
    generalize hu : ({ s with
      loads := { s.loads with tachConfirmed := true, tachWatchdog := some tachWatchdogMs } } : State) = u
    have timed : FanSound u.loads false := by
      subst hu
      exact ⟨fun hoff => absurd hoff hon, fun _ => .inl rfl, fun _ => rfl, h.1.2.2.2⟩
    have stands : FramerSound (settle u).framer (settle u).member.st := by
      rw [settle_framer, settle_member]; subst hu; exact h.2
    have formed {stall : Bool} : FanSound (settle u).loads stall := (settle_fanSound timed).mono nofun
    unfold reportFault; split
    · exact ⟨formed, stands⟩
    · exact checkLock_attended (withdrawCore_attended ⟨formed, stands⟩)

/-- The watchdog's expiry leaves the fan to FAN_STALL, which is raised then (R158). -/
theorem tachExpiry_attended {s : State} (h : Attended s) : Attended (tachExpiry s) := by
  unfold tachExpiry; split
  · generalize hu : ({ s with loads := { s.loads with tachConfirmed := false, tachWatchdog := none } } : State) = u
    have untimed : FanSound u.loads true := by
      subst hu
      exact ⟨fun _ => ⟨rfl, rfl⟩, fun _ => .inr rfl, nofun, h.1.2.2.2⟩
    have stands : FramerSound (settle u).framer (settle u).member.st := by
      rw [settle_framer, settle_member]; subst hu; exact h.2
    have formed {stall : Bool} (hstall : stall = true) : FanSound (settle u).loads stall :=
      (settle_fanSound untimed).mono fun _ => hstall
    unfold reportFault; split
    · next held => exact ⟨formed held.symm, stands⟩
    · exact checkLock_attended (raiseFault_attended ⟨formed (by simp [raiseInto_holds]), stands⟩)
  · exact h

/-! ## Climate -/

theorem evalOverTemp_attended {s : State} (h : Attended s) : Attended (evalOverTemp s) :=
  reportFault_attended (by decide) _ (by exact h)

theorem climateUpdate_attended {s : State} (h : Attended s) : Attended (climateUpdate s) := by
  unfold climateUpdate; dsimp only; split
  · exact leftAndHanded_attended .idle (by exact h)
  · exact checkLock_attended (handOver_attended (by exact h))

theorem probeRound_attended (r0 r1 r2 : Int) {s : State} (h : Attended s) : Attended (probeRound r0 r1 r2 s) :=
  climateUpdate_attended
    (evalOverTemp_attended
      (reportFault_attended (by decide) _ (reportFault_attended (by decide) _ (by exact h))))

theorem humidityReading_attended (r : Int) {s : State} (h : Attended s) : Attended (humidityReading r s) := by
  unfold humidityReading; split
  · exact reportFault_attended (by decide) _ (by exact h)
  · exact checkLock_attended (checkDryPoint_attended (reportFault_attended (by decide) _ (by exact h)))

theorem firstReadings_attended (r0 r1 r2 rh : Int) {s : State} (h : Attended s) : Attended (firstReadings r0 r1 r2 rh s) :=
  humidityReading_attended rh (probeRound_attended r0 r1 r2 h)

/-! ## Keys and the cycle's timers -/

theorem cycleStart_attended (p : Fin 8) {s : State} (h : Attended s) : Attended (cycleStart p s) := by
  have started : Attended (startCycle p s) := by
    unfold startCycle; split
    · exact h
    · exact enterPhase_attended _ _ h
  have resumed : Attended (resumeCycle s) := by
    unfold resumeCycle; split
    · exact h
    · exact checkWater_attended (handOver_attended (by exact h))
  unfold cycleStart; split
  · split
    · exact checkLock_attended started
    · exact h
  · split
    · exact checkLock_attended resumed
    · exact h
  all_goals exact h

theorem startPress_attended (sel2 sel1 sel0 : Bool) {s : State} (h : Attended s) :
    Attended (startPress sel2 sel1 sel0 s) := by
  unfold startPress; dsimp only; split
  · split
    · exact cycleStart_attended _ h
    · exact h
  · exact h

theorem cycleCancel_attended {s : State} (h : Attended s) : Attended (cycleCancel s) := by
  have idled := leftAndHanded_attended .idle h
  have cooled : Attended (enterCancelCool s) := handOver_attended (by exact leaveTo_attended .cancelCool h)
  have stopped : Attended
      (checkLock (if coolTemp ≤ s.climate.tmax then enterCancelCool s else handOver (leaveTo .idle s))) := by
    split
    · exact checkLock_attended cooled
    · exact idled
  unfold cycleCancel; split
  · exact stopped
  · exact stopped
  · exact stopped
  · split
    · exact h
    · exact idled
  · exact idled
  all_goals exact h

theorem cancelPress_attended {s : State} (h : Attended s) : Attended (cancelPress s) := by
  unfold cancelPress; dsimp only; split
  · split
    · exact cycleCancel_attended h
    · exact h
  · exact h

theorem secondExpiry_attended {s : State} (h : Attended s) : Attended (secondExpiry s) := by
  unfold secondExpiry; dsimp only; split
  · split
    · exact handOver_attended h
    · split
      · exact checkLock_attended (endPhase_attended h)
      · exact h
  · exact h

theorem pauseExpiry_attended {s : State} (h : Attended s) : Attended (pauseExpiry s) := by
  unfold pauseExpiry; split
  · exact leftAndHanded_attended .idle h
  · exact h

theorem cancelCoolExpiry_attended {s : State} (h : Attended s) : Attended (cancelCoolExpiry s) := by
  unfold cancelCoolExpiry; split
  · exact leftAndHanded_attended .idle h
  · exact h

/-! ## Membership -/

theorem setMember_attended {m : MemberState} {s : State} (hfan : FanSound s.loads (s.faults.holds .fanStall))
    (hframer : FramerSound s.framer m) : Attended (setMember m s) :=
  compute_attended (by exact ⟨hfan, hframer⟩)

/-- A change between two states that are not STANDBY. -/
theorem setMember_attended_of_awake {m : MemberState} {s : State} (h : Attended s) (hst : s.member.st ≠ .standby)
    (hm : m ≠ .standby) : Attended (setMember m s) :=
  setMember_attended h.1 (h.2.moved hst hm)

theorem setTable_attended (table : List Entry) {s : State} (h : Attended s) : Attended (setTable table s) :=
  compute_attended (reportFault_attended (by decide) _ (by exact h))

theorem emptySlot_attended {s : State} (h : Attended s) : Attended (emptySlot s) := ⟨h.1, emptySlot_framerSound h.2⟩

theorem enterJoinListen_attended {s : State} (h : Attended s) : Attended (enterJoinListen s) :=
  setMember_attended h.1 (framerListens_sound h.2.2)

theorem enterStandby_attended {s : State} (h : Attended s) : Attended (enterStandby s) := by
  have away {u : State} (hfan : FanSound u.loads (u.faults.holds .fanStall)) (hframer : FramerSound u.framer .standby) :
      Attended (setTable emptyTable (setMember .standby u)) :=
    setTable_attended _ (setMember_attended hfan hframer)
  unfold enterStandby; dsimp only; split
  · exact enterJoinListen_attended (away h.1 (framerSilent_sound _))
  · exact away h.1 (framerSilent_sound _)

theorem enterIsolated_attended {s : State} (h : Attended s) (hst : s.member.st ≠ .standby) : Attended (enterIsolated s) := by
  refine setMember_attended_of_awake
    (reportFault_attended (k := .lineIsolated) (by decide) true (by exact emptySlot_attended h)) ?_ (by decide)
  rw [reportFault_member_st]
  exact hst

theorem exitIsolated_attended {s : State} (h : Attended s) : Attended (exitIsolated s) :=
  enterJoinListen_attended (setTable_attended emptyTable (by exact h))

theorem enterDuplicate_attended {s : State} (h : Attended s) (hst : s.member.st ≠ .standby) :
    Attended (enterDuplicate s) := by
  have emptied : Attended { emptySlot s with member := { (emptySlot s).member with joinNonce := none } } :=
    emptySlot_attended h
  exact reportFault_attended (by decide) _ (setMember_attended_of_awake emptied hst (by decide))

theorem enterJoinAsk_attended {s : State} (h : Attended s) (hst : s.member.st ≠ .standby) : Attended (enterJoinAsk s) :=
  loadNotice_attended _ (setMember_attended h.1 (h.2.moved hst (by decide)))

theorem enterJoinConfirm_attended {s : State} (h : Attended s) (hst : s.member.st ≠ .standby) :
    Attended (enterJoinConfirm s) :=
  loadNotice_attended _ (setMember_attended_of_awake h hst (by decide))

theorem enterMember_attended (held : Nat) {s : State} (h : Attended s) (hst : s.member.st ≠ .standby) :
    Attended (enterMember held s) := by
  have joined {u : State} (hu : Attended u) (hst : u.member.st ≠ .standby) :
      Attended (reportFault .lineIsolated false (setMember .member u)) :=
    reportFault_attended (by decide) _ (setMember_attended_of_awake hu hst (by decide))
  rw [enterMember_eq]; dsimp only; split
  · exact loadNotice_attended _ (joined h hst)
  · exact joined h hst

theorem memberPower_attended {s : State} (h : Attended s) : Attended (memberPower s) := by
  have leaving (hst : s.member.st ≠ .standby) : Attended (loadNotice .leave (setMember .leaving s)) :=
    loadNotice_attended _ (setMember_attended_of_awake h hst (by decide))
  unfold memberPower; split
  · exact enterStandby_attended h
  · exact enterStandby_attended h
  · next hst => exact leaving (by rw [hst]; decide)
  · next hst => exact leaving (by rw [hst]; decide)
  · next hst => exact leaving (by rw [hst]; decide)
  · next hst => exact leaving (by rw [hst]; decide)
  · exact h
  · exact h
  · exact enterJoinListen_attended h

theorem powerPress_attended {s : State} (h : Attended s) : Attended (powerPress s) := by
  have powered {u : State} (hu : Attended u) : Attended (cyclePower u) := by
    unfold cyclePower; split
    · exact memberPower_attended (leftAndHanded_attended .standby hu)
    · exact memberPower_attended (leftAndHanded_attended .standby hu)
    · exact memberPower_attended (leftAndHanded_attended .idle hu)
    all_goals exact hu
  unfold powerPress; dsimp only; split
  · split
    · exact powered h
    · exact h
  · exact h

theorem ownAddress_attended (k : NoticeKind) {s : State} (h : Attended s) : Attended (ownAddress k s) := by
  have defended : Attended (defendAddress s) := by
    unfold defendAddress; split
    · exact loadNotice_attended _ h
    · exact loadNotice_attended _ h
  unfold ownAddress; split
  · next hst => exact enterDuplicate_attended h (by rw [hst]; decide)
  · next hst => exact enterDuplicate_attended h (by rw [hst]; decide)
  · next hst => exact enterDuplicate_attended h (by rw [hst]; decide)
  · next hst => exact enterDuplicate_attended h (by rw [hst]; decide)
  · next hst =>
    split
    · exact defended
    · exact enterDuplicate_attended h (by rw [hst]; decide)
  all_goals exact h

end Sys2Proof.Machine

namespace Sys2Proof.Machine

/-! PROOFS. The fan, the framer and its driver (O58), third part: the Share Line, the timers, the mains and the resets, and the
settlement of O58. -/

/-! ## The Share Line -/

theorem not_silent_of_reading {s : State} (h : reading s = true) : s.framer.st ≠ .silent := by
  intro e
  simp [reading, e] at h

/-- A framer that reads turns to the frame it reads, a mark of its own going on. -/
theorem frameSeen_attended {s : State} (h : Attended s) (hreads : reading s = true) : Attended (frameSeen s) := by
  have awake := not_silent_of_reading hreads
  have still := not_sending_of_reading hreads
  have seen : Attended { s with framer := touchLine { s.framer with st := .receiving } } :=
    ⟨h.1, h.2.of_fits awake nofun (h.2.2.turned still rfl nofun nofun)⟩
  exact clearLineFree_attended seen

theorem deliver_attended (addr : Nat) (n : Notice) {s : State} (h : Attended s) : Attended (deliver addr n s) := by
  unfold deliver; dsimp only; split
  · next hreads =>
    have seen := frameSeen_attended h hreads
    refine framerRest_attended (endAttempt_attended ?_)
    split
    · exact ownAddress_attended _ seen
    · exact setTable_attended _ seen
  · exact h

theorem discardFrame_attended {s : State} (h : Attended s) : Attended (discardFrame s) := by
  unfold discardFrame; split
  · next hreads => exact framerRest_attended (endAttempt_attended (frameSeen_attended h hreads))
  · exact h

theorem idleHoldExpiry_attended {s : State} (h : Attended s) : Attended (idleHoldExpiry s) := by
  unfold idleHoldExpiry; split
  · split
    · next hst => exact beginSending_attended h (by rw [hst]; decide)
    all_goals exact h
  · exact h

/-- A framer that has lost arbitration receives, its driver released (R131). -/
theorem loseArbitration_attended (bit : Nat) {s : State} (h : Attended s) : Attended (loseArbitration bit s) := by
  unfold loseArbitration; split
  · exact h
  · next hx =>
    obtain ⟨hst, -⟩ := sending_of_attempt hx
    split
    · exact ⟨h.1, h.2.of_fits (by rw [hst]; decide) nofun (driveFits_of_released rfl)⟩
    · exact h

theorem completionAction_attended (n : Notice) {s : State} (h : Attended s) : Attended (completionAction n s) := by
  by_cases hacts : ActsOn n s.member.st
  · cases n with
    | demand => exact hacts.elim
    | presence => exact hacts.elim
    | joinAsk =>
      rw [completionAction_joinAsk hacts]
      exact setMember_attended h.1 (h.2.moved (by rw [show s.member.st = .joinAsk from hacts]; decide) (by decide))
    | joinConfirm =>
      rw [completionAction_joinConfirm hacts]
      exact enterMember_attended _ h (by rw [show s.member.st = .joinConfirm from hacts]; decide)
    | leave =>
      rw [completionAction_leave hacts]
      exact enterStandby_attended h
  · rwa [completionAction_of_not_acts hacts]

theorem loadHeldOver_attended {s : State} (h : Attended s) : Attended (loadHeldOver s) := by
  unfold loadHeldOver; split
  · exact h
  · exact loadNotice_attended _ h

theorem complete_attended (n : Notice) {s : State} (h : Attended s) : Attended (complete n s) := by
  rw [complete_eq]
  exact framerRest_attended (loadHeldOver_attended (completionAction_attended n (by exact h)))

theorem loseLine_attended {otherwise : State → State} {s : State} (h : Attended s) (ho : Attended (otherwise s)) :
    Attended (loseLine otherwise s) := by
  unfold loseLine; split
  · next hst => exact enterIsolated_attended h (by rw [hst]; decide)
  · next hst => exact enterIsolated_attended h (by rw [hst]; decide)
  · next hst => exact enterIsolated_attended h (by rw [hst]; decide)
  · next hst => exact enterIsolated_attended h (by rw [hst]; decide)
  · next hst => exact enterIsolated_attended h (by rw [hst]; decide)
  · exact enterStandby_attended h
  all_goals exact ho

theorem failAttempt_attended {s : State} (h : Attended s) : Attended (failAttempt s) := by
  unfold failAttempt; dsimp only; split
  · exact h
  · generalize hu : ({ s with
      framer := touchLine { s.framer with failures := min (s.framer.failures + 1) failureLimit } } : State) = u
    have counted : Attended u := by subst hu; exact h
    refine framerRest_attended ?_
    split
    · exact loseLine_attended counted (endAttempt_attended counted)
    · exact endAttempt_attended counted

theorem markSeen_attended (ownPulse inFrame : Bool) {s : State} (h : Attended s) :
    Attended (markSeen ownPulse inFrame s) := by
  unfold markSeen; dsimp only; split
  · next hst =>
    have awake : s.framer.st ≠ .silent := by
      rcases hst with hreads | hst
      · exact not_silent_of_reading hreads
      · rw [hst]; decide
    have released : Attended { s with framer := touchLine { s.framer with drive := none } } :=
      ⟨h.1, h.2.of_fits awake awake (driveFits_of_released rfl)⟩
    have seen := clearLineFree_attended released
    have held (own : Bool) {u : State} (hu : Attended u) : Attended (if own then u else startHold false u) := by
      split
      · exact hu
      · exact startHold_attended false hu
    refine framerRest_attended ?_
    split
    · exact endAttempt_attended (held _ seen)
    · exact held _ seen
  · exact h

theorem stuckLine_attended {s : State} (h : Attended s) : Attended (stuckLine s) := by
  unfold stuckLine; split
  · exact h
  · next hst =>
    have stuck : Attended { s with framer := framerStuck s.framer, member := { s.member with inFlight := false } } :=
      ⟨h.1, framerStuck_sound h.2 hst⟩
    exact loseLine_attended stuck (clearLineFree_attended stuck)

theorem releaseStuck_attended {s : State} (h : Attended s) : Attended (releaseStuck s) := by
  unfold releaseStuck; split
  · next hst =>
    have rests : restState s ≠ .silent := by rcases restState_cases s with e | e <;> rw [e] <;> decide
    have released := h.2.2.2 (.inr hst)
    exact ⟨h.1, h.2.of_fits (by rw [hst]; decide) rests (driveFits_of_released released)⟩
  · exact h

theorem lineFreed_attended {s : State} (h : Attended s) : Attended (lineFreed s) := by
  unfold lineFreed; dsimp only; split
  · split
    · split
      · exact h
      · exact exitIsolated_attended h
    · exact h
  · exact h

/-! ## Timers of sharing and membership -/

theorem memberPeriod_attended {s : State} (h : Attended s) : Attended (memberPeriod s) := by
  have told : Attended (cadence s) := by
    unfold cadence; split
    · split
      · exact loadNotice_attended _ h
      · exact h
    · exact loadNotice_attended _ h
  unfold memberPeriod; dsimp only; split
  · next hst =>
    split
    · exact enterJoinAsk_attended h (by rw [hst]; decide)
    · exact h
  · next hst =>
    split
    · exact enterJoinConfirm_attended h (by rw [hst]; decide)
    · exact h
  · exact told
  all_goals exact h

theorem periodExpiry_attended {s : State} (h : Attended s) : Attended (periodExpiry s) := by
  have aged : Attended (ageTable s) := reportFault_attended (by decide) _ (by exact h)
  unfold periodExpiry; split
  · exact memberPeriod_attended (compute_attended (by exact aged))
  · exact h

theorem raiseExpiry_attended {s : State} (h : Attended s) : Attended (raiseExpiry s) := by
  have computed : Attended (compute { s with share := { s.share with raiseReady := none } }) := compute_attended h
  unfold raiseExpiry; split
  · exact h
  · exact settle_attended (by exact computed)

theorem limitExpiry_attended {s : State} (h : Attended s) : Attended (limitExpiry s) := by
  unfold limitExpiry; split
  · exact compute_attended h
  · exact h

theorem dwellExpiry_attended {s : State} (h : Attended s) : Attended (dwellExpiry s) := by
  unfold dwellExpiry; dsimp only; split
  · split
    · exact exitIsolated_attended h
    · exact h
  · exact h

/-! ## Mains -/

/-- A mark is driven in no state in which the driver must be released (R136). -/
theorem requestMark_attended (dominant : Nat) {s : State} (h : Attended s) : Attended (requestMark dominant s) := by
  unfold requestMark; split
  · exact h
  · next hst =>
    rw [not_or, not_or] at hst
    obtain ⟨hsilent, hstuck, -⟩ := hst
    refine ⟨h.1, h.2.of_fits hsilent hsilent (driveFits_of_mark hsilent hstuck fun d hd => ?_)⟩
    exact Option.some.inj hd ▸ rfl

theorem sagTest_attended (dominant : Nat) {s : State} (h : Attended s) : Attended (sagTest dominant s) := by
  unfold sagTest; dsimp only; split
  · split
    · exact startHold_attended true (requestMark_attended dominant h)
    · exact h
  · exact h

theorem judgeLearning_attended {s : State} (h : Attended s) : Attended (judgeLearning s) := by
  have joined (f : Feeder) : Attended (enterJoinListen { s with feeder := f }) := enterJoinListen_attended h
  unfold judgeLearning; dsimp only; split
  · split
    · exact joined _
    · exact joined _
  · exact reportFault_attended (by decide) _ (by exact h)

theorem zeroCross_attended (since dominant : Nat) {s : State} (h : Attended s) : Attended (zeroCross since dominant s) := by
  have learnt : Attended (learnCross since s) := by
    unfold learnCross; dsimp only; split
    · split
      · exact judgeLearning_attended h
      · exact h
    · exact h
  have tested : Attended (if s.feeder.halfOpen then sagTest dominant s else s) := by
    split
    · exact sagTest_attended dominant h
    · exact h
  unfold zeroCross; split
  · split
    · exact h
    · exact learnt
    · exact tested
    · unfold lostCross; split <;> exact h
  · exact h

theorem watchdogExpiry_attended {s : State} (h : Attended s) : Attended (watchdogExpiry s) := by
  unfold watchdogExpiry; split
  · split
    · exact h
    · exact reportFault_attended (by decide) _ (by exact h)
    · exact reportFault_attended (by decide) _ (by exact h)
    · exact h
  · exact h

theorem resumeExpiry_attended {s : State} (h : Attended s) : Attended (resumeExpiry s) := by
  unfold resumeExpiry; split
  · exact reportFault_attended (by decide) _ (by exact h)
  · exact h

/-! ## Resets -/

/-- A fan that is off is watched whether FAN_STALL is held or not. -/
theorem fanSound_of_off (stall : Bool) {l : LoadOut} (hfan : l.fan = 0) (hc : l.tachConfirmed = false)
    (hw : l.tachWatchdog = none) (hd : FanDriven l) : FanSound l stall :=
  ⟨fun _ => ⟨hc, hw⟩, fun hon => absurd hfan hon, fun h => (nomatch hc.symm.trans h), hd⟩

theorem freshStart_attended (s : State) : Attended (freshStart s) :=
  settle_attended ⟨fanSound_of_off _ rfl rfl rfl ⟨rfl, rfl⟩, framerSilent_sound Framer.reset⟩

theorem powerOn_attended (p0 p1 p2 rh : Int) (s : State) : Attended (powerOn p0 p1 p2 rh s) :=
  firstReadings_attended p0 p1 p2 rh (freshStart_attended s)

theorem releaseReset_attended (p0 p1 p2 rh : Int) (s : State) : Attended (releaseReset p0 p1 p2 rh s) := by
  unfold releaseReset; split
  · exact firstReadings_attended p0 p1 p2 rh (enterJoinListen_attended (by exact freshStart_attended s))
  · exact powerOn_attended p0 p1 p2 rh s

/-! ## Every step -/

/-- In reset too the fan is watched and driven and the driver fits; there the framer is SILENT in any membership state. -/
def AttendedInReset (s : State) : Prop :=
  FanSound s.loads (s.faults.holds .fanStall) ∧ DriveFits s.framer ∧ SilentInStandby s

theorem Attended.inReset {s : State} (h : Attended s) : AttendedInReset s := ⟨h.1, h.2.2, fun _ => h.2.1⟩

theorem AttendedInReset.of_live {s : State} (h : AttendedInReset s) (hl : Live s) : Attended s := ⟨h.1, h.2.2 hl, h.2.1⟩

/-- Every command keeps fan, framer and driver. -/
theorem exec_attended {c : Instr} {s t : State} (h : AttendedInReset s) (e : exec c s = .next t) : AttendedInReset t := by
  have effect {f : State → State} {u : State} (hu : AttendedInReset u) (hf : Attended u → Attended (f u))
      (e : live f u = .next t) : AttendedInReset t :=
    kept_of_live hu (fun hl => (hf (hu.of_live hl)).inReset) e
  have onLine (l : Lines) : AttendedInReset { s with lines := l } := h
  have onPanel (p : Panel) : AttendedInReset { s with panel := p } := h
  cases c with
  | powerOnReset p0 p1 p2 rh => exact Host.Outcome.next.inj e ▸ (powerOn_attended p0 p1 p2 rh s).inReset
  | resetPinAssert =>
    obtain rfl : assertReset s = t := Host.Outcome.next.inj e
    exact ⟨fanSound_of_off _ rfl rfl rfl ⟨rfl, rfl⟩, driveFits_of_released rfl, nofun⟩
  | resetPinRelease p0 p1 p2 rh => exact Host.Outcome.next.inj e ▸ (releaseReset_attended p0 p1 p2 rh s).inReset
  | strapWindowEnd addr cap bank =>
    refine effect h (fun hk => ?_) e
    unfold strapWindowEnd; split <;> exact hk
  | keyLineChange key pressed =>
    exact effect (onPanel (onKey key (fun k => { k with raw := pressed }) s.panel))
      (f := fun u => { u with panel := onKey key (rawLevel pressed) u.panel }) (fun hk => hk) e
  | startPress sel2 sel1 sel0 => exact effect h (startPress_attended sel2 sel1 sel0) e
  | cancelPress => exact effect h cancelPress_attended e
  | powerPress => exact effect h powerPress_attended e
  | keyRelease key =>
    refine effect h (fun hk => ?_) e
    unfold keyRelease; split <;> exact hk
  | longPress =>
    refine effect h (fun hk => ?_) e
    unfold longPress; dsimp only; split
    · split <;> exact hk
    · exact hk
  | historyDisplayStep =>
    refine effect h (fun hk => ?_) e
    unfold displayStep; split
    · exact hk
    · split <;> exact hk
  | doorOpen => exact effect (onLine _) doorOpened_attended e
  | doorClose => exact effect (onLine _) settle_attended e
  | waterLevelChange adequate => exact effect (onLine _) waterReported_attended e
  | lockSenseChange locked => exact effect (onLine _) (lockReported_attended s.lines.locked) e
  | tachPulse => exact effect h tachPulse_attended e
  | tripLineChange active =>
    exact effect (onLine _) (f := fun u => evalOverTemp (settle u))
      (fun hk => evalOverTemp_attended (settle_attended hk)) e
  | zeroCross since dominant => exact effect h (zeroCross_attended since dominant) e
  | zeroCrossWatchdogExpiry => exact effect h watchdogExpiry_attended e
  | resumeTimerExpiry => exact effect h resumeExpiry_attended e
  | probeRound p0 p1 p2 => exact effect h (probeRound_attended p0 p1 p2) e
  | humiditySample rh => exact effect h (humidityReading_attended rh) e
  | warmUpExpiry =>
    refine effect h (fun hk => ?_) e
    unfold warmUpExpiry; split <;> exact hk
  | trackingExpiry =>
    refine effect h (fun hk => ?_) e
    unfold trackingExpiry; split <;> exact hk
  | secondTimerExpiry => exact effect h secondExpiry_attended e
  | pauseTimerExpiry => exact effect h pauseExpiry_attended e
  | cancelCoolTimerExpiry => exact effect h cancelCoolExpiry_attended e
  | sharePeriodExpiry => exact effect h periodExpiry_attended e
  | raiseReadyExpiry => exact effect h raiseExpiry_attended e
  | isolationLimitExpiry => exact effect h limitExpiry_attended e
  | isolationDwellExpiry => exact effect h dwellExpiry_attended e
  | tachWatchdogExpiry => exact effect h tachExpiry_attended e
  | lockConfirmExpiry => exact effect h lockConfirmExpiry_attended e
  | buzzerStep => exact effect (f := buzzerStep) h (fun hk => hk) e
  | lampFlashToggle =>
    exact effect (f := fun u => { u with panel := { u.panel with phaseLamp := u.panel.phaseLamp.toggled } }) h
      (fun hk => hk) e
  | idleHoldExpiry => exact effect h idleHoldExpiry_attended e
  | receiveDemand addr cls boost want claim draw => exact effect h (deliver_attended _ _) e
  | receivePresence addr => exact effect h (deliver_attended _ _) e
  | receiveJoinAsk addr nonce => exact effect h (deliver_attended _ _) e
  | receiveJoinConfirm addr nonce held => exact effect h (deliver_attended _ _) e
  | receiveLeave addr => exact effect h (deliver_attended _ _) e
  | frameDiscarded => exact effect h discardFrame_attended e
  | arbitrationLost bit => exact effect h (loseArbitration_attended bit) e
  | noticeCompletion =>
    unfold exec execNoticeCompletion at e
    refine effect h (fun hk => ?_) e
    split
    · exact hk
    · exact complete_attended _ hk
  | attemptFailed => exact effect h failAttempt_attended e
  | shedMarkSeen ownPulse inFrame => exact effect h (markSeen_attended ownPulse inFrame) e
  | lineStuck => exact effect h stuckLine_attended e
  | lineStuckRelease => exact effect h releaseStuck_attended e
  | lineFreed => exact effect h lineFreed_attended e
  | amplitudeSenseReading steps => exact effect (f := amplitudeReading steps.val) h (fun hk => hk) e

/-- What the framer reads leaves its driver as it was, or has it drive the next pulse of the frame being sent (R130). -/
theorem DriveFits.reads {f g : Framer} (hr : FramerReads f g) (h : DriveFits f) : DriveFits g := by
  obtain rfl | rfl | ⟨x, hs, -, rfl⟩ | ⟨hs, rfl⟩ | ⟨r, b, -, -, rfl⟩ := hr
  · exact h
  · exact h
  · refine ⟨fun d hd => .inr ⟨hs, hd⟩, fun hst => ?_⟩
    rcases hst with e | e <;> cases hs.symm.trans e
  · have still : f.st ≠ .sending := by rcases hs with e | e | e <;> rw [e] <;> decide
    exact h.turned still rfl nofun nofun
  · exact h

/-- Settles O58: the outputs turn the watchdog on and off with the fan, and it is stopped only with FAN_STALL raised; the framer falls
SILENT where STANDBY is entered and listens where it is left; and a frame's driver is released with the frame. -/
theorem stepKeepsFanAndSilence : Obligations.StepKeepsFanAndSilence := by
  intro s t hwatched hdriven hsilent hdrives e
  have h : AttendedInReset s := ⟨(fanSound_iff s).2 ⟨hwatched, hdriven⟩, hdrives, hsilent⟩
  have kept : AttendedInReset t := by
    unfold step at e
    split at e
    · next c rest _ => exact exec_attended (s := { s with pending := rest }) h e
    · obtain rfl : idle s = t := Host.Outcome.next.inj e
      obtain ⟨hsame, hreads, -⟩ := reads_idle s
      have fits := h.2.1.reads hreads
      have silent : SilentInStandby { s with framer := (idle s).framer } := fun hl => hreads.silent.trans (hsilent hl)
      rw [hsame]
      exact ⟨h.1, fits, silent⟩
  obtain ⟨hfan, hfits, hquiet⟩ := kept
  obtain ⟨hwatched', hdriven'⟩ := (fanSound_iff t).1 hfan
  exact ⟨hwatched', hdriven', hquiet, hfits⟩

end Sys2Proof.Machine

namespace Sys2Proof.Machine

/-! PROOFS. The notice cadence of a member (O34): what the Membership Controller finds at an own period expiry, and what each of the
three forms of the cadence does (R80, R104, R105, R107, R109, R110). -/

section
variable {s t u : State}

/-! ## What the Membership Controller finds -/

/-- What the aging, the hold and the computation leave to the Membership Controller: membership, framer, raise-ready timer and
requests as they stood (R80). -/
structure AtPeriod (s u : State) : Prop where
  member : u.member = s.member
  framer : u.framer = s.framer
  raiseReady : u.share.raiseReady = s.share.raiseReady
  request : u.request = s.request
  straps : u.straps = s.straps
  lowered : s.member.st = .member → u.share.allowance ≤ s.share.allowance
  frame : LineFrame s u

theorem ageTable_keepsSharing (hl : Live s) (ho : FaultsOrdered s.faults) (hr : RequestFresh s) (hw : LockWatched s) :
    KeepsSharing { s with table := s.table.map Entry.aged } (ageTable s) :=
  reportFault_keepsSharing_of_classC rfl _ hl ho hr hw

theorem atPeriod_compute_periodRun (hl : Live s) (ho : FaultsOrdered s.faults) (hr : RequestFresh s) (hw : LockWatched s) :
    AtPeriod s (compute (periodRun s)) := by
  have haged := ageTable_keepsSharing hl ho hr hw
  have hmember : (periodRun s).member = s.member := haged.member
  have hframe : LineFrame s (periodRun s) := (periodPassed_periodRun hl ho hr hw).frame
  have hshare : (ageTable s).share = s.share := haged.share
  obtain ⟨hraise, hallowance⟩ := decreaseHold_keeps s.share
  obtain ⟨⟨hstraps, -⟩, -, -, -, -, hrequest, -⟩ := id hframe
  refine ⟨(compute_member _).trans hmember, (compute_framer _).trans haged.framer, ?_, (compute_request _).trans hrequest,
    (compute_straps _).trans hstraps, fun hm => ?_, hframe.trans (compute_lineFrame _)⟩
  · rw [compute_share_raiseReady]
    exact (congrArg (fun l => (decreaseHold l).raiseReady) hshare).trans hraise
  · refine (compute_allowance_le_of_member (by rw [hmember]; exact hm)).trans_eq ?_
    exact (congrArg (fun l => (decreaseHold l).allowance) hshare).trans hallowance

theorem AtPeriod.slotFits (h : AtPeriod s u) (hs : SlotFits s) : SlotFits u := by
  unfold SlotFits
  rw [h.member, h.framer]
  exact hs

/-- An own period expiry ends at the Membership Controller. -/
theorem periodExpiry_of_running (hperiod : s.share.period.isSome = true) :
    periodExpiry s = memberPeriod (compute (periodRun s)) := by
  unfold periodExpiry; rw [if_pos hperiod]; rfl

/-! ## The forms of the cadence -/

/-- The state with its presence count set. -/
def withPresence (n : Nat) (s : State) : State := { s with member := { s.member with presence := n } }

theorem withPresence_cabinetFrame (n : Nat) (s : State) : CabinetFrame s (withPresence n s) :=
  ⟨.refl s, rfl, rfl, rfl, .refl s, .refl s, rfl, rfl, rfl⟩

theorem withPresence_lineFrame (n : Nat) (s : State) : LineFrame s (withPresence n s) := .refl s

theorem memberPeriod_of_member (hm : s.member.st = .member) : memberPeriod s = cadence s := by
  unfold memberPeriod; rw [hm]

/-- An active expiry loads a DEMAND (R109). -/
theorem cadence_of_active (h : quiet s = false) : cadence s = loadNotice .demand (withPresence 7 s) := by
  unfold cadence; rw [h]; rfl

/-- A quiet expiry before the eighth counts (R109). -/
theorem cadence_of_early (h : quiet s = true) (hp : s.member.presence < 7) :
    cadence s = withPresence (s.member.presence + 1) s := by
  have hcount : ¬ presencePeriods ≤ s.member.presence + 1 := by unfold presencePeriods; omega
  unfold cadence; rw [if_pos h, if_neg hcount]; rfl

/-- The eighth quiet expiry loads a PRESENCE (R109). -/
theorem cadence_of_due (h : quiet s = true) (hp : 7 ≤ s.member.presence) :
    cadence s = loadNotice .presence (withPresence 0 s) := by
  have hcount : presencePeriods ≤ s.member.presence + 1 := by unfold presencePeriods; omega
  unfold cadence; rw [if_pos h, if_pos hcount]; rfl

/-- The cadence counts, or loads a notice behind its count. -/
theorem cadence_forms (s : State) :
    (∃ n, cadence s = withPresence n s) ∨ ∃ k n, cadence s = loadNotice k (withPresence n s) := by
  cases hq : quiet s with
  | false => exact .inr ⟨_, _, cadence_of_active hq⟩
  | true =>
    rcases Nat.lt_or_ge s.member.presence 7 with hp | hp
    · exact .inl ⟨_, cadence_of_early hq hp⟩
    · exact .inr ⟨_, _, cadence_of_due hq hp⟩

theorem cadence_cabinetFrame (s : State) : CabinetFrame s (cadence s) := by
  obtain ⟨n, h⟩ | ⟨k, n, h⟩ := cadence_forms s
  · rw [h]; exact withPresence_cabinetFrame n s
  · rw [h]; exact (withPresence_cabinetFrame n s).trans (loadNotice_cabinetFrame k _)

theorem cadence_lineFrame (s : State) : LineFrame s (cadence s) := by
  obtain ⟨n, h⟩ | ⟨k, n, h⟩ := cadence_forms s
  · rw [h]; exact withPresence_lineFrame n s
  · rw [h]; exact (withPresence_lineFrame n s).trans (loadNotice_lineFrame k _)

/-- With nothing in flight a load is never held over (R107). -/
theorem loadNotice_heldOver_of_free {k : NoticeKind} (h : s.member.inFlight = false) :
    (loadNotice k s).member.heldOver = s.member.heldOver := by
  obtain ⟨-, -, hover⟩ := noteLoad_keeps k (slotKeeps k s.member.slot) s.member
  rw [loadNotice_of_free h, fillSlot_member_heldOver]
  exact hover

theorem cadence_heldOver_of_free (h : s.member.inFlight = false) : (cadence s).member.heldOver = s.member.heldOver := by
  obtain ⟨n, e⟩ | ⟨k, n, e⟩ := cadence_forms s
  · rw [e]; rfl
  · rw [e]; exact loadNotice_heldOver_of_free h

/-- While a notice is in flight the framer and the raise-ready timer are left alone (R107). -/
theorem cadence_keeps_of_inFlight (h : s.member.inFlight = true) :
    (cadence s).framer = s.framer ∧ (cadence s).share.raiseReady = s.share.raiseReady := by
  obtain ⟨n, e⟩ | ⟨k, n, e⟩ := cadence_forms s
  · rw [e]; exact ⟨rfl, rfl⟩
  · rw [e, loadNotice_of_inFlight (by exact h)]; exact ⟨rfl, rfl⟩

/-! ## What each form writes -/

/-- A member's DEMAND takes a free slot with the newest figures (R105, R109, R110). -/
theorem cadence_active_of_free (hs : SlotFits s) (hm : s.member.st = .member) (hq : quiet s = false)
    (hfree : s.member.inFlight = false) :
    (cadence s).member.slot = some (newestDemand (cadence s)) ∧ (cadence s).member.presence = 7 ∧
      (cadence s).member.refWant = s.request.want ∧ (cadence s).share.raiseReady = none := by
  have hkeeps : slotKeeps .demand (withPresence 7 s).member.slot = .demand := slotKeeps_demand_of_member hs hm
  rw [cadence_of_active hq, loadNotice_of_free (by exact hfree), hkeeps]
  refine ⟨fillSlot_newest .demand _, ?_, ?_, fillSlot_share_raiseReady _ _⟩
  · rw [fillSlot_member_presence]; rfl
  · rw [fillSlot_refWant]; rfl

theorem noteLoad_presence_presence (kept : NoticeKind) (m : Membership) :
    (noteLoad .presence kept m).presence = m.presence := by
  unfold noteLoad; dsimp only; split <;> rfl

/-- What a member's slot keeps when a PRESENCE falls due: a DEMAND that waits, or the PRESENCE (R104). -/
theorem slotKeeps_presence_of_member (hs : SlotFits s) (hm : s.member.st = .member) :
    slotKeeps .presence s.member.slot = .demand ∨ slotKeeps .presence s.member.slot = .presence := by
  obtain ⟨hkind, -⟩ := hs
  cases hslot : s.member.slot with
  | none => exact .inr rfl
  | some n =>
    have hk : n.kind = .demand ∨ n.kind = .presence := by simpa [hm, SlotKindFits] using hkind n hslot
    rcases hk with hk | hk <;> simp [slotKeeps, hk, NoticeKind.rank]

/-- A quiet member's PRESENCE takes the free slot unless a DEMAND waits there, and the reference want is 0 either way: set by the
PRESENCE, or by the DEMAND refreshed with a want of 0 (R105, R110). -/
theorem cadence_due_of_free (hs : SlotFits s) (hm : s.member.st = .member) (hq : quiet s = true)
    (hp : 7 ≤ s.member.presence) (hfree : s.member.inFlight = false) :
    (cadence s).member.presence = 0 ∧ (cadence s).member.refWant = 0 ∧ (cadence s).share.raiseReady = none ∧
      (cadence s).member.slot = some (presenceOver s.member.slot (cadence s)) := by
  obtain ⟨hwant, -, -⟩ := (quiet_iff s).1 hq
  rw [cadence_of_due hq hp, loadNotice_of_free (by exact hfree)]
  refine ⟨?_, ?_, fillSlot_share_raiseReady _ _, ?_⟩
  · rw [fillSlot_member_presence]
    exact noteLoad_presence_presence _ _
  · rw [fillSlot_refWant]
    rcases slotKeeps_presence_of_member (s := withPresence 0 s) hs hm with hkept | hkept
    · rw [hkept, if_pos rfl]; exact hwant
    · rw [hkept]; rfl
  · rw [fillSlot_newest]
    exact congrArg some (formNotice_slotKeeps_presence (s := withPresence 0 s) hs hm _)

/-- Behind a notice in flight the DEMAND is held over (R107). -/
theorem cadence_active_of_inFlight (hs : SlotFits s) (hm : s.member.st = .member) (hq : quiet s = false)
    (hfly : s.member.inFlight = true) :
    (cadence s).member = { s.member with heldOver := some .demand, presence := 7 } := by
  rw [cadence_of_active hq, loadNotice_demand_of_inFlight (s := withPresence 7 s) hs hm hfly]; rfl

/-- Behind a notice in flight the PRESENCE is held over, unless a DEMAND is (R107). -/
theorem cadence_due_of_inFlight (hs : SlotFits s) (hm : s.member.st = .member) (hq : quiet s = true)
    (hp : 7 ≤ s.member.presence) (hfly : s.member.inFlight = true) :
    (cadence s).member =
      { s.member with
        heldOver := some (if s.member.heldOver = some .demand then .demand else .presence), presence := 0 } := by
  have hover : holdOver .presence s.member.heldOver = some (if s.member.heldOver = some .demand then .demand else .presence) := by
    rw [holdOver_presence _ hs hm rfl]; split <;> rfl
  rw [cadence_of_due hq hp, loadNotice_of_inFlight (by exact hfly), ← hover]; rfl

end

/-- Settles O34: the controller speaks from the membership it finds, by the three forms of the cadence. -/
theorem memberSpeaksAtPeriod : Obligations.MemberSpeaksAtPeriod := by
  intro s hl hperiod hm hs ho hr hw
  have hat := atPeriod_compute_periodRun hl ho hr hw
  have hexpiry := periodExpiry_of_running hperiod
  generalize compute (periodRun s) = u at hat hexpiry
  have hmember := hat.member
  have hum : u.member.st = .member := by rw [hmember]; exact hm
  have hus := hat.slotFits hs
  have active : 0 < s.request.want ∨ 0 < s.member.lastClaim → quiet u = false := fun h => by
    refine not_quiet ?_
    rw [hat.request, hmember]
    exact h.imp id .inr
  have silent : s.request.want = 0 → s.share.allowance = 0 → s.member.lastClaim = 0 → quiet u = true :=
    fun hwant hallowance hclaim => by
      rw [quiet_iff, hat.request, hmember]
      exact ⟨hwant, Nat.le_zero.1 ((hat.lowered hm).trans hallowance.le), hclaim⟩
  obtain ⟨-, -, -, hstanding, -, -, hfailures, -⟩ := cadence_cabinetFrame u
  rw [memberPeriod_of_member hum] at hexpiry
  refine ⟨_, (live_of_live hl periodExpiry).trans (congrArg _ hexpiry), ?_, fun hfree => ⟨fun hactive => ?_,
    fun hwant hallowance hclaim => ⟨fun hp => ?_, fun hp => ?_⟩, ?_⟩, fun hfly => ⟨fun hactive => ?_,
    fun hwant hallowance hclaim => ?_, ?_⟩, by rw [hfailures, hat.framer], ?_, hat.frame.trans (cadence_lineFrame u)⟩
  · obtain ⟨hst, -⟩ := (keepsStanding_iff _ _).1 hstanding
    rw [hst, hum]
  · rw [← hat.request]
    exact cadence_active_of_free hus hum (active hactive) (by rw [hmember]; exact hfree)
  · rw [cadence_of_early (silent hwant hallowance hclaim) (by rw [hmember]; exact hp), ← hmember]
    exact ⟨rfl, rfl, rfl⟩
  · rw [← hmember] at hp hfree ⊢
    exact cadence_due_of_free hus hum (silent hwant hallowance hclaim) hp hfree
  · rw [← hmember] at hfree ⊢
    exact cadence_heldOver_of_free hfree
  · rw [← hmember] at hfly ⊢
    exact cadence_active_of_inFlight hus hum (active hactive) hfly
  · have hq := silent hwant hallowance hclaim
    rw [← hmember] at hfly ⊢
    split
    · next hp => rw [cadence_of_early hq hp]; rfl
    · next hp => exact cadence_due_of_inFlight hus hum hq (Nat.le_of_not_lt hp) hfly
  · rw [← hat.framer, ← hat.raiseReady]
    exact cadence_keeps_of_inFlight (by rw [hmember]; exact hfly)
  · unfold KeepsStanding at hstanding ⊢
    rw [← hmember]; exact hstanding

end Sys2Proof.Machine

namespace Sys2Proof.Machine

/-! PROOFS. The joining states at an own period expiry (O35): the count, and the JOIN-ASK and the JOIN-CONFIRM that the second expiry
loads into an empty slot (R89, R91, R104, R111, R112, R113, R129). -/

section
variable {s u : State}

/-! ## The grant of a joining station -/

/-- In JOIN_HOLD and JOIN_CONFIRM the grant is the want within the isolated allowance, under a shed hold or not (R88, R89). -/
theorem grantOf_of_held (h : s.member.st = .joinHold ∨ s.member.st = .joinConfirm) :
    grantOf s = min s.request.want s.straps.aIso := by
  rcases h with h | h <;> simp [grantOf, baseGrant, h]

/-- Outside MEMBER the allowance takes the grant (R91). -/
theorem compute_allowance_of_outside (h : s.member.st ≠ .member) : (compute s).share.allowance = (compute s).share.grant := by
  rw [compute_share_allowance, if_neg h, compute_share_grant]

theorem fillSlot_allowance_of_outside {k : NoticeKind} (h : s.member.st ≠ .member) :
    (fillSlot k s).share.allowance = (fillSlot k s).share.grant := by
  unfold fillSlot; dsimp only
  rw [handFramer_share]
  exact compute_allowance_of_outside h

/-- The grant of a joining station that has nothing, or the isolated allowance at most, rests on neither table nor hold. -/
theorem AtPeriod.grantOf_eq (h : AtPeriod s u) (hm : s.member.st = .joinListen ∨ s.member.st = .joinHold) :
    grantOf u = grantOf s := by
  have hst : u.member.st = s.member.st := congrArg Membership.st h.member
  obtain hm | hm := hm
  · rw [grantOf_of_powerless (.inl (hst.trans hm)), grantOf_of_powerless (.inl hm)]
  · rw [grantOf_of_held (.inl (hst.trans hm)), grantOf_of_held (.inl hm), h.request, h.straps]

/-! ## A load into an empty slot -/

/-- In a state that sends nothing the slot is empty, with nothing in flight or held over. -/
theorem SlotFits.empty (hs : SlotFits s) (hm : SendsNothing s.member.st) :
    s.member.slot = none ∧ s.member.inFlight = false ∧ s.member.heldOver = none := by
  obtain ⟨hkinds, hflying, hheld, -⟩ := hs
  have empty : s.member.slot = none := by
    refine Option.eq_none_iff_forall_ne_some.2 fun n hn => ?_
    have hfits := hkinds n hn
    rcases hm with e | e | e | e | e <;> simp [e, SlotKindFits] at hfits
  have free : s.member.inFlight = false := by
    by_contra hflies
    simpa [empty] using hflying (by simpa using hflies)
  refine ⟨empty, free, Option.eq_none_iff_forall_ne_some.2 fun k hk => ?_⟩
  exact absurd (free.symm.trans (hheld k hk).1) (by decide)

theorem loadNotice_of_empty {k : NoticeKind} (hslot : s.member.slot = none) (hfree : s.member.inFlight = false) :
    loadNotice k s = fillSlot k { s with member := noteLoad k k s.member } := by
  rw [loadNotice_of_free hfree, hslot]; rfl

/-- A listening framer that drives nothing sends the notice handed to it at once where the idle hold has run, and waits for that
hold elsewhere (R129). -/
theorem fillSlot_framer_st_of_listen {k : NoticeKind} (hst : s.framer.st = .listen) (hdrive : s.framer.drive = none) :
    (fillSlot k s).framer.st = if s.framer.holdDone then .sending else .waiting := by
  cases hdone : s.framer.holdDone <;> simp [fillSlot, handFramer, beginSending, hst, hdrive, hdone]

/-! ## The count and the two entries -/

/-- The first own period in a joining state is counted (R111, R112). -/
theorem memberPeriod_of_first (hm : s.member.st = .joinListen ∨ s.member.st = .joinHold) (hp : s.member.periodCount = 0) :
    memberPeriod s = { s with member := { s.member with periodCount := 1 } } := by
  rcases hm with hm | hm <;> simp [memberPeriod, hm, hp, joinPeriods]

/-- The membership at the entry to JOIN_ASK from the second own period: a nonce taken, and kept as the station's (R112). -/
def askingWith (nonce : Fin 256) (m : Membership) : Membership :=
  { m with st := .joinAsk, periodCount := 2, nonceCounter := nonce, joinNonce := some nonce }

/-- The second own period in JOIN_LISTEN loads the JOIN-ASK of a fresh nonce, whatever that nonce is (R112, log entry 5). -/
theorem memberPeriod_of_listened (hm : s.member.st = .joinListen) (hp : s.member.periodCount = 1) :
    ∃ nonce v, memberPeriod s = loadNotice .joinAsk v ∧ v.member = askingWith nonce s.member ∧ v.framer = s.framer ∧
      v.request = s.request := by
  have hentry : memberPeriod s = enterJoinAsk { s with member := { s.member with periodCount := 2 } } := by
    simp [memberPeriod, hm, hp, joinPeriods]
  refine ⟨Config.freeNonce s.nonceReads, _, hentry, ?_, ?_, ?_⟩
  · rw [setMember_member]; rfl
  · rw [setMember_framer]
  · simp [setMember]

/-- The second own period in JOIN_HOLD loads the JOIN-CONFIRM (R112, R113). -/
theorem memberPeriod_of_heldOut (hm : s.member.st = .joinHold) (hp : s.member.periodCount = 1) :
    ∃ v, memberPeriod s = loadNotice .joinConfirm v ∧
      v.member = { s.member with st := .joinConfirm, periodCount := 2 } ∧ v.request = s.request ∧ v.straps = s.straps := by
  have hentry : memberPeriod s = enterJoinConfirm { s with member := { s.member with periodCount := 2 } } := by
    simp [memberPeriod, hm, hp, joinPeriods]
  refine ⟨_, hentry, ?_, ?_, ?_⟩
  · rw [setMember_member]
  · simp [setMember]
  · simp [setMember]

end

/-- Settles O35: the count and the two entries, from the membership the controller finds. -/
theorem joiningCountsPeriods : Obligations.JoiningCountsPeriods := by
  intro s hl hperiod hs ho hr hw
  have hat := atPeriod_compute_periodRun hl ho hr hw
  have hgrant : (compute (periodRun s)).share.grant = grantOf (compute (periodRun s)) := (compute_computed (periodRun s)).1
  have houtside : (compute (periodRun s)).member.st ≠ .member →
      (compute (periodRun s)).share.allowance = (compute (periodRun s)).share.grant := fun h =>
    compute_allowance_of_outside (by simpa using h)
  have hexpiry : exec .sharePeriodExpiry s = .next (memberPeriod (compute (periodRun s))) :=
    (live_of_live hl periodExpiry).trans (congrArg _ (periodExpiry_of_running hperiod))
  generalize compute (periodRun s) = u at hat hgrant houtside hexpiry
  have hst : u.member.st = s.member.st := congrArg Membership.st hat.member
  have hcount : u.member.periodCount = s.member.periodCount := congrArg Membership.periodCount hat.member
  refine ⟨fun hm hp => ⟨_, hexpiry, ?_⟩, fun hm hp => ⟨_, hexpiry, ?_⟩, fun hm hp => ⟨_, hexpiry, ?_⟩⟩
  · rw [memberPeriod_of_first (by rwa [hst]) (hcount.trans hp), hat.member]
    exact ⟨rfl, hat.framer, hgrant.trans (hat.grantOf_eq hm), houtside (by rcases hm with e | e <;> rw [hst, e] <;> decide)⟩
  · obtain ⟨nonce, v, hload, hmember, hframer, hrequest⟩ := memberPeriod_of_listened (hst.trans hm) (hcount.trans hp)
    obtain ⟨hslot, hfree, hheld⟩ := hs.empty (.inl hm)
    rw [hat.member] at hmember
    rw [hat.framer] at hframer
    have hasks : v.member.st = .joinAsk := congrArg Membership.st hmember
    have hnonce : (fillSlot .joinAsk v).member.joinNonce = some nonce :=
      (fillSlot_member_joinNonce _ v).trans (congrArg Membership.joinNonce hmember)
    have hfill : loadNotice .joinAsk v = fillSlot .joinAsk v :=
      loadNotice_of_empty (by rw [hmember]; exact hslot) (by rw [hmember]; exact hfree)
    have hpowerless : Powerless v.member.st := .inr (.inl hasks)
    rw [hload, hfill]
    refine ⟨(fillSlot_member_st _ v).trans hasks, by rw [hnonce]; rfl, ?_, ?_, fillSlot_powerless hpowerless,
      (fillSlot_grant _ v).trans (grantOf_of_powerless hpowerless), fun hlisten hdrive => ?_, ?_⟩
    · rw [fillSlot_newest, hnonce]
      exact congrArg (fun n : Option (Fin 256) => some (Notice.joinAsk (n.getD 0))) hnonce
    · rw [fillSlot_member_heldOver, hmember]; exact hheld
    · rw [← hframer] at hlisten hdrive ⊢
      exact fillSlot_framer_st_of_listen hlisten hdrive
    · rw [fillSlot_request, hrequest, hat.request]
  · obtain ⟨v, hload, hmember, hrequest, hstraps⟩ := memberPeriod_of_heldOut (hst.trans hm) (hcount.trans hp)
    obtain ⟨hslot, hfree, -⟩ := hs.empty (.inr (.inl hm))
    rw [hat.member] at hmember
    have hconfirms : v.member.st = .joinConfirm := by rw [hmember]
    have hnonce : (fillSlot .joinConfirm v).member.joinNonce = s.member.joinNonce := by
      rw [fillSlot_member_joinNonce, hmember]
    have hfill : loadNotice .joinConfirm v = fillSlot .joinConfirm v :=
      loadNotice_of_empty (by rw [hmember]; exact hslot) (by rw [hmember]; exact hfree)
    have hshare : (fillSlot .joinConfirm v).share.allowance = min v.request.want v.straps.aIso := by
      rw [fillSlot_allowance_of_outside (by rw [hconfirms]; decide), fillSlot_grant, grantOf_of_held (.inr hconfirms)]
    rw [hload, hfill]
    refine ⟨(fillSlot_member_st _ v).trans hconfirms, hnonce, ?_, ?_, ?_⟩
    · rw [fillSlot_newest, ← hnonce]; rfl
    · rw [hshare, hrequest, hstraps, hat.request, hat.straps]
    · rw [fillSlot_request, hrequest, hat.request]

end Sys2Proof.Machine

namespace Sys2Proof.Machine

/-! PROOFS. Failed attempts and a stuck line (O47). Both end at one of three: the notice kept for another attempt, the entry to
ISOLATED, or the way out through STANDBY (R104, R107, R118, R119, R132, R134, R135). -/

section
variable {s : State}

/-! ## The entry to ISOLATED -/

/-- The station is isolated: its slot emptied, its dwell begun and LINE_ISOLATED held, with the power of R97 (R89, R97, R119). -/
structure Isolated (s t : State) : Prop where
  member : t.member =
    { (emptySlot s).member with st := .isolated, joinNonce := none, dwell := some 5000, lineFree := false }
  framer : t.framer = (emptySlot s).framer
  raiseReady : s.member.st = .member → t.share.raiseReady = none
  allowance : t.share.allowance = t.share.grant
  limited : ∀ l, s.share.limit = some l → t.share.allowance ≤ l
  capped : t.share.allowance ≤ s.straps.aIso
  held : t.faults.holds .lineIsolated = true
  table : t.table = s.table
  shedding : KeepsShedding s t
  frame : LineFrame s t

/-- In ISOLATED the grant is within the isolation limit (R97). -/
theorem grantOf_le_limit {l : Nat} (hm : s.member.st = .isolated) (hl : s.share.limit = some l) : grantOf s ≤ l := by
  have hbase : baseGrant s ≤ l := by simp [baseGrant, hm, hl]
  unfold grantOf; split <;> omega

theorem setMember_allowance {m : MemberState} (hm : m ≠ .member) (s : State) :
    (setMember m s).share.allowance = (setMember m s).share.grant :=
  compute_allowance_of_outside hm

/-- Under a new membership state the grant is the one that the state reads. -/
theorem setMember_computed (m : MemberState) (s : State) : (setMember m s).share.grant = grantOf (setMember m s) :=
  (compute_computed _).1

theorem enterIsolated_isolated (hf : CabinetFresh s) (ho : FaultsOrdered s.faults) : Isolated s (enterIsolated s) := by
  obtain ⟨hl, hr, hw⟩ := hf
  unfold enterIsolated; dsimp only
  generalize hv : ({ emptySlot s with
    member := { (emptySlot s).member with joinNonce := none, dwell := some isolationDwellMs, lineFree := false } } : State) = v
  have live : Live v := by subst hv; exact hl
  have fresh : RequestFresh v := by subst hv; exact hr
  have watched : LockWatched v := by subst hv; exact hw
  have ordered : FaultsOrdered v.faults := by subst hv; exact ho
  have emptied : LineFrame s v := by subst hv; exact .refl s
  have shed : KeepsShedding s v := by subst hv; exact .refl s
  obtain ⟨reportFrame, held⟩ := reportFault_lineFrame_of_classC (k := .lineIsolated) rfl true live ordered (fresh live) watched
  obtain ⟨member, framer, share, table⟩ := reportFault_isolated_keepsSharing live fresh watched
  generalize reportFault .lineIsolated true v = w at *
  obtain ⟨-, ktable, -, kshed, -, kmember, kframer⟩ := setMember_frame .isolated w
  have isolated : (setMember .isolated w).member.st = .isolated := setMember_st _ _
  have frame : LineFrame s (setMember .isolated w) := (emptied.trans reportFrame).trans (setMember_lineFrame _ _)
  obtain ⟨⟨hstraps, -⟩, -⟩ := id frame
  have shedding : KeepsShedding s (setMember .isolated w) := by
    unfold KeepsShedding at kshed
    rw [share] at kshed
    exact shed.trans kshed
  obtain ⟨-, -, -, hlimit, -⟩ := id shedding
  have allowance := setMember_allowance (m := .isolated) (by decide) w
  have computed := setMember_computed .isolated w
  refine
    { member := by rw [kmember, member, ← hv]; rfl
      framer := by rw [kframer, framer, ← hv]
      raiseReady := fun hm => ?_
      allowance
      limited := fun l hs => ?_
      capped := ?_
      held := by rw [show (setMember .isolated w).faults = w.faults from compute_faults _]; exact held
      table := by rw [ktable, table, ← hv]; rfl
      shedding
      frame }
  · have was : w.member.st = .member := by rw [member, ← hv]; exact hm
    rw [setMember_raiseReady, if_pos ⟨was, nofun⟩]
  · rw [allowance, computed]
    exact grantOf_le_limit isolated (hlimit.trans hs)
  · rw [allowance, computed, ← hstraps]
    exact grantOf_le_iso_of_not_member (by rw [isolated]; decide)

/-! ## The way out through STANDBY -/

/-- The way out clears the Peer Table, and LINE_ISOLATED stands as it did (R62, R74, R118). -/
theorem enterStandby_lineIsolated (hf : CabinetFresh s) (ho : FaultsOrdered s.faults) :
    (enterStandby s).faults.holds .lineIsolated = s.faults.holds .lineIsolated := by
  have same : (setMember .standby (standingDown s)).faults = s.faults := compute_faults _
  have fresh : CabinetFresh (setMember .standby (standingDown s)) := compute_cabinetFresh (by exact hf)
  obtain ⟨hl, hr, hw⟩ := fresh
  have cleared := tableSet_setTable emptyTable hl (by rw [same]; exact ho) hr hw
  have stood : (stoodBy s).faults.holds .lineIsolated = s.faults.holds .lineIsolated :=
    (cleared.others .lineIsolated (by decide) (by decide) (by decide)).trans (by rw [same])
  rw [enterStandby_eq]; split
  · rw [enterJoinListen_faults]; exact stood
  · exact stood

/-- What leaving on a lost line comes to (R118). -/
structure LeftOnLoss (s t : State) : Prop where
  left : LeftFor s t
  failures : t.framer.failures = if s.member.returnMark then 0 else s.framer.failures
  claim : t.member.lastClaim = s.member.lastClaim
  isolated : t.faults.holds .lineIsolated = s.faults.holds .lineIsolated
  frame : LineFrame s t

theorem enterStandby_leftOnLoss (hf : CabinetFresh s) (ho : FaultsOrdered s.faults) : LeftOnLoss s (enterStandby s) := by
  obtain ⟨left, claim, failures, frame⟩ := enterStandby_leftFor hf ho
  exact { left, failures, claim, isolated := enterStandby_lineIsolated hf ho, frame }

/-- A framer that neither receives nor sends has no frame to end. -/
theorem framerRest_of_still (hreceiving : s.framer.st ≠ .receiving) (hsending : s.framer.st ≠ .sending) : framerRest s = s :=
  if_neg fun h => h.elim hreceiving hsending

/-! ## The loss of the line, by membership state -/

theorem loseLine_of_joined (otherwise : State → State)
    (h : s.member.st = .joinListen ∨ s.member.st = .joinAsk ∨ s.member.st = .joinHold ∨ s.member.st = .joinConfirm ∨
      s.member.st = .member) : loseLine otherwise s = enterIsolated s := by
  unfold loseLine
  rcases h with h | h | h | h | h <;> rw [h]

theorem loseLine_of_leaving (otherwise : State → State) (h : s.member.st = .leaving) :
    loseLine otherwise s = enterStandby s := by
  unfold loseLine; rw [h]

theorem loseLine_of_apart (otherwise : State → State) (h : s.member.st = .isolated ∨ s.member.st = .duplicate) :
    loseLine otherwise s = otherwise s := by
  unfold loseLine
  rcases h with h | h <;> rw [h]

/-! ## A failed attempt -/

/-- The framer's count of failures set, at a pulse on the line. -/
def failureCounted (n : Nat) (s : State) : State := { s with framer := touchLine { s.framer with failures := n } }

theorem exec_attemptFailed {x : Sending} (hl : Live s) (hst : s.framer.st = .sending) (hmark : s.framer.marking = false)
    (hx : s.framer.sending = some x) : exec .attemptFailed s = .next (failAttempt s) ∧ attempt s = some x := by
  refine ⟨live_of_live hl failAttempt, ?_⟩
  unfold attempt; rw [if_pos ⟨hst, hmark⟩, hx]

/-- Below the limit the notice is kept for another attempt (R132, R134). -/
theorem failAttempt_of_below {x : Sending} (h : attempt s = some x) (hn : s.framer.failures < 7) :
    failAttempt s = framerRest (endAttempt (failureCounted (s.framer.failures + 1) s)) := by
  have hcount : min (s.framer.failures + 1) failureLimit = s.framer.failures + 1 := by unfold failureLimit; omega
  have hbelow : s.framer.failures + 1 ≠ failureLimit := by unfold failureLimit; omega
  unfold failAttempt
  rw [h]
  dsimp only
  rw [hcount, if_neg hbelow]
  rfl

/-- The eighth failure in a row loses the line (R119, R134). -/
theorem failAttempt_of_limit {x : Sending} (h : attempt s = some x) (hn : s.framer.failures = 7) :
    failAttempt s = framerRest (loseLine endAttempt (failureCounted 8 s)) := by
  unfold failAttempt
  rw [h]
  dsimp only
  rw [hn]
  rfl

/-- A failure below the limit, with a notice left in the slot: the framer waits to send it again (R107, R123, R134). -/
structure AttemptKept (n : Nat) (s t : State) : Prop where
  framer : t.framer = frameOver .waiting (touchLine { s.framer with failures := n })
  table : t.table = s.table
  faults : t.faults = s.faults
  standing : KeepsStanding s t
  shedding : KeepsShedding s t
  frame : LineFrame s t

theorem attemptKept (n : Nat) (hst : s.framer.st = .sending) (hmark : s.framer.marking = false)
    (hslot : (endAttempt (failureCounted n s)).member.slot.isSome = true) :
    AttemptKept n s (framerRest (endAttempt (failureCounted n s))) := by
  have busy : (failureCounted n s).framer.st ≠ .listen := fun e => absurd (e.symm.trans hst) (by decide)
  have same := endAttempt_framer_of_busy busy
  have waits : restState (endAttempt (failureCounted n s)) = .waiting := by unfold restState; rw [if_pos hslot]
  have rest := framerRest_of_sending (s := endAttempt (failureCounted n s)) (by rw [same]; exact hst)
    (by rw [same]; exact hmark)
  obtain ⟨table, standing, shedding, frame⟩ := endFrame_keeps (failureCounted n s)
  exact
    { framer := by rw [rest, waits, same]; rfl
      table, faults := endFrame_faults _, standing, shedding
      frame := LineFrame.trans (t := failureCounted n s) (.refl s) frame }

theorem KeepsStanding.lastClaim {t : State} (h : KeepsStanding s t) : t.member.lastClaim = s.member.lastClaim := by
  unfold KeepsStanding at h; rw [h]

/-! ## A stuck line -/

/-- The framer on a stuck line, its attempt over (R135). -/
def stuckTaken (s : State) : State :=
  { s with framer := framerStuck s.framer, member := { s.member with inFlight := false } }

theorem exec_lineStuck (hl : Live s) (hst : s.framer.st ≠ .silent) :
    exec .lineStuck s = .next (loseLine clearLineFree (stuckTaken s)) := by
  refine (live_of_live hl stuckLine).trans (congrArg _ ?_)
  unfold stuckLine; rw [if_neg hst]; rfl

/-- A stuck framer keeps nothing of its frame when the slot is emptied. -/
theorem emptySlot_stuckTaken_framer (s : State) : (emptySlot (stuckTaken s)).framer = framerStuck s.framer := by
  simp [emptySlot, stuckTaken, framerStuck]

/-- Line free is cleared in ISOLATED alone. -/
theorem clearLineFree_eq (s : State) :
    clearLineFree s =
      { s with member := { s.member with lineFree := if s.member.st = .isolated then false else s.member.lineFree } } := by
  unfold clearLineFree; split <;> rfl

end

/-- Settles O47: each clause is the failure or the stuck line at its membership state. -/
theorem failureLimitAndStuckLine : Obligations.FailureLimitAndStuckLine := by
  intro x a s hl ho hr hw
  refine ⟨fun hst hmark hx hheld hslot hn => ?_, fun hst hmark hx hn hm => ?_, fun hst hm => ?_,
    fun hst hmark hx hheld hs hn => ?_, fun hst hmark hx hn hm => ?_, fun hst hm => ?_, fun hst hm => ?_, fun hst => ?_⟩
  · obtain ⟨run, hattempt⟩ := exec_attemptFailed hl hst hmark hx
    have refreshed := endAttempt_of_waiting (s := failureCounted (s.framer.failures + 1) s) hheld hslot
    have busy : MustWait (failureCounted (s.framer.failures + 1) s).framer := fun e => absurd (e.symm.trans hst) (by decide)
    have kept := attemptKept (s.framer.failures + 1) hst hmark (by rw [refreshed, fillSlot_slot]; rfl)
    have hslot' : (framerRest (endAttempt (failureCounted (s.framer.failures + 1) s))).member.slot =
        some (newestDemand (framerRest (endAttempt (failureCounted (s.framer.failures + 1) s)))) := by
      rw [refreshed]; exact framerRest_fillSlot_newest .demand _
    obtain ⟨hflight, -⟩ := endAttempt_over_of_mustWait busy
    refine ⟨_, run.trans (congrArg _ (failAttempt_of_below hattempt hn)), ?_⟩
    rw [kept.framer]
    exact ⟨rfl, rfl, rfl, rfl, hslot', by rw [framerRest_member]; exact hflight, kept.standing.st, kept.standing.lastClaim,
      kept.table, kept.faults, kept.shedding, kept.frame⟩
  · obtain ⟨run, hattempt⟩ := exec_attemptFailed hl hst hmark hx
    have isolated := enterIsolated_isolated (s := failureCounted 8 s) ⟨hl, hr, hw⟩ ho
    have joined := loseLine_of_joined (s := failureCounted 8 s) endAttempt
      (hm.elim (fun e => .inr (.inl e)) fun e => .inr (.inr (.inr e)))
    have framer : (emptySlot (failureCounted 8 s)).framer = { (failureCounted 8 s).framer.stopFrame with st := .listen } :=
      if_pos (.inr hst)
    have still : framerRest (enterIsolated (failureCounted 8 s)) = enterIsolated (failureCounted 8 s) :=
      framerRest_of_still (by rw [isolated.framer, framer]; exact nofun) (by rw [isolated.framer, framer]; exact nofun)
    refine ⟨_, run.trans (congrArg _ ((failAttempt_of_limit hattempt hn).trans (by rw [joined, still]))), ?_⟩
    rw [isolated.framer, framer, isolated.member]
    exact ⟨rfl, rfl, rfl, rfl, rfl, rfl, rfl, rfl, isolated.held, isolated.raiseReady, isolated.allowance, isolated.capped,
      isolated.table, isolated.shedding, isolated.frame⟩
  · have isolated := enterIsolated_isolated (s := stuckTaken s) ⟨hl, hr, hw⟩ ho
    refine ⟨_, (exec_lineStuck hl hst).trans (congrArg _ (loseLine_of_joined _ hm)), ?_⟩
    rw [isolated.framer, emptySlot_stuckTaken_framer, isolated.member]
    exact ⟨rfl, rfl, rfl, rfl, rfl, rfl, rfl, rfl, rfl, rfl, rfl, isolated.held, isolated.allowance, isolated.limited,
      isolated.capped, isolated.table, isolated.shedding, isolated.frame⟩
  · obtain ⟨run, hattempt⟩ := exec_attemptFailed hl hst hmark hx
    have busy : MustWait (failureCounted (s.framer.failures + 1) s).framer := fun e => absurd (e.symm.trans hst) (by decide)
    obtain ⟨k, hk⟩ := Option.isSome_iff_exists.1 hheld
    have kept := attemptKept (s.framer.failures + 1) hst hmark
      (by rw [endAttempt_of_held (k := k) (by exact hk), fillSlot_slot]; rfl)
    have loaded := (heldLoaded_of_mustWait busy hs hheld).rest
    refine ⟨_, run.trans (congrArg _ (failAttempt_of_below hattempt hn)), loaded, ?_⟩
    rw [kept.framer]
    exact ⟨rfl, rfl, rfl, rfl, kept.standing.st, kept.standing.lastClaim, kept.table, kept.faults, kept.shedding, kept.frame⟩
  · obtain ⟨run, hattempt⟩ := exec_attemptFailed hl hst hmark hx
    obtain ⟨left, failures, claim, isolated, frame⟩ :=
      enterStandby_leftOnLoss (s := failureCounted 8 s) ⟨hl, hr, hw⟩ ho
    obtain ⟨-, -, -, -, -, -, -, -, -, -, -, -, hframer, -⟩ := id left
    have still : framerRest (enterStandby (failureCounted 8 s)) = enterStandby (failureCounted 8 s) :=
      framerRest_of_still (by rw [hframer]; split <;> decide) (by rw [hframer]; split <;> decide)
    have gone := loseLine_of_leaving (s := failureCounted 8 s) endAttempt hm
    exact ⟨_, run.trans (congrArg _ ((failAttempt_of_limit hattempt hn).trans (by rw [gone, still]))), left, failures, claim,
      isolated, frame⟩
  · refine ⟨_, (exec_lineStuck hl hst).trans (congrArg _ (loseLine_of_apart _ hm)), ?_⟩
    rw [clearLineFree_eq]
    exact ⟨rfl, rfl, rfl, rfl, rfl, rfl, rfl, rfl⟩
  · obtain ⟨left, failures, claim, isolated, frame⟩ := enterStandby_leftOnLoss (s := stuckTaken s) ⟨hl, hr, hw⟩ ho
    exact ⟨_, (exec_lineStuck hl hst).trans (congrArg _ (loseLine_of_leaving _ hm)), left, failures, claim, isolated, frame⟩
  · refine (live_of_live hl releaseStuck).trans (congrArg _ ?_)
    unfold releaseStuck; rw [if_pos hst]; rfl

end Sys2Proof.Machine

namespace Sys2Proof.Machine

/-! PROOFS. Frames on the line: a frame reads back as the notice it was built from (O40), and of two sent together the lower keeps the
line (O41). Both rest on the layout of R127: kind and address stand first, and every field has its most significant bit first. -/

/-! ## Fields read back (R127) -/

/-- The first field of a row of bits reads as it was written. -/
theorem fieldAt_first (w v : Nat) (rest : List Bool) : fieldAt (bitsOf w v ++ rest) 0 w = v % 2 ^ w := by
  have h := fieldAt_append [] (bitsOf w v) rest
  rwa [bitsOf_length, valueOf_bitsOf] at h

/-- A later field reads as in the row without the first one. -/
theorem fieldAt_later {w at0 : Nat} (h : w ≤ at0) (v k : Nat) (rest : List Bool) :
    fieldAt (bitsOf w v ++ rest) at0 k = fieldAt rest (at0 - w) k := by
  have past : (bitsOf w v).drop at0 = [] := List.drop_eq_nil_of_le (by rwa [bitsOf_length])
  unfold fieldAt
  rw [List.drop_append, past, bitsOf_length, List.nil_append]

/-- Every frame begins with its kind and its address. -/
theorem frameBits_eq (addr : Nat) (n : Notice) :
    ∃ rest, frameBits addr n = bitsOf 3 n.kind.code ++ (bitsOf 4 addr ++ rest) := by
  cases n <;> simp [frameBits, frameFields, Notice.kind, NoticeKind.code]

theorem NoticeKind.code_lt (k : NoticeKind) : k.code < 8 := by cases k <;> decide

theorem fieldAt_kind (addr : Nat) (n : Notice) : fieldAt (frameBits addr n) 0 3 = n.kind.code := by
  obtain ⟨rest, h⟩ := frameBits_eq addr n
  rw [h, fieldAt_first]
  exact Nat.mod_eq_of_lt n.kind.code_lt

theorem fieldAt_address (addr : Fin 16) (n : Notice) : fieldAt (frameBits addr.val n) 3 4 = addr.val := by
  obtain ⟨rest, h⟩ := frameBits_eq addr.val n
  rw [h, fieldAt_later (le_refl 3), fieldAt_first]
  exact Nat.mod_eq_of_lt addr.isLt

/-- A number cut to a field's width makes the operand of that width that the number itself makes. -/
theorem ofNat_mod (w v : Nat) [NeZero w] : Fin.ofNat w (v % w) = Fin.ofNat w v := Fin.ext (Nat.mod_mod v w)

/-- Settles O40: length and check of a frame agree with its kind, and each of its fields reads as it was written. -/
theorem frameReadsBackWhole : Obligations.FrameReadsBackWhole := by
  intro addr n _
  have valid : frameLength (fieldAt (frameBits addr.val n) 0 3) = some (frameBits addr.val n).length ∧
      checkAgrees (frameBits addr.val n) = true :=
    ⟨by rw [fieldAt_kind]; exact frameBits_length addr.val n, checkAgrees_frameBits addr.val n⟩
  have address : Fin.ofNat 16 (fieldAt (frameBits addr.val n) 3 4) = addr := by
    rw [fieldAt_address]; exact Fin.ofNat_val_eq_self addr
  unfold decodeFrame
  dsimp only
  rw [if_pos valid, address, fieldAt_kind]
  cases n with
  | leave | presence => rfl
  | joinAsk | joinConfirm | demand =>
    simp only [Notice.kind, NoticeKind.code, noticeCommand, frameBits, frameFields, List.append_assoc, fieldAt_later,
      fieldAt_first, ofNat_mod, Nat.reduceLeDiff, Nat.reduceSub, Nat.reducePow, Fin.ofNat_val_eq_self]

/-! ## Arbitration -/

/-- Two rows of bits agree up to a bit that is 0 in the first and 1 in the second, which the first wins (R131). -/
def WinsOver (a b : List Bool) : Prop := ∃ i, a.take i = b.take i ∧ a[i]? = some false ∧ b[i]? = some true

/-- What follows the deciding bit does not matter. -/
theorem WinsOver.append {a b : List Bool} (h : WinsOver a b) (c d : List Bool) : WinsOver (a ++ c) (b ++ d) := by
  obtain ⟨i, same, zero, one⟩ := h
  obtain ⟨ha, -⟩ := List.getElem?_eq_some_iff.1 zero
  obtain ⟨hb, -⟩ := List.getElem?_eq_some_iff.1 one
  refine ⟨i, ?_, ?_, ?_⟩
  · rw [List.take_append_of_le_length ha.le, List.take_append_of_le_length hb.le, same]
  · rw [List.getElem?_append_left ha, zero]
  · rw [List.getElem?_append_left hb, one]

/-- What both send before they differ does not matter. -/
theorem WinsOver.prepend {a b : List Bool} (h : WinsOver a b) (c : List Bool) : WinsOver (c ++ a) (c ++ b) := by
  obtain ⟨i, same, zero, one⟩ := h
  exact ⟨c.length + i, by simp [List.take_append, same], by simp [List.getElem?_append, zero],
    by simp [List.getElem?_append, one]⟩

theorem valueOf_lt (bits : List Bool) : valueOf bits < 2 ^ bits.length := by
  induction bits with
  | nil => decide
  | cons b l ih =>
    rw [valueOf_cons, List.length_cons, pow_succ]
    cases b <;> simp <;> omega

/-- Of two fields of one width the lower number wins: where the first bits agree the others decide, and where they differ the
lower number has the 0. -/
theorem winsOver_of_valueOf_lt {a b : List Bool} (hlen : a.length = b.length) (h : valueOf a < valueOf b) : WinsOver a b := by
  induction a generalizing b with
  | nil => rw [List.length_eq_zero_iff.1 hlen.symm] at h; exact absurd h (lt_irrefl _)
  | cons x a ih =>
    cases b with
    | nil => exact absurd hlen (by simp)
    | cons y b =>
      have same : a.length = b.length := Nat.succ.inj hlen
      rw [valueOf_cons, valueOf_cons, same] at h
      cases x <;> cases y <;> simp only [Bool.toNat_false, Bool.toNat_true, zero_mul, one_mul, zero_add] at h
      · exact (ih same h).prepend [false]
      · exact ⟨0, rfl, rfl, rfl⟩
      · exact absurd (valueOf_lt b) (by omega)
      · exact (ih same (Nat.lt_of_add_lt_add_left h)).prepend [true]

/-- Of two numbers that fit a field the lower one wins. -/
theorem bitsOf_winsOver {w u v : Nat} (hv : v < 2 ^ w) (h : u < v) : WinsOver (bitsOf w u) (bitsOf w v) := by
  refine winsOver_of_valueOf_lt (by simp) ?_
  rwa [valueOf_bitsOf, valueOf_bitsOf, Nat.mod_eq_of_lt (h.trans hv), Nat.mod_eq_of_lt hv]

/-- Settles O41: kinds are compared first, and within one kind the addresses behind them. -/
theorem lowerFrameWinsArbitration : Obligations.LowerFrameWinsArbitration := by
  intro a b m n h
  show WinsOver (frameBits a.val m) (frameBits b.val n)
  obtain ⟨restA, hA⟩ := frameBits_eq a.val m
  obtain ⟨restB, hB⟩ := frameBits_eq b.val n
  rw [hA, hB]
  rcases h with hcode | ⟨hkind, haddr⟩
  · exact (bitsOf_winsOver n.kind.code_lt hcode).append _ _
  · rw [hkind]
    exact ((bitsOf_winsOver b.isLt haddr).append _ _).prepend _

end Sys2Proof.Machine

namespace Sys2Proof.Machine

/-! PROOFS. A waiting notice is sent, and a lost arbitration is received on (O42). -/

section
variable {s : State}

/-! ## The idle hold -/

/-- A waiting framer takes the slot's notice and drives its start pulse (R130). -/
theorem idleHoldExpiry_of_waiting {n : Notice} (hhold : s.framer.idleHold.isSome = true) (hst : s.framer.st = .waiting)
    (hslot : s.member.slot = some n) :
    idleHoldExpiry s =
      { s with
        framer :=
          touchLine
            { s.framer with
              st := .sending, sending := some ⟨n, frameBits s.straps.address n, 0⟩, drive := some .start }
        member := { s.member with inFlight := true } } := by
  unfold idleHoldExpiry beginSending
  rw [if_pos hhold, hst, hslot]

/-- A listening framer notes that the line is idle (R129). -/
theorem idleHoldExpiry_of_listen (hhold : s.framer.idleHold.isSome = true) (hst : s.framer.st = .listen) :
    idleHoldExpiry s = { s with framer := { s.framer with idleHold := none, holdDone := true } } := by
  unfold idleHoldExpiry
  rw [if_pos hhold, hst]

/-! ## Lost arbitration -/

/-- The framer on the winner's frame, its own driver released (R131). -/
def lostFramer (x : Sending) (bit : Nat) (f : Framer) : Framer :=
  touchLine
    { f with st := .receiving, reception := some (receptionAtLoss x.bits bit), sending := none, lost := true, drive := none }

theorem loseArbitration_of_one {x : Sending} {bit : Nat} (h : attempt s = some x) (hone : x.bits[bit]? = some true) :
    loseArbitration bit s = { s with framer := lostFramer x bit s.framer } := by
  unfold loseArbitration; rw [h]; exact if_pos hone

/-- A 0 bit, or none, cannot lose (log entry 1). -/
theorem loseArbitration_of_not_one {x : Sending} {bit : Nat} (h : attempt s = some x) (hone : x.bits[bit]? ≠ some true) :
    loseArbitration bit s = s := by
  unfold loseArbitration; rw [h]; exact if_neg hone

/-- Once the lost bit is the third or a later one, the winner's kind is known and with it the frame's length (R125, R131). -/
theorem receptionAtLoss_expected {bits : List Bool} {i : Nat} {b : Bool} (hbit : bits[i]? = some b) (hi : 2 ≤ i) :
    (receptionAtLoss bits i).expected = frameLength (valueOf ((bits.take i ++ [false]).take 3)) := by
  obtain ⟨hlt, -⟩ := List.getElem?_eq_some_iff.1 hbit
  have known : 3 ≤ (bits.take i ++ [false]).length := by
    rw [List.length_append, List.length_take, Nat.min_eq_left hlt.le]; exact Nat.add_le_add_right hi 1
  exact if_pos known

end

/-- Settles O42: the idle hold's expiry in WAITING and in LISTEN, and a loss on a 1 bit and on any other. -/
theorem sendingAndArbitration : Obligations.SendingAndArbitration := by
  intro n x bit s hl
  have hold : exec .idleHoldExpiry s = .next (idleHoldExpiry s) := live_of_live hl _
  have loss : exec (.arbitrationLost bit) s = .next (loseArbitration bit s) := live_of_live hl _
  refine ⟨fun hhold hst hslot => ?_, fun hhold hst => ?_, fun hst hmark hx => ⟨fun hone => ?_, fun hone => ?_⟩⟩
  · exact hold.trans (congrArg _ (idleHoldExpiry_of_waiting hhold hst hslot))
  · exact hold.trans (congrArg _ (idleHoldExpiry_of_listen hhold hst))
  · obtain ⟨-, h⟩ := exec_attemptFailed hl hst hmark hx
    exact ⟨_, loss.trans (congrArg _ (loseArbitration_of_one h hone)), rfl, rfl, rfl, rfl, rfl, rfl, rfl, rfl, rfl,
      fun hbit => receptionAtLoss_expected hone hbit⟩
  · obtain ⟨-, h⟩ := exec_attemptFailed hl hst hmark hx
    exact loss.trans (congrArg _ (loseArbitration_of_not_one h hone))

end Sys2Proof.Machine

namespace Sys2Proof.Machine

/-! PROOFS. The RESET input (O6): what its assertion releases, and what a part held in reset takes of the other commands. -/

/-- Of the state only the levels of the cabinet lines and of the raw keys may differ (log entry 4). -/
structure LevelsMoved (s t : State) : Prop where
  rest :
    t =
      { s with
        lines := t.lines
        panel := { s.panel with start := t.panel.start, cancel := t.panel.cancel, power := t.panel.power } }
  start : t.panel.start = { s.panel.start with raw := t.panel.start.raw }
  cancel : t.panel.cancel = { s.panel.cancel with raw := t.panel.cancel.raw }
  power : t.panel.power = { s.panel.power with raw := t.panel.power.raw }

theorem LevelsMoved.ofLines (s : State) (l : Lines) : LevelsMoved s { s with lines := l } := ⟨rfl, rfl, rfl, rfl⟩

theorem LevelsMoved.ofKey (s : State) (key : Key) (pressed : Bool) :
    LevelsMoved s { s with panel := onKey key (fun k => { k with raw := pressed }) s.panel } := by
  cases key <;> exact ⟨rfl, rfl, rfl, rfl⟩

/-- A command turned away in reset leaves the levels it moved, whatever its effect `v` outside reset. -/
theorem LevelsMoved.turnedAway {s u : State} (v : State) (h : LevelsMoved s u) (hr : u.inReset = true) :
    ∃ t, (.next (if u.inReset then u else v) : Host.Outcome State Fault Refusal) = .next t ∧ LevelsMoved s t :=
  ⟨u, by rw [if_pos hr], h⟩

/-- A part held in reset takes no more of a command that is no reset than the level it moves (log entry 4). -/
theorem exec_levelsMoved {c : Instr} {s : State} (hr : s.inReset = true) (hc : isReset c = false) :
    ∃ t, exec c s = .next t ∧ LevelsMoved s t := by
  cases c with
  | powerOnReset | resetPinAssert | resetPinRelease => cases hc
  | keyLineChange key pressed => exact (LevelsMoved.ofKey s key pressed).turnedAway _ hr
  | doorOpen | doorClose | waterLevelChange | lockSenseChange | tripLineChange =>
    exact (LevelsMoved.ofLines s _).turnedAway _ hr
  | _ => exact (LevelsMoved.ofLines s s.lines).turnedAway _ hr

/-- Settles O6: the assertion's effect item by item, and a part in reset by `exec_levelsMoved`. -/
theorem resetAssertReleasesOutputs : Obligations.ResetAssertReleasesOutputs := by
  intro c s
  refine ⟨⟨assertReset s, rfl, ?_⟩, fun hr hc => ?_⟩
  · simp [assertReset, loadsReleased, LoadOut.reset]
  · obtain ⟨t, run, moved⟩ := exec_levelsMoved hr hc
    exact ⟨t, run, moved.rest, moved.start, moved.cancel, moved.power⟩

end Sys2Proof.Machine

namespace Sys2Proof.Machine

/-! PROOFS. The line as the wired-OR of its drivers (O2, first part; R121, R130, R132). -/

/-! ## One interval on the line -/

/-- A pulse alone on the line shows as it is. -/
theorem shown_alone (own : Bool) (i : Interval) :
    shown own (i, []) = ⟨some (.pulse i.start (i.stop - i.start)), own, []⟩ := by
  unfold shown; split <;> rfl

theorem glitch_iff {start stop ref : Nat} : (⟨start, stop, ref⟩ : Interval).cls = .glitch ↔ stop - start < 80 :=
  classify_glitch

theorem Drive.lengthUs_ge (d : Drive) : 200 ≤ d.lengthUs := by
  rcases d with - | (- | -) | begun
  · decide
  · decide
  · decide
  · exact Nat.le_add_left_of_le (by decide)

/-- A bit is due no earlier than its slot opens. -/
theorem dueUs_bit_ge (f : Framer) (b : Bool) : slotOpensUs ≤ dueUs f (.bit b) := by
  unfold dueUs; dsimp only; split <;> decide

/-! ## The driver released -/

section
variable {f : Framer}

theorem wired_quiet_of_released (h : f.drive = none) (since : Nat) (rest : List LineObs) :
    wired f (.quiet since) rest = ⟨some (.quiet since), false, rest⟩ := by simp [wired, h]

theorem wired_pulse_of_released (h : f.drive = none) (since length : Nat) (rest : List LineObs) :
    wired f (.pulse since length) rest =
      shown false (absorb ⟨since, since + length, if classify length = .glitch then 0 else since⟩ rest) := by
  simp [wired, h]

theorem wired_alone_of_released (h : f.drive = none) (o : LineObs) : wired f o [] = ⟨some o, false, []⟩ := by
  cases o with
  | quiet since => exact wired_quiet_of_released h since []
  | pulse since length =>
    rw [wired_pulse_of_released h, absorb, shown_alone, Nat.add_sub_cancel_left]

/-- A pulse that begins after the one before it has ended is not joined with it. -/
theorem wired_apart_of_released (h : f.drive = none) {since l a : Nat} (b : Nat) (rest : List LineObs) (hl : 80 ≤ l) (ha : l < a) :
    wired f (.pulse since l) (.pulse a b :: rest) = ⟨some (.pulse since l), false, .pulse a b :: rest⟩ := by
  have long : classify l ≠ .glitch := fun e => absurd (classify_glitch.1 e) (by omega)
  rw [wired_pulse_of_released h, if_neg long, absorb, if_neg (by dsimp only; omega)]
  unfold shown
  rw [if_neg (by rw [glitch_iff]; omega), retime_self, Nat.add_sub_cancel_left]

/-- A pulse that begins before the one before it has ended makes one interval with it. -/
theorem wired_joined_of_released (h : f.drive = none) {since l a : Nat} (b : Nat) (hl : 80 ≤ l) (ha : a ≤ l) :
    wired f (.pulse since l) [.pulse a b] = ⟨some (.pulse since (max l (a + b))), false, []⟩ := by
  have long : classify l ≠ .glitch := fun e => absurd (classify_glitch.1 e) (by omega)
  rw [wired_pulse_of_released h, if_neg long, absorb, if_pos (by dsimp only; omega), absorb, shown_alone]
  dsimp only
  rw [Nat.add_assoc, Nat.add_max_add_left, Nat.add_sub_cancel_left]

/-! ## The driver driving -/

variable {d : Drive}

/-- With no other station driving, the own pulse shows at its time. -/
theorem wired_own (h : f.drive = some d) {since : Nat} (hs : dueUs f d + d.lengthUs ≤ since) :
    wired f (.quiet since) [] = ⟨some (.pulse (dueUs f d) d.lengthUs), true, [.quiet (since - dueUs f d)]⟩ := by
  have long := d.lengthUs_ge
  unfold wired
  rw [h]
  dsimp only
  rw [if_pos hs]
  unfold shown
  rw [if_neg (by rw [glitch_iff]; omega), Nat.add_sub_cancel_left]
  simp [retime]

/-- Until the own pulse has ended the line shows nothing of a silence. -/
theorem wired_own_not_ended (h : f.drive = some d) {since : Nat} (hs : since < dueUs f d + d.lengthUs) :
    wired f (.quiet since) [] = ⟨none, false, []⟩ := by
  unfold wired
  rw [h]
  exact if_neg (by dsimp only; omega)

/-- With another station driving from where the own pulse begins, the longer of the two shows. -/
theorem wired_joint (h : f.drive = some d) {since l : Nat}
    (hb : driveFrom f d ⟨since, since + l, if classify l = .glitch then 0 else since⟩ = some since) :
    wired f (.pulse since l) [] = ⟨some (.pulse since (max d.lengthUs l)), true, []⟩ := by
  unfold wired
  rw [h]
  simp only [absorb, Option.bind_some, hb, Option.map_some]
  rw [if_neg (by omega), if_neg (by omega), shown_alone]
  dsimp only
  rw [Nat.min_self, Nat.add_max_add_left, Nat.add_sub_cancel_left]

/-- Another station's pulse at the moment the own one is due finds it driven. -/
theorem driveFrom_due (f : Framer) (d : Drive) {stop ref : Nat} : driveFrom f d ⟨dueUs f d, stop, ref⟩ = some (dueUs f d) := by
  cases d with
  | start | mark => rfl
  | bit b =>
    have hopen := dueUs_bit_ge f b
    unfold driveFrom
    dsimp only
    split
    · rfl
    · rw [if_neg (by omega), Nat.min_self]

/-- Another station's edge before an own bit is due has the bit driven at once, or not at all where it comes before the slot opens. -/
theorem driveFrom_early (b : Bool) {since stop ref : Nat} (hlong : 80 ≤ stop - since) (hs : since < dueUs f (.bit b)) :
    driveFrom f (.bit b) ⟨since, stop, ref⟩ = if 800 ≤ since then some since else none := by
  unfold driveFrom
  dsimp only
  rw [if_neg (by rw [glitch_iff]; omega), Nat.min_eq_right hs.le]
  show (if since < 800 then none else some since) = _
  rcases Nat.lt_or_ge since 800 with h | h
  · rw [if_pos h, if_neg (Nat.not_le.2 h)]
  · rw [if_neg (Nat.not_lt.2 h), if_pos h]

theorem wired_early (b : Bool) (h : f.drive = some (.bit b)) {since l : Nat} (hl : 80 ≤ l) (hs : since < dueUs f (.bit b)) :
    wired f (.pulse since l) [] =
      if 800 ≤ since then ⟨some (.pulse since (max (Drive.bit b).lengthUs l)), true, []⟩
      else ⟨some (.pulse since l), false, []⟩ := by
  have early := driveFrom_early (f := f) b (stop := since + l) (ref := if classify l = .glitch then 0 else since) (by omega) hs
  split
  · next hopen => exact wired_joint h (early.trans (if_pos hopen))
  · next hopen =>
    rw [if_neg hopen] at early
    unfold wired
    rw [h]
    simp only [absorb, Option.bind_some, early, Option.map_none]
    rw [shown_alone, Nat.add_sub_cancel_left]

end

theorem lineIsWiredOr (f : Framer) : LineIsWiredOr f := by
  unfold LineIsWiredOr
  intro due length
  have hdue : due = dueUs f := by funext d; cases d <;> rfl
  have hlength : length = Drive.lengthUs := by
    funext d
    rcases d with - | (- | -) | - <;> rfl
  clear_value due length
  subst hdue hlength
  refine ⟨fun h => ⟨wired_alone_of_released h, fun since l a b rest hl =>
    ⟨fun ha => wired_apart_of_released h b rest hl ha, fun ha => wired_joined_of_released h b hl ha⟩⟩, fun d h =>
    ⟨fun since => wired_own h, fun since => wired_own_not_ended h, fun l => wired_joint h (driveFrom_due f d),
      fun since l hmark hl hs => ?_⟩⟩
  cases d with
  | start => exact absurd hs (Nat.not_lt_zero since)
  | mark => cases hmark
  | bit b => exact wired_early b h hl hs

end Sys2Proof.Machine

namespace Sys2Proof.Machine

/-! PROOFS. What a step reads on the line and reports, and that no step stops (O2, second part). -/

/-! ## No step stops -/

theorem exec_next (c : Instr) (s : State) : ∃ t, exec c s = .next t := by
  cases hc : isReset c with
  | true =>
    cases c with
    | powerOnReset | resetPinAssert | resetPinRelease => exact ⟨_, rfl⟩
    | _ => cases hc
  | false =>
    obtain ⟨f, l, p, h⟩ := exec_eq_live hc s
    exact ⟨_, h⟩

theorem step_next (s : State) : ∃ t, step s = .next t := by
  unfold step; split
  · exact exec_next _ _
  · exact ⟨_, rfl⟩

/-! ## The reading of an observation -/

/-- The state `t` is `u` with `shown` read so: what `IdleReads` says of a step, said of the state it leaves. -/
def ReadsTo (shown : LineObs) (u t : State) : Reading := fun f cmds back =>
  t = { u with framer := f, pending := cmds, line := if back then shown :: u.line else u.line }

/-- The state on which an observation is classified: an empty queue, and what is left of the observations. -/
def lineRead (rest : List LineObs) (s : State) : State := { s with pending := [], line := rest }

theorem step_observes (o : LineObs) (s : State) :
    step { s with pending := [], line := o :: s.line } = .next (observe o { s with pending := [] }) := rfl

/-- A SILENT framer reads nothing, nor does a part in reset (R123, log entry 4). -/
theorem observe_of_unread {o : LineObs} {s : State} (h : s.inReset = true ∨ s.framer.st = .silent) : observe o s = s := by
  unfold observe; exact if_pos h

theorem observe_of_live {o : LineObs} {s : State} (hl : Live s) (hst : s.framer.st ≠ .silent) :
    observe o { s with pending := [] } =
      match (wired s.framer o s.line).shows with
      | none => lineRead (wired s.framer o s.line).rest s
      | some (.pulse since length) =>
        observePulse (wired s.framer o s.line).own since length (lineRead (wired s.framer o s.line).rest s)
      | some (.quiet since) => observeQuiet since (lineRead (wired s.framer o s.line).rest s) := by
  unfold observe
  rw [if_neg (by rintro (h | h); exacts [absurd (h.symm.trans hl) (by decide), hst h])]
  rfl

theorem idleReads_eq {o shown : LineObs} {rest : List LineObs} {s t : State} (h : observe o { s with pending := [] } = t) :
    IdleReads o s shown rest = ReadsTo shown (lineRead rest s) t := by
  funext f cmds back
  unfold IdleReads
  rw [step_observes, h]
  exact propext ⟨Host.Outcome.next.inj, congrArg _⟩

section
variable {shown : LineObs} {u : State} {a b : Nat} {own : Bool} {cmds : List Instr}

theorem readsTo_framer (hp : u.pending = []) (f : Framer) : ReadsTo shown u { u with framer := f } f [] false := by
  unfold ReadsTo; rw [← hp]; rfl

theorem readsTo_same (hp : u.pending = []) : ReadsTo shown u u u.framer [] false := readsTo_framer hp u.framer

theorem readsTo_report (hp : u.pending = []) (cmds : List Instr) : ReadsTo shown u (report cmds u) u.framer cmds false := by
  unfold ReadsTo report; rw [hp]; rfl

theorem readsTo_touched (hp : u.pending = []) (cmds : List Instr) :
    ReadsTo shown u (report cmds (touched u)) (touchLine u.framer) cmds false := by
  unfold ReadsTo report touched; rw [hp]; rfl

theorem readsTo_again (hp : u.pending = []) (cmds : List Instr) :
    ReadsTo (.pulse a b) u (again a b (report cmds u)) u.framer cmds true := by
  unfold ReadsTo again report; rw [hp]; rfl

theorem readsTo_again_touched (hp : u.pending = []) (cmds : List Instr) :
    ReadsTo (.pulse a b) u (again a b (report cmds (touched u))) (touchLine u.framer) cmds true := by
  unfold ReadsTo again report touched; rw [hp]; rfl

/-! ## A pulse, before its frame is looked at -/

theorem observePulse_of_stuck (h : u.framer.st = .stuck) :
    observePulse own a b u = again a b (report [.lineStuckRelease] u) := by
  unfold observePulse; exact if_pos h

theorem observePulse_of_glitch (h : u.framer.st ≠ .stuck) (hb : b < 80) : observePulse own a b u = u := by
  unfold observePulse; rw [if_neg h, if_pos (classify_glitch.2 hb)]

section
variable (h : u.framer.st ≠ .stuck) (hb : 80 ≤ b)
include h hb

/-- A frame whose time ran out before the edge is ended first, and the pulse is read again (R126, R133). -/
theorem observePulse_of_ended {c : Instr} (he : endedBefore a u.framer = some c) :
    observePulse own a b u = again a b (report [c] u) := by
  unfold observePulse
  rw [if_neg h, if_neg (fun e => absurd (classify_glitch.1 e) (Nat.not_lt.2 hb)), he]

/-- Past that, a pulse is a stuck line, a shed mark or a pulse of a frame, by its length (R124, R135, R136). -/
theorem observePulse_of_open (he : endedBefore a u.framer = none) :
    (20000 ≤ b → observePulse own a b u = report [.lineStuck] u) ∧
      (8000 ≤ b ∧ b < 20000 →
        observePulse own a b u = report [.shedMarkSeen own (decide (u.framer.st = .receiving))] u) ∧
      (b < 8000 → observePulse own a b u = framePulse a b (classify b) u) := by
  unfold observePulse
  rw [if_neg h, if_neg (fun e => absurd (classify_glitch.1 e) (Nat.not_lt.2 hb)), he]
  refine ⟨fun hlen => ?_, fun hlen => ?_, fun hlen => ?_⟩
  · rw [classify_stuck.2 hlen]
  · rw [classify_mark.2 hlen]
  · cases hc : classify b with
    | stuck => exact absurd (classify_stuck.1 hc) (by omega)
    | mark => exact absurd (classify_mark.1 hc) (by omega)
    | glitch | one | zero | bad | start => rfl

end

/-! ## Outside any frame -/

theorem pulseOutside_reads (hp : u.pending = []) (hst : u.framer.st = .listen ∨ u.framer.st = .waiting) (hb : 80 ≤ b) :
    PulseOutside own b u.framer (ReadsTo (.pulse a b) u (observePulse own a b u)) := by
  have hstuck : u.framer.st ≠ .stuck := by rcases hst with e | e <;> rw [e] <;> decide
  have he : endedBefore a u.framer = none := by unfold endedBefore; rcases hst with e | e <;> rw [e]
  have hframe : framePulse a b (classify b) u = outsidePulse (classify b) u := by
    unfold framePulse; rcases hst with e | e <;> rw [e]
  have hnot : decide (u.framer.st = .receiving) = false := by rcases hst with e | e <;> rw [e] <;> rfl
  obtain ⟨stuck, mark, frame⟩ := observePulse_of_open (own := own) hstuck hb he
  refine ⟨fun hlen => ?_, fun hlen => ?_, fun hlen => ?_, fun hlen => ?_⟩
  · rw [frame (by omega), hframe]
    unfold outsidePulse
    rw [if_pos (classify_start.2 hlen)]
    exact readsTo_framer hp _
  · rw [frame (by omega), hframe]
    unfold outsidePulse
    rw [if_neg (fun e => absurd (classify_start.1 e) (by omega))]
    exact readsTo_touched hp _
  · rw [mark hlen, hnot]; exact readsTo_report hp _
  · rw [stuck hlen]; exact readsTo_report hp _

/-! ## In a received frame -/

theorem bitWindow_eq (n : Nat) : bitWindow n = (if n = 0 then 2800 else 800, if n = 0 then 3400 else 1400) := by
  unfold bitWindow; split <;> rfl

theorem Reception.full_iff {r : Reception} : r.full = true ↔ r.expected = some r.bits.length := decide_eq_true_iff

theorem Reception.push_eq (r : Reception) (x : Bool) :
    r.push x =
      { bits := r.bits ++ [x]
        expected := if r.bits.length = 2 then frameLength (valueOf (r.bits ++ [x])) else r.expected } := by
  simp [Reception.push]

/-- A frame in reception ends before an edge past its stop gap if it is full, and past its next bit's window if it is not (R126). -/
theorem endedBefore_of_receiving {f : Framer} {r : Reception} (hst : f.st = .receiving) (hr : f.reception = some r) :
    endedBefore a f =
      if r.expected = some r.bits.length then (if 3500 ≤ a then some (frameReport r) else none)
      else if (if r.bits.length = 0 then 3400 else 1400) < a then some .frameDiscarded
      else none := by
  unfold endedBefore
  rw [hst, hr, Option.bind_some, bitWindow_eq]
  simp only [Reception.full_iff]
  rfl

/-- A pulse within the frame discards it, unless it is a bit in its window, which is taken (R125, R126). -/
theorem receivingPulse_reads (hp : u.pending = []) (r : Reception) (c : PulseClass) :
    (c = .start → ReadsTo (.pulse a b) u (receivingPulse a b c r u) u.framer [.frameDiscarded] true) ∧
      (c ≠ .start → r.expected = some r.bits.length ∨ a < (bitWindow r.bits.length).1 ∨ c = .bad →
        ReadsTo (.pulse a b) u (receivingPulse a b c r u) (touchLine u.framer) [.frameDiscarded] false) ∧
      (c = .one ∨ c = .zero → r.expected ≠ some r.bits.length → (bitWindow r.bits.length).1 ≤ a →
        ReadsTo (.pulse a b) u (receivingPulse a b c r u)
          (touchLine { u.framer with reception := some (r.push (decide (c = .one))) }) [] false) := by
  unfold receivingPulse
  simp only [Reception.full_iff]
  refine ⟨fun hc => ?_, fun hc hout => ?_, fun hc hshort hopen => ?_⟩
  · rw [if_pos hc]; exact readsTo_again hp _
  · rw [if_neg hc, if_pos hout]; exact readsTo_touched hp _
  · have hin : ¬(r.expected = some r.bits.length ∨ a < (bitWindow r.bits.length).1 ∨ c = .bad) := by
      rintro (h | h | h)
      · exact hshort h
      · exact absurd hopen (Nat.not_le.2 h)
      · rcases hc with rfl | rfl <;> cases h
    rw [if_neg (by rcases hc with rfl | rfl <;> decide), if_neg hin]
    exact readsTo_framer hp _

theorem pulseInFrame_reads {r : Reception} (hp : u.pending = []) (hst : u.framer.st = .receiving)
    (hr : u.framer.reception = some r) (hb : 80 ≤ b) :
    PulseInFrame own a b r u.framer (ReadsTo (.pulse a b) u (observePulse own a b u)) := by
  have hstuck : u.framer.st ≠ .stuck := by rw [hst]; decide
  have hended := endedBefore_of_receiving (a := a) hst hr
  have hframe : framePulse a b (classify b) u = receivingPulse a b (classify b) r u := by
    unfold framePulse; rw [hst, hr]
  obtain ⟨again, out, bit⟩ := receivingPulse_reads (a := a) (b := b) hp r (classify b)
  rw [bitWindow_eq] at out bit
  refine ⟨fun hfull hlate => ?_, fun hshort hlate => ?_, fun hin => ?_⟩
  · rw [if_pos hfull, if_pos hlate] at hended
    rw [observePulse_of_ended hstuck hb hended]; exact readsTo_again hp _
  · rw [if_neg hshort, if_pos hlate] at hended
    rw [observePulse_of_ended hstuck hb hended]; exact readsTo_again hp _
  · have he : endedBefore a u.framer = none := by
      rw [hended]
      split at hin
      · next hfull => rw [if_pos hfull, if_neg (Nat.not_le.2 hin)]
      · next hshort => rw [if_neg hshort, if_neg (Nat.not_lt.2 hin)]
    obtain ⟨stuck, mark, frame⟩ := observePulse_of_open (own := own) hstuck hb he
    refine ⟨fun hlen => ?_, fun hlen => ?_, fun hlen => ?_, fun hlen => ?_, fun hlen hout => ?_, fun hlen hshort hopen => ?_⟩
    · rw [stuck hlen]; exact readsTo_report hp _
    · rw [mark hlen, hst]; exact readsTo_report hp _
    · rw [frame (by omega), hframe]; exact again (classify_start.2 hlen)
    · rw [frame (by omega), hframe]
      exact out (by rw [classify_bad.2 hlen]; decide) (.inr (.inr (classify_bad.2 hlen)))
    · rw [frame (by omega), hframe]
      exact out (fun e => absurd (classify_start.1 e) (by omega)) (hout.imp_right .inl)
    · have isOne : decide (classify b = .one) = decide (b < 400) :=
        decide_eq_decide.2 (classify_one.trans (and_iff_right hb))
      have isBit : classify b = .one ∨ classify b = .zero := by rw [classify_one, classify_zero]; omega
      have taken := bit isBit hshort hopen
      rw [isOne, Reception.push_eq] at taken
      rw [frame (by omega), hframe]; exact taken

/-! ## In a frame being sent -/

theorem endedBefore_of_sending {f : Framer} {x : Sending} (hst : f.st = .sending) (hx : f.sending = some x) :
    endedBefore a f = if x.bits.length < x.index ∧ 3500 ≤ a then some .noticeCompletion else none := by
  unfold endedBefore; rw [hst, hx]; rfl

/-- A pulse as driven brings the next one (R130). -/
theorem readsTo_next (hp : u.pending = []) (x : Sending) :
    ReadsTo shown u { u with framer := nextPulse x u.framer }
      (touchLine
        { u.framer with sending := some { x with index := x.index + 1 }, drive := (x.bits[x.index]?).map Drive.bit })
      [] false :=
  readsTo_framer hp (nextPulse x u.framer)

/-- The start pulse is compared with what the line shows (R130, R132). -/
theorem sendingPulse_of_start {x : Sending} (hx : x.index = 0) (c : PulseClass) :
    sendingPulse a b c x u =
      if c = .start then { u with framer := nextPulse x u.framer } else report [.attemptFailed] (touched u) := by
  unfold sendingPulse; exact if_pos hx

/-- An edge too early, or in the stop gap, fails the attempt (R132, R133). -/
theorem sendingPulse_of_misplaced {x : Sending} (hx : 0 < x.index) (h : a < 800 ∨ x.bits.length < x.index) (c : PulseClass) :
    sendingPulse a b c x u = report [.attemptFailed] (touched u) := by
  unfold sendingPulse
  dsimp only
  rw [if_neg hx.ne']
  rcases Nat.lt_or_ge a slotOpensUs with ha | ha
  · rw [if_pos ha]
  · have gap : x.bits[x.index - 1]? = none :=
      List.getElem?_eq_none_iff.2 (Nat.le_sub_one_of_lt (h.resolve_left (Nat.not_lt.2 ha)))
    rw [if_neg (Nat.not_lt.2 ha), gap]

/-- A 1 bit in its slot: short it is as driven, longer another station's 0 has won (R130, R131). -/
theorem sendingPulse_of_one {x : Sending} {k : Nat} (hx : x.index = k + 1) (ha : 800 ≤ a) (hbit : x.bits[k]? = some true)
    (c : PulseClass) :
    sendingPulse a b c x u =
      match c with
      | .one => { u with framer := nextPulse x u.framer }
      | .zero => report [.arbitrationLost k] (touched u)
      | .start => again a b (report [.arbitrationLost k, .frameDiscarded] (touched u))
      | _ => report [.arbitrationLost k, .frameDiscarded] (touched u) := by
  unfold sendingPulse
  dsimp only
  rw [hx, if_neg (Nat.succ_ne_zero k), if_neg (show ¬a < slotOpensUs from Nat.not_lt.2 ha), Nat.add_sub_cancel, hbit]
  cases c <;> rfl

/-- A 0 bit in its slot: as driven, or the attempt is in doubt (R130, R132). -/
theorem sendingPulse_of_zero {x : Sending} {k : Nat} (hx : x.index = k + 1) (ha : 800 ≤ a) (hbit : x.bits[k]? = some false)
    (c : PulseClass) :
    sendingPulse a b c x u =
      if c = .zero then { u with framer := nextPulse x u.framer } else report [.attemptFailed] (touched u) := by
  unfold sendingPulse
  dsimp only
  rw [hx, if_neg (Nat.succ_ne_zero k), if_neg (show ¬a < slotOpensUs from Nat.not_lt.2 ha), Nat.add_sub_cancel, hbit]
  cases c <;> rfl

theorem oneBit_reads {x : Sending} {k : Nat} (hp : u.pending = []) (hx : x.index = k + 1) (ha : 800 ≤ a) (hb : 80 ≤ b)
    (hlen : b < 8000) (hbit : x.bits[k]? = some true) :
    let read := ReadsTo (.pulse a b) u (sendingPulse a b (classify b) x u)
    if b < 400 then
      read
        (touchLine
          { u.framer with sending := some { x with index := x.index + 1 }, drive := (x.bits[x.index]?).map Drive.bit })
        [] false
    else if b < 900 then read (touchLine u.framer) [.arbitrationLost k] false
    else read (touchLine u.framer) [.arbitrationLost k, .frameDiscarded] (decide (1500 ≤ b ∧ b < 2500)) := by
  dsimp only
  rw [sendingPulse_of_one hx ha hbit]
  cases hc : classify b with
  | glitch => exact absurd (classify_glitch.1 hc) (by omega)
  | mark => exact absurd (classify_mark.1 hc) (by omega)
  | stuck => exact absurd (classify_stuck.1 hc) (by omega)
  | one =>
    have h := classify_one.1 hc
    rw [if_pos h.2]
    exact readsTo_next hp x
  | zero =>
    have h := classify_zero.1 hc
    rw [if_neg (by omega), if_pos h.2]
    exact readsTo_touched hp _
  | start =>
    have h := classify_start.1 hc
    rw [if_neg (by omega), if_neg (by omega), decide_eq_true h]
    exact readsTo_again_touched hp _
  | bad =>
    have h := classify_bad.1 hc
    rw [if_neg (by omega), if_neg (by omega), decide_eq_false (by omega)]
    exact readsTo_touched hp _

theorem pulseInSending_reads {x : Sending} (hp : u.pending = []) (hst : u.framer.st = .sending)
    (hx : u.framer.sending = some x) (hb : 80 ≤ b) :
    PulseInSending own a b x u.framer (ReadsTo (.pulse a b) u (observePulse own a b u)) := by
  have hstuck : u.framer.st ≠ .stuck := by rw [hst]; decide
  have hended := endedBefore_of_sending (a := a) hst hx
  have hframe : framePulse a b (classify b) u = sendingPulse a b (classify b) x u := by
    unfold framePulse; rw [hst, hx]
  refine ⟨fun hall hlate => ?_, fun hin => ?_⟩
  · rw [if_pos ⟨hall, hlate⟩] at hended
    rw [observePulse_of_ended hstuck hb hended]; exact readsTo_again hp _
  · rw [if_neg (by omega)] at hended
    obtain ⟨stuck, mark, frame⟩ := observePulse_of_open (own := own) hstuck hb hended
    refine ⟨fun hlen => ?_, fun hlen => ?_, fun hlen => ?_⟩
    · rw [stuck hlen]; exact readsTo_report hp _
    · rw [mark hlen, hst]; exact readsTo_report hp _
    · rw [frame hlen, hframe]
      refine ⟨fun hzero => ?_, fun hpos hout => ?_, fun k hk ha => ⟨fun hbit => ?_, fun hbit => ?_⟩⟩
      · rw [sendingPulse_of_start hzero]
        simp only [classify_start]
        split
        · exact readsTo_next hp x
        · exact readsTo_touched hp _
      · rw [sendingPulse_of_misplaced hpos hout]; exact readsTo_touched hp _
      · exact oneBit_reads hp hk ha hb hlen hbit
      · rw [sendingPulse_of_zero hk ha hbit]
        simp only [classify_zero]
        split
        · exact readsTo_next hp x
        · exact readsTo_touched hp _

/-! ## Any pulse, and a silence -/

theorem pulse_reads (hp : u.pending = []) : PulseReads own a b u.framer (ReadsTo (.pulse a b) u (observePulse own a b u)) := by
  refine ⟨fun h => ?_, fun h hb => ?_, fun h hb => pulseOutside_reads hp h hb, fun r h hr hb => pulseInFrame_reads hp h hr hb,
    fun x h hx hb => pulseInSending_reads hp h hx hb⟩
  · rw [observePulse_of_stuck h]; exact readsTo_again hp _
  · rw [observePulse_of_glitch h hb]; exact readsTo_same hp

theorem silence_reads (hp : u.pending = []) : SilenceReads a u.framer (ReadsTo shown u (observeQuiet a u)) := by
  have reported (p : Prop) [Decidable p] (cmds : List Instr) :
      ReadsTo shown u (if p then report cmds u else u) u.framer (if p then cmds else []) false := by
    split
    · exact readsTo_report hp _
    · exact readsTo_same hp
  unfold observeQuiet
  refine ⟨fun h => ?_, fun h => ?_, fun r h hr => ?_, fun x h hx => ?_⟩
  · rcases h with h | h <;> rw [h] <;> exact readsTo_same hp
  · rw [h]; exact readsTo_report hp _
  · rw [h, hr]
    simp only [Reception.full_iff]
    split
    · exact reported _ _
    · exact reported _ _
  · rw [h, hx]; exact reported _ _

end

/-- Settles O2: a step takes the front of the queue or reads the line; what it shows is `lineIsWiredOr`'s, and what the framer reports
is `pulse_reads`' and `silence_reads`'. -/
theorem idleStepAndNoStop : Obligations.IdleStepAndNoStop := by
  intro o s
  refine ⟨fun hp hline => ?_, step_next s, step_observes o s, fun h => ?_, lineIsWiredOr s.framer,
    fun own since length rest hl hst => ?_⟩
  · unfold step idle; rw [hp, hline]
  · rw [step_observes]; exact congrArg _ (observe_of_unread h)
  · have hobs := observe_of_live (o := o) hl hst
    refine ⟨fun hw => ?_, fun hw => ?_, fun hw => ?_⟩
    · rw [hw] at hobs
      rw [idleReads_eq hobs]; exact readsTo_same (u := lineRead rest s) rfl
    · rw [hw] at hobs
      rw [idleReads_eq hobs]; exact silence_reads (u := lineRead rest s) rfl
    · rw [hw] at hobs
      rw [idleReads_eq hobs]; exact pulse_reads (u := lineRead rest s) rfl

end Sys2Proof.Machine

namespace Sys2Proof.Machine

/-! PROOFS. Reports of MAINS_LOST: what a raise leaves in any state, ordered or not, what it leaves of the firing counts, and what a
withdraw leaves of a halted cycle (R34, R141, R143, R156, R163 to R166). -/

section
variable {s : State}

/-! ## A loss held stays held -/

/-- MAINS_LOST is held. -/
def LossHeld (s : State) : Prop := s.faults.holds .mainsLost = true

/-- A withdraw of another kind leaves a held kind held, whatever the order of the list (R166). -/
theorem withdrawFrom_holds_of_held {j k : FaultKind} (hne : j ≠ k) {f : FaultUnit} (h : f.holds j = true) :
    (withdrawFrom k f).holds j = true := by
  rw [holds_iff] at h ⊢
  unfold withdrawFrom
  split
  · next hk =>
    have hwaits : j ∈ f.waiting := h.resolve_left fun hj => hne (Option.some.inj (hj.symm.trans hk))
    split
    · next hnil => rw [hnil] at hwaits; cases hwaits
    · next x rest hcons =>
      rw [hcons, List.mem_cons] at hwaits
      exact hwaits.imp (fun e => congrArg some e.symm) id
  · exact h.imp id fun hwaits => List.mem_filter.2 ⟨hwaits, by simpa using hne⟩

theorem lossHeldUpkeep : SharingUpkeep (fun k => k ≠ .mainsLost) LossHeld where
  told := id
  congr hv h := by
    simp only [sharingView, Prod.mk.injEq] at hv
    obtain ⟨-, -, -, -, -, -, hactive, hwaiting, -⟩ := hv
    exact (holds_of_lists hactive hwaiting .mainsLost).trans h
  raised _ h := (raiseInto_holds _ _ _).2 (.inr h)
  withdrawn hk h := withdrawFrom_holds_of_held hk.symm h
  computed h := by rwa [LossHeld, compute_faults]
  loaded _ h := by
    unfold loadNotice; split
    · exact h
    · rwa [LossHeld, fillSlot_faults]

theorem lossHeld_reportFault (s : State) : LossHeld (reportFault .mainsLost true s) := by
  unfold reportFault; split
  · next hheld => exact hheld.symm
  · obtain ⟨hactive, hwaiting⟩ := raiseFault_faults .mainsLost s
    have raised : LossHeld (raiseFault .mainsLost s) :=
      (holds_of_lists hactive hwaiting .mainsLost).trans ((raiseInto_holds _ _ _).2 (.inl rfl))
    exact lossHeldUpkeep.checkLock raised

/-- A report leaves the readings in any state (R163). -/
theorem reportFault_keepsReadings (k : FaultKind) (b : Bool) (s : State) : KeepsReadings s (reportFault k b s) := by
  unfold reportFault; split
  · exact .refl s
  · split
    · exact ((beside_raiseFault k s).trans (beside_checkLock _)).readings
    · exact ((beside_withdrawCore k s).trans (beside_checkLock _)).readings

/-! ## Counts at 0 -/

/-- Neither load fires (R153). -/
def Unfired (s : State) : Prop := s.loads.heaterCount = 0 ∧ s.loads.steamCount = 0

theorem Unfired.settle (h : Unfired s) : Unfired (settle s) := by
  obtain ⟨hheater, hsteam⟩ := h
  exact ⟨by rw [settle_heaterCount, hheater, Nat.zero_min], by rw [settle_steamCount, hsteam, Nat.zero_min]⟩

theorem Unfired.handOver (h : Unfired s) : Unfired (handOver s) :=
  handOver_induction (P := Unfired) (fun _ => Unfired.settle) (fun _ _ _ _ hu => hu) h

/-- A class that reaches the cycle halts it, holds it, or only hands its requests over (R32, R34). -/
theorem cycleOnClass_forms (s : State) :
    cycleOnClass s = haltCycle s ∨ cycleOnClass s = holdCycle s ∨ cycleOnClass s = handOver s := by
  unfold cycleOnClass
  split
  · split <;> simp
  · split <;> simp
  · simp
  · simp

theorem Unfired.cycleOnClass (h : Unfired s) : Unfired (cycleOnClass s) := by
  have left : Unfired (leaveTo .halted s) := by unfold leaveTo; dsimp only; split <;> exact h
  have held : Unfired (heldPhase s) := h
  obtain e | e | e := cycleOnClass_forms s <;> rw [e]
  · exact left.handOver
  · exact held.handOver
  · exact h.handOver

theorem Unfired.raiseFault (h : Unfired s) (k : FaultKind) : Unfired (raiseFault k s) := by
  have told : Unfired (activate { s with faults := raiseInto k s.faults }) := by
    unfold activate; dsimp only; split
    · exact h
    · split <;> exact h
  unfold Machine.raiseFault; dsimp only; split
  · exact Unfired.settle h
  · exact told.cycleOnClass

/-- Once a class A fault is raised the active one is of class A (R165). -/
theorem raiseInto_activeClass_of_classA {k : FaultKind} (hk : k.cls = .a) {f : FaultUnit} (ho : FaultsOrdered f) :
    (raiseInto k f).activeClass = some .a := by
  by_contra hnone
  have hnot := holds_of_not_classA (raiseInto_ordered ho) hnone hk
  rw [(raiseInto_holds k k f).2 (.inl rfl)] at hnot
  cases hnot

/-- A class A fault raised fires no load (R155). -/
theorem Unfired.reportFault_of_classA (h : Unfired s) {k : FaultKind} (hk : k.cls = .a) (ho : FaultsOrdered s.faults) :
    Unfired (reportFault k true s) := by
  have raised : Unfired (Machine.raiseFault k s) := h.raiseFault k
  obtain ⟨hlists, -⟩ := raiseFault_faults k s
  obtain ⟨x, hx, hcls⟩ := Option.map_eq_some_iff.1 (raiseInto_activeClass_of_classA hk ho)
  have looked : Unfired (checkLock (Machine.raiseFault k s)) := by
    obtain e | e := checkLock_of_active (hlists.trans hx) (by rintro rfl; cases hcls)
    · rwa [e]
    · rw [e]; exact Unfired.settle raised
  unfold reportFault; split
  · exact h
  · exact looked

/-! ## A halted cycle -/

theorem cycleOnClass_of_halted (h : s.cycle.st = .halted) : cycleOnClass s = handOver s := by
  unfold cycleOnClass
  rw [h]
  split <;> rfl

theorem withdrawCore_of_halted (h : s.cycle.st = .halted) (k : FaultKind) : (withdrawCore k s).cycle.st = .halted := by
  unfold withdrawCore; dsimp only; split
  · rwa [settle_cycle_st]
  · have told : (activate { s with faults := withdrawFrom k s.faults }).cycle.st = .halted := by
      obtain ⟨hcycle, -⟩ := activate_keeps { s with faults := withdrawFrom k s.faults }
      rwa [hcycle]
    rw [cycleOnFall_of_standing (.inr (by rw [told]; decide)), cycleOnClass_of_halted told, handOver_cycle_st, told]

/-- A withdraw lets no halted cycle run on (R34). -/
theorem reportFault_false_of_halted (h : s.cycle.st = .halted) (k : FaultKind) :
    (reportFault k false s).cycle.st = .halted := by
  unfold reportFault; split
  · exact h
  · have fallen : (withdrawCore k s).cycle.st = .halted := withdrawCore_of_halted h k
    show (checkLock (withdrawCore k s)).cycle.st = .halted
    unfold checkLock; split
    · exact withdrawCore_of_halted fallen .lockFault
    · exact fallen

end
end Sys2Proof.Machine

namespace Sys2Proof.Machine

/-! PROOFS. The half-cycle event of a zero-cross that finds no sag (O30; R142, R144, R153, R154). -/

section
variable {s : State}

/-- A zero-cross 5 ms or more after the last one is taken (R138). -/
theorem taken_of_late {f : Feeder} {since : Nat} (h : 5000 ≤ since) : taken f since = true := by simp [taken, takenUs, h]

/-- A half-cycle that is not low ends the sag run (R144). -/
theorem sagTest_of_not_low {dominant n : Nat} (hn : s.feeder.nominal = some n) (hhigh : 88 * n ≤ 100 * s.feeder.peak) :
    sagTest dominant s = { s with feeder := { s.feeder with sagRun := 0 } } := by
  unfold sagTest
  exact if_neg (by simpa [lowPeak, hn] using hhigh)

/-- The first zero-cross in MAINS_RUNNING closes no half-cycle, and so has no sag test (R142). -/
theorem zeroCross_of_unopened {since dominant : Nat} (hst : s.feeder.st = .running) (hsince : 5000 ≤ since)
    (hopen : s.feeder.halfOpen = false) : zeroCross since dominant s = crossedOn s := by
  unfold zeroCross
  rw [if_pos (taken_of_late hsince), hst]
  dsimp only
  unfold runningCross
  rw [hopen]
  rfl

/-- The half-cycle event with the next half-cycle opened, for a window of `w` (R153, R154). -/
theorem crossedOn_eq {w hc sc : Nat} (hw : s.feeder.window = some w)
    (hhc : hc = if s.loads.position = 0 then s.loads.heaterLevel * w / 30 else s.loads.heaterCount)
    (hsc : sc = if s.loads.position = 0 then s.loads.steamLevel * w / 20 else s.loads.steamCount) :
    crossedOn s =
      { s with
        feeder := { s.feeder with halfOpen := true, peak := 0, crossed := true, watchdog := some 40 }
        loads :=
          { s.loads with
            heaterCount := hc, steamCount := sc
            heaterGate := decide (s.loads.position * hc / w < (s.loads.position + 1) * hc / w)
            steamGate := decide (s.loads.position * sc / w < (s.loads.position + 1) * sc / w)
            position := if s.loads.position + 1 < w then s.loads.position + 1 else 0 } } := by
  subst hhc hsc
  unfold crossedOn crossTaken halfCycleEvent
  dsimp only
  rw [hw]
  rfl

/-- Settles O30: with no sag found the zero-cross is the half-cycle event, on the sag run that the test has ended or, with no
half-cycle closed, left. -/
theorem halfCycleFiresLoads : Obligations.HalfCycleFiresLoads := by
  intro since dominant w n hc sc s hl hst hsince hw hn hcalm hhc hsc
  refine (live_of_live hl (zeroCross since dominant)).trans (congrArg _ ?_)
  cases hopen : s.feeder.halfOpen with
  | false => exact (zeroCross_of_unopened hst hsince hopen).trans (crossedOn_eq hw hhc hsc)
  | true =>
    have hhigh : 88 * n ≤ 100 * s.feeder.peak := hcalm.resolve_left (by simp [hopen])
    rw [zeroCross_of_running hst hsince hopen, sagTest_of_not_low hn hhigh]
    exact crossedOn_eq (s := { s with feeder := { s.feeder with sagRun := 0 } }) hw hhc hsc

end
end Sys2Proof.Machine

namespace Sys2Proof.Machine

/-! PROOFS. Learning the mains (O29): the half-cycles recorded, the judgement on sixteen of them, and the joining it starts (R111, R138,
R140). -/

section
variable {s : State}

/-! ## Half-cycles recorded -/

/-- The record with the half-cycle that this zero-cross closes (R140). -/
def halfClosed (since : Nat) (s : State) : State :=
  { s with feeder := { s.feeder with intervals := s.feeder.intervals ++ [since], peaks := s.feeder.peaks ++ [s.feeder.peak] } }

theorem zeroCross_of_learning {since dominant : Nat} (hst : s.feeder.st = .learning) (hsince : 5000 ≤ since) :
    zeroCross since dominant s = crossTaken (learnCross since s) := by
  unfold zeroCross
  rw [if_pos (taken_of_late hsince), hst]

theorem learnCross_of_unopened (since : Nat) (hopen : s.feeder.halfOpen = false) :
    learnCross since s = { s with feeder := { s.feeder with halfOpen := true } } := by
  unfold learnCross
  exact if_neg (by simp [hopen])

/-- A zero-cross that closes a half-cycle records it, and the sixteenth closing judges the attempt (R140). -/
theorem learnCross_of_open (since : Nat) (hopen : s.feeder.halfOpen = true) :
    (s.feeder.intervals.length < 15 → learnCross since s = halfClosed since s) ∧
      (s.feeder.intervals.length = 15 → learnCross since s = judgeLearning (halfClosed since s)) := by
  have hlength : (halfClosed since s).feeder.intervals.length = s.feeder.intervals.length + 1 := List.length_append
  have hcross : learnCross since s =
      if (halfClosed since s).feeder.intervals.length = 16 then judgeLearning (halfClosed since s) else halfClosed since s := by
    unfold learnCross
    exact if_pos hopen
  rw [hcross, hlength]
  exact ⟨fun h => if_neg (by omega), fun h => if_pos (by omega)⟩

theorem halfClosed_sums (since : Nat) (s : State) :
    (halfClosed since s).feeder.intervals.sum = s.feeder.intervals.sum + since ∧
      (halfClosed since s).feeder.peaks.sum = s.feeder.peaks.sum + s.feeder.peak := by
  simp [halfClosed]

/-! ## The judgement -/

/-- The mean interval of 50 Hz gives a window of 100, that of 60 Hz one of 120 (R140). -/
theorem judgeWindow_of_success {mean candidate w : Nat} (hpeak : 100 ≤ candidate)
    (h : (w = 100 ∧ 9000 ≤ mean ∧ mean ≤ 11000) ∨ (w = 120 ∧ 7500 ≤ mean ∧ mean ≤ 8999)) :
    judgeWindow mean candidate = some w := by
  unfold judgeWindow nominalLow
  rw [if_pos hpeak]
  obtain ⟨rfl, hmean⟩ | ⟨rfl, hmean⟩ := h
  · exact if_pos hmean
  · rw [if_neg (by omega), if_pos hmean]

theorem judgeWindow_of_failure {mean candidate : Nat} (h : candidate < 100 ∨ mean < 7500 ∨ 11000 < mean) :
    judgeWindow mean candidate = none := by
  unfold judgeWindow nominalLow
  split
  · rw [if_neg (by omega), if_neg (by omega)]
  · rfl

/-- Learning has ended in MAINS_RUNNING, its first half-cycle open (R140). -/
def learnedRunning (w : Nat) (s : State) : State :=
  { s with
    feeder := { s.feeder with window := some w, nominal := some (s.feeder.peaks.sum / 16), st := .running, halfOpen := true } }

/-- Learning has ended in LOST, MAINS_LOST having been raised (R140). -/
def learnedLost (w : Nat) (s : State) : State :=
  { s with
    feeder :=
      { s.feeder with
        window := some w, nominal := some (s.feeder.peaks.sum / 16), st := .lost, halfOpen := false, resume := some 1000 } }

theorem judgeLearning_of_success {w : Nat}
    (h : judgeWindow (s.feeder.intervals.sum / 16) (s.feeder.peaks.sum / 16) = some w) :
    (s.faults.holds .mainsLost = false → judgeLearning s = halfCycleEvent (enterJoinListen (learnedRunning w s))) ∧
      (s.faults.holds .mainsLost = true → judgeLearning s = enterJoinListen (learnedLost w s)) := by
  unfold judgeLearning learningLength
  dsimp only
  rw [h]
  exact ⟨fun hnot => if_neg (by simp [hnot]), fun hheld => if_pos hheld⟩

theorem judgeLearning_of_failure (h : judgeWindow (s.feeder.intervals.sum / 16) (s.feeder.peaks.sum / 16) = none) :
    judgeLearning s = reportFault .mainsLost true { s with feeder := { s.feeder with intervals := [], peaks := [] } } := by
  unfold judgeLearning learningLength
  dsimp only
  rw [h]

/-! ## The joining it starts -/

/-- The station has begun to listen to the Share Line (R80, R89, R111, R123). -/
structure JoiningBegun (s t : State) : Prop where
  member : t.member.st = .joinListen
  period : t.share.period = some s.straps.periodMs
  allowance : t.share.allowance = 0
  framer : s.framer.st = .silent → t.framer.st = .listen
  faults : t.faults = s.faults
  climate : t.climate = s.climate
  table : t.table = s.table
  request : t.request = s.request
  phase : KeepsPhase s t
  inputs : KeepsInputs s t

theorem joiningBegun_enterJoinListen (s : State) : JoiningBegun s (enterJoinListen s) := by
  obtain ⟨inputs, climate, phase, -, -, request, -⟩ := enterJoinListen_lineFrame s
  have faults := enterJoinListen_faults s
  unfold enterJoinListen at *
  obtain ⟨-, table, -, ⟨period, -⟩, -, member, framer⟩ := setMember_frame .joinListen
    { s with
      member := { s.member with periodCount := 0, refWant := 0, joinNonce := none }
      share := { s.share with period := some s.straps.periodMs }
      framer := framerListens s.framer }
  exact
    { member := congrArg Membership.st member
      period
      allowance := (setMember_powerless (.inl rfl) _).2
      framer := fun hsilent => by rw [framer]; simp [framerListens, hsilent]
      faults, climate, table, request, phase, inputs }

/-! ## The attempt -/

/-- A successful attempt where MAINS_LOST is not held: MAINS_RUNNING with its first half-cycle event (R140, R142). -/
theorem crossTaken_learnedRunning (w : Nat) (s : State) :
    (crossTaken (halfCycleEvent (enterJoinListen (learnedRunning w s)))).feeder =
        { (learnedRunning w s).feeder with peak := 0, crossed := true, watchdog := some 40 } ∧
      (crossTaken (halfCycleEvent (enterJoinListen (learnedRunning w s)))).loads.position =
        if s.loads.position + 1 < w then s.loads.position + 1 else 0 := by
  obtain ⟨-, -, -, hfeeder, ⟨-, -, hposition⟩, -⟩ := enterJoinListen_lineFrame (learnedRunning w s)
  generalize enterJoinListen (learnedRunning w s) = u at *
  refine ⟨?_, ?_⟩
  · show { u.feeder with peak := 0, crossed := true, watchdog := some watchdogMs } = _
    rw [hfeeder]; rfl
  · show (if u.loads.position + 1 < u.feeder.window.getD 0 then u.loads.position + 1 else 0) = _
    rw [hfeeder, hposition]; rfl

/-- A successful attempt where MAINS_LOST has been raised: LOST, with the resume timer started and the gates as they were (R140). -/
theorem crossTaken_learnedLost (w : Nat) (s : State) :
    (crossTaken (enterJoinListen (learnedLost w s))).feeder =
        { (learnedLost w s).feeder with peak := 0, crossed := true, watchdog := some 40 } ∧
      KeepsGates s (crossTaken (enterJoinListen (learnedLost w s))) := by
  obtain ⟨-, -, -, hfeeder, hgates, -⟩ := enterJoinListen_lineFrame (learnedLost w s)
  refine ⟨?_, hgates⟩
  show { (enterJoinListen (learnedLost w s)).feeder with peak := 0, crossed := true, watchdog := some watchdogMs } = _
  rw [hfeeder]; rfl

/-- Settles O29: a taken zero-cross in LEARNING records its half-cycle, and at the sixteenth it starts the joining or reports the
loss. -/
theorem learningMeasuresMains : Obligations.LearningMeasuresMains := by
  intro steps since dominant w s hl
  have hexec := live_of_live hl (zeroCross since dominant)
  obtain ⟨hintervals, hpeaks⟩ := halfClosed_sums since s
  refine ⟨live_of_live hl (amplitudeReading steps.val), fun hcrossed hearly => hexec.trans (congrArg _ ?_),
    fun hst hsince => ?_⟩
  · unfold zeroCross
    exact if_neg (by simp [taken, takenUs, hcrossed, Nat.not_le.2 hearly])
  have hcross : exec (.zeroCross since dominant) s = .next (crossTaken (learnCross since s)) :=
    hexec.trans (congrArg _ (zeroCross_of_learning hst hsince))
  refine ⟨fun hopen hfew => ?_, fun hclosed => ?_, fun hopen hfull hpeak hmean => ?_, fun hopen hfull hfail => ?_⟩
  · rw [hcross, (learnCross_of_open since hopen).1 hfew]; rfl
  · rw [hcross, learnCross_of_unopened since hclosed]; rfl
  · rw [hcross, (learnCross_of_open since hopen).2 hfull]
    rw [← hpeaks] at hpeak ⊢
    rw [← hintervals] at hmean
    obtain ⟨onRunning, onLost⟩ := judgeLearning_of_success (judgeWindow_of_success hpeak hmean)
    cases hheld : s.faults.holds .mainsLost with
    | false =>
      rw [onRunning hheld]
      obtain ⟨hfeeder, hposition⟩ := crossTaken_learnedRunning w (halfClosed since s)
      have begun := joiningBegun_enterJoinListen (learnedRunning w (halfClosed since s))
      refine ⟨_, rfl, ?_⟩
      rw [hfeeder]
      exact ⟨rfl, rfl, rfl, rfl, fun _ => ⟨rfl, rfl, rfl, hposition⟩, nofun, begun.member, begun.period, begun.allowance,
        begun.framer, begun.faults, begun.climate, begun.table, begun.request, begun.phase, begun.inputs⟩
    | true =>
      rw [onLost hheld]
      obtain ⟨hfeeder, hgates⟩ := crossTaken_learnedLost w (halfClosed since s)
      have begun := joiningBegun_enterJoinListen (learnedLost w (halfClosed since s))
      refine ⟨_, rfl, ?_⟩
      rw [hfeeder]
      exact ⟨rfl, rfl, rfl, rfl, nofun, fun _ => ⟨rfl, rfl, rfl, hgates⟩, begun.member, begun.period, begun.allowance,
        begun.framer, begun.faults, begun.climate, begun.table, begun.request, begun.phase, begun.inputs⟩
  · rw [← hpeaks, ← hintervals] at hfail
    rw [hcross, (learnCross_of_open since hopen).2 hfull, judgeLearning_of_failure (judgeWindow_of_failure hfail)]
    generalize hu : { halfClosed since s with feeder := { (halfClosed since s).feeder with intervals := [], peaks := [] } } = u
    obtain ⟨hinputs, htable, hfeeder, hstanding, -⟩ := reportFault_cabinetFrame .mainsLost true u
    have hreadings := reportFault_keepsReadings .mainsLost true u
    have hheld := lossHeld_reportFault u
    generalize reportFault .mainsLost true u = v at *
    subst hu
    refine ⟨_, rfl, ?_, hheld, htable, hreadings, hstanding, hinputs⟩
    show { v.feeder with peak := 0, crossed := true, watchdog := some watchdogMs } = _
    rw [hfeeder]; rfl

end
end Sys2Proof.Machine

namespace Sys2Proof.Machine

/-! PROOFS. The loss of mains and the return to MAINS_RUNNING (O32; R34, R141 to R143, R156). -/

section
variable {s : State}

/-- MAINS_RUNNING left for LOST, both loads released, before the loss is reported (R142, R156). -/
def mainsGone (s : State) : State :=
  { s with
    feeder := { s.feeder with st := .lost, watchdog := none, halfOpen := false, sagRun := 0 }
    loads := releaseLoads s.loads }

/-- The learning attempt given up, before the loss is reported (R141). -/
def attemptGone (s : State) : State :=
  { s with feeder := { s.feeder with watchdog := none, intervals := [], peaks := [], halfOpen := false } }

/-- Back in MAINS_RUNNING, before the loss is withdrawn (R143). -/
def mainsBack (s : State) : State :=
  { s with feeder := { s.feeder with st := .running, resume := none, halfOpen := false, sagRun := 0 } }

/-- The watchdog's expiry by the mains state (R141 to R143). -/
theorem watchdogExpiry_of_running_timer (hruns : s.feeder.watchdog.isSome = true) :
    (s.feeder.st = .running → watchdogExpiry s = reportFault .mainsLost true (mainsGone s)) ∧
      (s.feeder.st = .learning → watchdogExpiry s = reportFault .mainsLost true (attemptGone s)) ∧
      (s.feeder.st = .lost → watchdogExpiry s = { s with feeder := { s.feeder with watchdog := none, resume := none } }) := by
  unfold watchdogExpiry
  rw [if_pos hruns]
  exact ⟨fun hst => by rw [hst]; rfl, fun hst => by rw [hst]; rfl, fun hst => by rw [hst]⟩

theorem resumeExpiry_of_running_timer (hruns : s.feeder.resume.isSome = true) :
    resumeExpiry s = reportFault .mainsLost false (mainsBack s) := by
  unfold resumeExpiry
  exact if_pos hruns

theorem zeroCross_of_lost {since dominant : Nat} (hst : s.feeder.st = .lost) (hsince : 5000 ≤ since) :
    zeroCross since dominant s = crossTaken (lostCross s) := by
  unfold zeroCross
  rw [if_pos (taken_of_late hsince), hst]

theorem lostCross_eq (s : State) :
    lostCross s =
      { s with feeder := { s.feeder with resume := if s.feeder.resume.isSome then s.feeder.resume else some 1000 } } := by
  unfold lostCross
  split <;> rfl

/-- Settles O32: each expiry is a report of MAINS_LOST on the state it has made of the supervisor and, at the loss, of the loads. -/
theorem mainsLossAndReturn : Obligations.MainsLossAndReturn := by
  intro since dominant s hl ho
  have hexpiry := live_of_live hl watchdogExpiry
  refine ⟨fun hruns hst => ?_, fun hruns hst => ?_, fun hruns hst => ?_, fun hst hsince => ?_, fun hruns => ?_⟩
  · obtain ⟨onRunning, -⟩ := watchdogExpiry_of_running_timer hruns
    obtain ⟨hinputs, htable, hfeeder, hstanding, hshedding, ⟨hheater, hsteam, hposition⟩, -⟩ :=
      reportFault_cabinetFrame .mainsLost true (mainsGone s)
    obtain ⟨hheaterCount, hsteamCount⟩ : Unfired (reportFault .mainsLost true (mainsGone s)) :=
      Unfired.reportFault_of_classA (s := mainsGone s) ⟨rfl, rfl⟩ rfl ho
    refine ⟨_, hexpiry.trans (congrArg _ (onRunning hst)), hfeeder, lossHeld_reportFault _, hheater, hsteam, hposition,
      hheaterCount, hsteamCount, fun hnone hhalts => ?_, htable, reportFault_keepsReadings _ _ _, hstanding, hshedding, hinputs⟩
    have loss : ClassATaken .mainsLost (mainsGone s) (reportFault .mainsLost true (mainsGone s)) :=
      classATaken_reportFault rfl ho hnone
    exact ⟨loss.cycle hhalts, loss.code⟩
  · obtain ⟨-, onLearning, -⟩ := watchdogExpiry_of_running_timer hruns
    obtain ⟨hinputs, htable, hfeeder, hstanding, -⟩ := reportFault_cabinetFrame .mainsLost true (attemptGone s)
    exact ⟨_, hexpiry.trans (congrArg _ (onLearning hst)), hfeeder, lossHeld_reportFault _, htable,
      reportFault_keepsReadings _ _ _, hstanding, hinputs⟩
  · obtain ⟨-, -, onLost⟩ := watchdogExpiry_of_running_timer hruns
    exact hexpiry.trans (congrArg _ (onLost hst))
  · refine (live_of_live hl (zeroCross since dominant)).trans (congrArg _ ?_)
    rw [zeroCross_of_lost hst hsince, lostCross_eq]
    rfl
  · obtain ⟨hinputs, htable, hfeeder, hstanding, hshedding, -⟩ := reportFault_cabinetFrame .mainsLost false (mainsBack s)
    obtain ⟨hreadings, -, hheld⟩ := reportFault_of_classA (k := .mainsLost) (s := mainsBack s) rfl false ho
    exact ⟨_, (live_of_live hl resumeExpiry).trans (congrArg _ (resumeExpiry_of_running_timer hruns)), hfeeder, hheld,
      fun hhalted => reportFault_false_of_halted (s := mainsBack s) hhalted .mainsLost, htable, hreadings, hstanding, hshedding,
      hinputs⟩

end
end Sys2Proof.Machine

namespace Sys2Proof.Machine

/-! PROOFS. The lock watch (O59), first part: what follows at the cycle leaves the lock-confirm timer with the sense, and only the look
at the lock withdraws LOCK_FAULT (R160, R161). -/

/-! ## The timer and the sense -/

/-- The lock-confirm timer runs only while sense and command differ, and while they differ it runs or, as `fault` says, LOCK_FAULT
is held (R161). The fault may still be held at a match: `checkLock` withdraws it there. -/
def LockTimed (fault : Bool) (s : State) : Prop :=
  (s.loads.lockConfirm.isSome = true → s.lines.locked ≠ s.loads.lock) ∧
    (s.lines.locked ≠ s.loads.lock → s.loads.lockConfirm.isSome = true ∨ fault = true)

/-- A changed lock request takes the timer with it (R160, R161). -/
theorem settle_loads_lockConfirm_of_change {s : State} (h : s.request.lock ≠ s.loads.lock) :
    (settle s).loads.lockConfirm = if s.lines.locked = s.request.lock then none else some lockConfirmMs := by
  have command : (formFan s).loads.lock = s.loads.lock := by
    unfold formFan; dsimp only; split
    · rfl
    · split <;> rfl
  show (formLock (formFan s)).loads.lockConfirm = _
  unfold formLock
  rw [formFan_request, formFan_lines, command, if_neg h]

theorem LockTimed.settle {fault : Bool} {s : State} (h : LockTimed fault s) : LockTimed fault (settle s) := by
  unfold LockTimed at h ⊢
  rw [settle_lines, settle_loads_lock]
  by_cases same : s.loads.lock = s.request.lock
  · rw [settle_loads_lockConfirm same, ← same]
    exact h
  · rw [settle_loads_lockConfirm_of_change fun e => same e.symm]
    split
    · next hmatch => exact ⟨nofun, fun differs => absurd hmatch differs⟩
    · next differs => exact ⟨fun _ => differs, fun _ => .inl rfl⟩

/-! ## What follows at the cycle -/

/-- The lock stays timed, LOCK_FAULT held or not as it was, and the faults in their order. -/
structure LockFollows (s t : State) : Prop where
  timed : ∀ {fault}, LockTimed fault s → LockTimed fault t
  held : t.faults.holds .lockFault = s.faults.holds .lockFault
  ordered : FaultsOrdered s.faults → FaultsOrdered t.faults

theorem LockFollows.refl (s : State) : LockFollows s s := ⟨id, rfl, id⟩

theorem LockFollows.trans {s t u : State} (h : LockFollows s t) (g : LockFollows t u) : LockFollows s u :=
  ⟨fun hs => g.timed (h.timed hs), g.held.trans h.held, fun hs => g.ordered (h.ordered hs)⟩

/-- Where lock, sense and the lists of faults stand. -/
theorem lockFollows_of_lists {s t : State} (ht : ∀ {fault}, LockTimed fault s → LockTimed fault t)
    (ha : t.faults.active = s.faults.active) (hw : t.faults.waiting = s.faults.waiting) : LockFollows s t :=
  ⟨ht, holds_of_lists ha hw _, fun ho => faultsOrdered_of_lists ho ha hw⟩

theorem lockFollows_settle (s : State) : LockFollows s (settle s) :=
  lockFollows_of_lists LockTimed.settle (by rw [settle_faults]) (by rw [settle_faults])

theorem lockFollows_handOver (s : State) : LockFollows s (handOver s) :=
  lockFollows_of_lists
    (fun {fault} hs => handOver_induction (P := LockTimed fault) (fun _ => LockTimed.settle) (fun _ _ _ _ hu => hu) hs)
    (by rw [handOver_faults]) (by rw [handOver_faults])

theorem lockFollows_leaveTo (st : CycleState) (s : State) : LockFollows s (leaveTo st s) := by
  obtain ⟨ha, hw, -⟩ := leaveTo_faults_lists st s
  refine lockFollows_of_lists (fun hs => ?_) ha hw
  unfold leaveTo; dsimp only; split <;> exact hs

theorem lockFollows_activate (s : State) : LockFollows s (activate s) := by
  obtain ⟨ha, hw⟩ := activate_faults s
  refine lockFollows_of_lists (fun hs => ?_) ha hw
  unfold activate; dsimp only; split
  · exact hs
  · split <;> exact hs

theorem lockFollows_handOver_leaveTo (st : CycleState) (s : State) : LockFollows s (handOver (leaveTo st s)) :=
  (lockFollows_leaveTo st s).trans (lockFollows_handOver _)

/-- The cycle changed by itself and its requests handed over. -/
theorem lockFollows_handOver_of_cycle (s : State) (c : Cycle) (m : Climate) :
    LockFollows s (handOver { s with cycle := c, climate := m }) :=
  LockFollows.trans (t := { s with cycle := c, climate := m }) ⟨id, rfl, id⟩ (lockFollows_handOver _)

theorem lockFollows_cycleOnClass (s : State) : LockFollows s (cycleOnClass s) := by
  have stay : LockFollows s (handOver s) := lockFollows_handOver s
  have halted : LockFollows s (haltCycle s) := lockFollows_handOver_leaveTo .halted s
  have held : LockFollows s (holdCycle s) := lockFollows_handOver_of_cycle s _ s.climate
  unfold cycleOnClass; split
  · split
    all_goals first
      | exact halted
      | exact stay
  · split
    · exact held
    · exact stay
  · exact stay
  · exact stay

/-- A raise, once the lists have taken it. -/
theorem lockFollows_raiseFault (k : FaultKind) (s : State) :
    LockFollows { s with faults := raiseInto k s.faults } (raiseFault k s) := by
  unfold raiseFault; dsimp only; split
  · exact lockFollows_settle _
  · exact (lockFollows_activate _).trans (lockFollows_cycleOnClass _)

theorem lockFollows_raiseInto {k : FaultKind} (hk : .lockFault ≠ k) (s : State) :
    LockFollows s { s with faults := raiseInto k s.faults } :=
  ⟨id, raiseInto_holds_of_ne hk s.faults, raiseInto_ordered⟩

theorem lockFollows_checkWater (s : State) : LockFollows s (checkWater s) := by
  unfold checkWater; split
  · exact (lockFollows_raiseInto (by decide) s).trans (lockFollows_raiseFault .waterEmpty s)
  · exact .refl s

theorem lockFollows_enterPhase (i : Nat) (r : Record) (s : State) : LockFollows s (enterPhase i r s) :=
  (lockFollows_handOver_of_cycle s _ _).trans (lockFollows_checkWater _)

theorem lockFollows_endPhase (s : State) : LockFollows s (endPhase s) := by
  have completed : LockFollows s (completeCycle s) := (lockFollows_handOver_leaveTo .done s).trans ⟨id, rfl, id⟩
  unfold endPhase; split
  · exact lockFollows_enterPhase _ _ s
  · exact completed

theorem lockFollows_checkDryPoint (s : State) : LockFollows s (checkDryPoint s) := by
  unfold checkDryPoint; split
  · exact lockFollows_endPhase s
  · exact .refl s

theorem lockFollows_returnToRunning (s : State) : LockFollows s (returnToRunning s) :=
  (lockFollows_handOver_of_cycle s _ s.climate).trans ((lockFollows_checkDryPoint _).trans (lockFollows_checkWater _))

/-- A withdraw, once the lists have taken it. -/
theorem lockFollows_withdrawCore (k : FaultKind) (s : State) :
    LockFollows { s with faults := withdrawFrom k s.faults } (withdrawCore k s) := by
  unfold withdrawCore cycleOnFall; dsimp only; split
  · exact lockFollows_settle _
  · split
    · exact (lockFollows_activate _).trans (lockFollows_returnToRunning _)
    · exact (lockFollows_activate _).trans (lockFollows_cycleOnClass _)

/-- A withdrawn LOCK_FAULT is held no more, whatever its withdrawal lets the cycle do (R166). -/
theorem withdrawCore_lockFault_gone {s : State} (ho : FaultsOrdered s.faults) :
    (withdrawCore .lockFault s).faults.holds .lockFault = false := by
  rw [(lockFollows_withdrawCore .lockFault s).held, ← Bool.not_eq_true, withdrawFrom_holds ho]
  exact fun h => h.1 rfl

/-! ## The watch -/

/-- The lock is watched as `LockWatched` has it of a part that takes events, with the faults in their order. -/
def LockKept (s : State) : Prop :=
  FaultsOrdered s.faults ∧ s.loads.lock = s.request.lock ∧
    (s.loads.lockConfirm.isSome = true ∨ s.faults.holds .lockFault = true ↔ s.lines.locked ≠ s.loads.lock)

theorem LockKept.watched {s : State} (h : LockKept s) : LockWatched s := fun _ => h.2

/-- The lock is watched but for a LOCK_FAULT that may be held at a match. -/
def LockLoose (s : State) : Prop := FaultsOrdered s.faults ∧ LockTimed (s.faults.holds .lockFault) s

theorem LockKept.loose {s : State} (h : LockKept s) : LockLoose s := by
  obtain ⟨ho, -, hwatch⟩ := h
  exact ⟨ho, fun timer => hwatch.1 (.inl timer), hwatch.2⟩

theorem LockLoose.follows {s t : State} (h : LockLoose s) (g : LockFollows s t) : LockLoose t :=
  ⟨g.ordered h.1, g.held ▸ g.timed h.2⟩

/-- With no LOCK_FAULT held at a match nothing is loose. -/
theorem LockLoose.kept {s : State} (h : LockLoose s) (hcommand : s.loads.lock = s.request.lock)
    (hfault : s.faults.holds .lockFault = true → s.lines.locked ≠ s.loads.lock) : LockKept s :=
  ⟨h.1, hcommand, fun due => due.elim h.2.1 hfault, h.2.2⟩

/-- Formed outputs carry the lock request to the command (R160). -/
theorem lock_of_settled {s : State} (h : settle s = s) : s.loads.lock = s.request.lock :=
  (congrArg (fun u : State => u.loads.lock) h).symm.trans (settle_loads_lock s)

/-- The look at the lock leaves it watched (R161). -/
theorem LockLoose.checkLock {s : State} (h : LockLoose s) (hcommand : s.loads.lock = s.request.lock) :
    LockKept (checkLock s) := by
  unfold Machine.checkLock; split
  · next due =>
    obtain ⟨hmatch, -⟩ := due
    have withdrawn : LockLoose { s with faults := withdrawFrom .lockFault s.faults } :=
      ⟨withdrawFrom_ordered h.1, h.2.1, fun differs => absurd hmatch differs⟩
    refine (withdrawn.follows (lockFollows_withdrawCore _ _)).kept
      (lock_of_settled (settledUpkeep.withdrawCore .lockFault trivial)) fun held => ?_
    rw [withdrawCore_lockFault_gone h.1] at held; cases held
  · next undue => exact h.kept hcommand fun held hmatch => undue ⟨hmatch, held⟩

namespace LockKept

/-- A change that the lock then looks at leaves it watched. -/
theorem checkLock {s t : State} (h : LockKept s) (g : LockFollows s t) (ht : settle t = t) : LockKept (checkLock t) :=
  (h.loose.follows g).checkLock (lock_of_settled ht)

theorem settle {s : State} (h : LockKept s) : LockKept (settle s) := by
  obtain ⟨ho, hcommand, hwatch⟩ := h
  unfold LockKept
  rw [settle_faults, settle_lines, settle_request, settle_loads_lock, settle_loads_lockConfirm hcommand, ← hcommand]
  exact ⟨ho, rfl, hwatch⟩

theorem compute {s : State} (h : LockKept s) : LockKept (compute s) := settle (by exact h)

/-- A report of any kind but LOCK_FAULT, which looks at the lock when it has changed something. -/
theorem reportFault {k : FaultKind} (hk : .lockFault ≠ k) (b : Bool) {s : State} (h : LockKept s) :
    LockKept (reportFault k b s) := by
  unfold Machine.reportFault; split
  · exact h
  · split
    · exact h.checkLock ((lockFollows_raiseInto hk s).trans (lockFollows_raiseFault k s)) (settledUpkeep.raiseFault k trivial)
    · have withdrawn : LockFollows s { s with faults := withdrawFrom k s.faults } :=
        ⟨id, withdrawFrom_holds_of_ne hk h.1, withdrawFrom_ordered⟩
      exact h.checkLock (withdrawn.trans (lockFollows_withdrawCore k s)) (settledUpkeep.withdrawCore k trivial)

/-- Requests handed over with the lock request as it was leave the watch as it was. -/
theorem handOver {s : State} (h : LockKept s) (hsame : (formRequest s).lock = s.request.lock) : LockKept (handOver s) := by
  have command : (Machine.handOver s).request.lock = s.loads.lock := by rw [handOver_request, hsame, h.2.1]
  have settled : Machine.settle (Machine.handOver s) = Machine.handOver s := settledUpkeep.handOver trivial
  have follows := lockFollows_handOver s
  refine (h.loose.follows follows).kept (lock_of_settled settled) fun held => ?_
  rw [lock_of_settled settled, command, handOver_lines]
  exact h.2.2.1 (.inr (follows.held ▸ held))

end LockKept
end Sys2Proof.Machine

namespace Sys2Proof.Machine

/-! PROOFS. The lock watch (O59), second part: the cabinet's commands. Each that may change the lock request looks at the lock at its
end (R160, R161). -/

/-- The sense as it has moved to `locked`, with the lock-confirm timer as R161 has it there. -/
def sensed (locked : Bool) (s : State) : State :=
  { s with
    lines := { s.lines with locked }
    loads := { s.loads with lockConfirm := lockTimer s.loads s.lines.locked locked } }

theorem lockReported_eq (locked : Bool) (s : State) :
    lockReported s.lines.locked { s with lines := { s.lines with locked } } = checkLock (settle (sensed locked s)) := rfl

/-- The lock-confirm timer run out (R161). -/
def unconfirmed (s : State) : State := { s with loads := { s.loads with lockConfirm := none } }

namespace LockKept

/-! ## Door, water, lock and fan -/

/-- Leaving the phase, with the lock looked at. -/
theorem left (st : CycleState) {s : State} (h : LockKept s) :
    LockKept (Machine.checkLock (Machine.handOver (leaveTo st s))) :=
  h.checkLock (lockFollows_handOver_leaveTo st s) (settledUpkeep.handOver trivial)

theorem doorOpened {s : State} (h : LockKept s) : LockKept (doorOpened s) := by
  have paused : LockKept (Machine.checkLock (pauseCycle s)) :=
    h.checkLock (lockFollows_handOver_of_cycle s _ _) (settledUpkeep.handOver trivial)
  unfold Machine.doorOpened; split
  · exact paused
  · exact paused
  · exact h.left .idle
  all_goals exact h.settle

/-- The water level is no part of the lock request (R30). -/
theorem waterReported {s : State} (h : LockKept s) (hsame : (formRequest s).lock = s.request.lock) :
    LockKept (waterReported s) := by
  unfold Machine.waterReported; split
  · exact h.checkLock ((lockFollows_handOver s).trans (lockFollows_checkWater _))
      (settledUpkeep.checkWater (settledUpkeep.handOver trivial))
  · exact (h.handOver hsame).reportFault (by decide) _

/-- The sense moved: the timer stops at a match and starts at a departure (R161). -/
theorem lockReported (locked : Bool) {s : State} (h : LockKept s) :
    LockKept (lockReported s.lines.locked { s with lines := { s.lines with locked } }) := by
  obtain ⟨ho, -, hwatch⟩ := h
  have timed : LockTimed (s.faults.holds .lockFault) (sensed locked s) := by
    unfold LockTimed sensed lockTimer; dsimp only; split
    · next hmatch => exact ⟨nofun, fun differs => absurd hmatch differs⟩
    · next differs =>
      split
      · exact ⟨fun _ => differs, fun _ => .inl rfl⟩
      · next differed => exact ⟨fun _ => differs, fun _ => hwatch.2 differed⟩
  have reported : LockLoose (sensed locked s) := ⟨ho, timed⟩
  rw [lockReported_eq]
  exact (reported.follows (lockFollows_settle _)).checkLock (lock_of_settled (settle_settle _))

/-- The timer runs out with LOCK_FAULT raised in its place, while the sense still differs (R161). -/
theorem lockConfirmExpiry {s : State} (h : LockKept s) : LockKept (lockConfirmExpiry s) := by
  unfold Machine.lockConfirmExpiry; split
  · next runs =>
    obtain ⟨ho, hcommand, hwatch⟩ := h
    have differs : s.lines.locked ≠ s.loads.lock := hwatch.1 (.inl runs)
    unfold Machine.reportFault; split
    · next held => exact ⟨ho, hcommand, fun _ => differs, fun _ => .inr held.symm⟩
    · have held : (raiseInto .lockFault s.faults).holds .lockFault = true := (raiseInto_holds _ _ _).2 (.inl rfl)
      have raised : LockLoose
          { unconfirmed s with faults := raiseInto .lockFault s.faults } :=
        ⟨raiseInto_ordered ho, nofun, fun _ => .inr held⟩
      exact (raised.follows (lockFollows_raiseFault .lockFault (unconfirmed s))).checkLock
        (lock_of_settled (settledUpkeep.raiseFault .lockFault trivial))
  · exact h

theorem tachPulse {s : State} (h : LockKept s) : LockKept (tachPulse s) := by
  unfold Machine.tachPulse; split
  · exact h
  · exact reportFault (by decide) _ (settle (by exact h))

theorem tachExpiry {s : State} (h : LockKept s) : LockKept (tachExpiry s) := by
  unfold Machine.tachExpiry; split
  · exact reportFault (by decide) _ (settle (by exact h))
  · exact h

/-! ## Climate -/

theorem evalOverTemp {s : State} (h : LockKept s) : LockKept (evalOverTemp s) := reportFault (by decide) _ (by exact h)

theorem climateUpdate {s : State} (h : LockKept s) : LockKept (climateUpdate s) := by
  unfold Machine.climateUpdate; dsimp only; split
  · exact left .idle (by exact h)
  · exact h.checkLock (lockFollows_handOver_of_cycle s _ s.climate) (settledUpkeep.handOver trivial)

theorem probeRound (r0 r1 r2 : Int) {s : State} (h : LockKept s) : LockKept (probeRound r0 r1 r2 s) :=
  (((reportFault (by decide) _ (by exact h)).reportFault (by decide) _).evalOverTemp).climateUpdate

theorem humidityReading (r : Int) {s : State} (h : LockKept s) : LockKept (humidityReading r s) := by
  unfold Machine.humidityReading; split
  · exact reportFault (by decide) _ (by exact h)
  · next v _ =>
    have sampled : LockKept (Machine.reportFault .humidityFault false (sampledWatch v s)) :=
      reportFault (by decide) _ (by exact h)
    show LockKept (Machine.checkLock (checkDryPoint (Machine.reportFault .humidityFault false (sampledWatch v s))))
    unfold checkDryPoint; split
    · next due => exact sampled.checkLock (lockFollows_endPhase _) (settledUpkeep.endPhase due.1 trivial)
    · exact sampled.loose.checkLock sampled.2.1

theorem firstReadings (r0 r1 r2 rh : Int) {s : State} (h : LockKept s) : LockKept (firstReadings r0 r1 r2 rh s) :=
  (h.probeRound r0 r1 r2).humidityReading rh

/-! ## Keys and the cycle's timers -/

theorem cycleStart (p : Fin 8) {s : State} (h : LockKept s) : LockKept (cycleStart p s) := by
  have stay : LockKept (Machine.checkLock s) := h.loose.checkLock h.2.1
  have started : LockKept (Machine.checkLock (startCycle p s)) := by
    unfold startCycle; split
    · exact stay
    · next r _ =>
      have chosen : LockFollows s { endDisplay s with cycle := { s.cycle with programme := p } } := ⟨id, rfl, id⟩
      exact h.checkLock (chosen.trans (lockFollows_enterPhase 0 r _))
        (settledUpkeep.checkWater (settledUpkeep.handOver trivial))
  have resumed : LockKept (Machine.checkLock (resumeCycle s)) := by
    unfold resumeCycle; split
    · exact stay
    · exact h.checkLock ((lockFollows_handOver_of_cycle s _ _).trans (lockFollows_checkWater _))
        (settledUpkeep.checkWater (settledUpkeep.handOver trivial))
  unfold Machine.cycleStart; split
  · split
    · exact started
    · exact h
  · split
    · exact resumed
    · exact h
  all_goals exact h

theorem startPress (sel2 sel1 sel0 : Bool) {s : State} (h : LockKept s) : LockKept (startPress sel2 sel1 sel0 s) := by
  unfold Machine.startPress; dsimp only; split
  · split
    · exact cycleStart _ (by exact h)
    · exact h
  · exact h

theorem cycleCancel {s : State} (h : LockKept s) : LockKept (cycleCancel s) := by
  have cooled : LockKept (Machine.checkLock (enterCancelCool s)) :=
    h.checkLock ((lockFollows_leaveTo .cancelCool s).trans (lockFollows_handOver_of_cycle _ _ _))
      (settledUpkeep.handOver trivial)
  have stopped : LockKept
      (Machine.checkLock (if coolTemp ≤ s.climate.tmax then enterCancelCool s else Machine.handOver (leaveTo .idle s))) := by
    split
    · exact cooled
    · exact h.left .idle
  unfold Machine.cycleCancel; split
  · exact stopped
  · exact stopped
  · exact stopped
  · split
    · exact h
    · exact h.left .idle
  · exact h.left .idle
  all_goals exact h

theorem cancelPress {s : State} (h : LockKept s) : LockKept (cancelPress s) := by
  unfold Machine.cancelPress; dsimp only; split
  · split
    · exact cycleCancel (by exact h)
    · exact h
  · exact h

/-- A second of starvation is no part of the lock request; the last second of the phase may change it (R20, R27, R30). -/
theorem secondExpiry {s : State} (h : LockKept s) (hfresh : s.request = formRequest s) : LockKept (secondExpiry s) := by
  unfold Machine.secondExpiry; dsimp only; split
  · split
    · refine handOver (by exact h) ?_
      show (formRequest _).lock = s.request.lock
      rw [hfresh]
      unfold starvedSecond; dsimp only; split <;> rfl
    · split
      · next due _ _ =>
        exact checkLock (by exact h) (lockFollows_endPhase _) (settledUpkeep.endPhase due.2 trivial)
      · exact h
  · exact h

theorem pauseExpiry {s : State} (h : LockKept s) : LockKept (pauseExpiry s) := by
  unfold Machine.pauseExpiry; split
  · exact h.left .idle
  · exact h

theorem cancelCoolExpiry {s : State} (h : LockKept s) : LockKept (cancelCoolExpiry s) := by
  unfold Machine.cancelCoolExpiry; split
  · exact h.left .idle
  · exact h

end LockKept
end Sys2Proof.Machine

namespace Sys2Proof.Machine

/-! PROOFS. The lock watch (O59), third part: membership, the Share Line, the timers, the mains and the resets, which change no lock
request but through a report, and the settlement of O59. -/

namespace LockKept

/-! ## The notice slot -/

theorem handFramer {s : State} (h : LockKept s) : LockKept (handFramer s) := by
  unfold LockKept
  rw [handFramer_faults, handFramer_loads, handFramer_request, handFramer_lines]
  exact h

theorem framerRest {s : State} (h : LockKept s) : LockKept (framerRest s) := by
  unfold LockKept
  rw [framerRest_faults, framerRest_loads, framerRest_request, framerRest_lines]
  exact h

theorem fillSlot (k : NoticeKind) {s : State} (h : LockKept s) : LockKept (fillSlot k s) := by
  have computed : LockKept (Machine.compute { s with share := { s.share with raiseReady := none } }) := compute (by exact h)
  exact handFramer (by exact computed)

theorem loadNotice (k : NoticeKind) {s : State} (h : LockKept s) : LockKept (loadNotice k s) := by
  unfold Machine.loadNotice; split
  · exact h
  · exact fillSlot _ (by exact h)

theorem endAttempt {s : State} (h : LockKept s) : LockKept (endAttempt s) := by
  unfold Machine.endAttempt refreshSlot; dsimp only; split
  · exact loadNotice _ (by exact h)
  · split
    · exact h
    · exact fillSlot _ (by exact h)

theorem clearLineFree {s : State} (h : LockKept s) : LockKept (clearLineFree s) := by
  unfold Machine.clearLineFree; split <;> exact h

theorem startHold (originated : Bool) {s : State} (h : LockKept s) : LockKept (startHold originated s) := by
  unfold Machine.startHold; split
  · exact h
  · exact compute (by exact h)

/-! ## Membership -/

theorem setMember (m : MemberState) {s : State} (h : LockKept s) : LockKept (setMember m s) := compute (by exact h)

theorem setTable (table : List Entry) {s : State} (h : LockKept s) : LockKept (setTable table s) :=
  compute (by exact reportFault (k := .bankOverflow) (by decide) _ (by exact h))

theorem enterJoinListen {s : State} (h : LockKept s) : LockKept (enterJoinListen s) := setMember _ (by exact h)

theorem enterStandby {s : State} (h : LockKept s) : LockKept (enterStandby s) := by
  unfold Machine.enterStandby; dsimp only; split
  · exact enterJoinListen (setTable _ (setMember _ (by exact h)))
  · exact setTable _ (setMember _ (by exact h))

theorem enterIsolated {s : State} (h : LockKept s) : LockKept (enterIsolated s) :=
  setMember _ (reportFault (by decide) _ (by exact h))

theorem exitIsolated {s : State} (h : LockKept s) : LockKept (exitIsolated s) :=
  enterJoinListen (setTable _ (by exact h))

theorem enterDuplicate {s : State} (h : LockKept s) : LockKept (enterDuplicate s) :=
  reportFault (by decide) _ (setMember _ (by exact h))

theorem enterJoinAsk {s : State} (h : LockKept s) : LockKept (enterJoinAsk s) := loadNotice _ (setMember _ (by exact h))

theorem enterJoinConfirm {s : State} (h : LockKept s) : LockKept (enterJoinConfirm s) := loadNotice _ (setMember _ h)

theorem enterMember (held : Nat) {s : State} (h : LockKept s) : LockKept (enterMember held s) := by
  unfold Machine.enterMember; dsimp only; split
  · exact loadNotice _ (reportFault (by decide) _ (setMember _ (by exact h)))
  · exact reportFault (by decide) _ (setMember _ (by exact h))

theorem memberPower {s : State} (h : LockKept s) : LockKept (memberPower s) := by
  have leaving : LockKept (Machine.loadNotice .leave (Machine.setMember .leaving s)) := loadNotice _ (h.setMember _)
  unfold Machine.memberPower; split
  · exact h.enterStandby
  · exact h.enterStandby
  · exact leaving
  · exact leaving
  · exact leaving
  · exact leaving
  · exact h
  · exact h
  · exact h.enterJoinListen

theorem powerPress {s : State} (h : LockKept s) : LockKept (powerPress s) := by
  have powered {u : State} (hu : LockKept u) : LockKept (cyclePower u) := by
    unfold cyclePower; split
    · exact (hu.left .standby).memberPower
    · exact (hu.left .standby).memberPower
    · exact (hu.left .idle).memberPower
    all_goals exact hu
  unfold Machine.powerPress; dsimp only; split
  · split
    · exact powered h
    · exact h
  · exact h

/-! ## Received notices -/

theorem ownAddress (k : NoticeKind) {s : State} (h : LockKept s) : LockKept (ownAddress k s) := by
  have defended : LockKept (defendAddress s) := by
    unfold defendAddress; split
    · exact loadNotice _ (by exact h)
    · exact h.loadNotice _
  unfold Machine.ownAddress; split
  · exact h.enterDuplicate
  · exact h.enterDuplicate
  · exact h.enterDuplicate
  · exact h.enterDuplicate
  · split
    · exact defended
    · exact h.enterDuplicate
  all_goals exact h

theorem frameSeen {s : State} (h : LockKept s) : LockKept (frameSeen s) := clearLineFree (by exact h)

theorem deliver (addr : Nat) (n : Notice) {s : State} (h : LockKept s) : LockKept (deliver addr n s) := by
  unfold Machine.deliver; dsimp only; split
  · refine framerRest (endAttempt ?_)
    split
    · exact h.frameSeen.ownAddress _
    · exact h.frameSeen.setTable _
  · exact h

theorem discardFrame {s : State} (h : LockKept s) : LockKept (discardFrame s) := by
  unfold Machine.discardFrame; split
  · exact h.frameSeen.endAttempt.framerRest
  · exact h

/-! ## Own attempts -/

theorem idleHoldExpiry {s : State} (h : LockKept s) : LockKept (idleHoldExpiry s) := by
  have begun : LockKept (beginSending s) := by
    unfold beginSending; split <;> exact h
  unfold Machine.idleHoldExpiry; split
  · split
    · exact begun
    all_goals exact h
  · exact h

theorem loseArbitration (bit : Nat) {s : State} (h : LockKept s) : LockKept (loseArbitration bit s) := by
  unfold Machine.loseArbitration; split
  · exact h
  · split <;> exact h

theorem completionAction (n : Notice) {s : State} (h : LockKept s) : LockKept (completionAction n s) := by
  unfold Machine.completionAction
  cases n with
  | joinAsk =>
    cases s.member.st with
    | joinAsk => exact setMember _ (by exact h)
    | _ => exact h
  | joinConfirm =>
    cases s.member.st with
    | joinConfirm => exact h.enterMember _
    | _ => exact h
  | leave =>
    cases s.member.st with
    | leaving => exact h.enterStandby
    | _ => exact h
  | _ => exact h

theorem complete (n : Notice) {s : State} (h : LockKept s) : LockKept (complete n s) := by
  have loaded {u : State} (hu : LockKept u) : LockKept (loadHeldOver u) := by
    unfold loadHeldOver; split
    · exact hu
    · exact loadNotice _ (by exact hu)
  exact framerRest (loaded (completionAction n (by exact h)))

theorem loseLine {otherwise : State → State} {s : State} (h : LockKept s) (ho : LockKept (otherwise s)) :
    LockKept (loseLine otherwise s) := by
  unfold Machine.loseLine; split
  all_goals first
    | exact ho
    | exact h.enterIsolated
    | exact h.enterStandby

theorem failAttempt {s : State} (h : LockKept s) : LockKept (failAttempt s) := by
  unfold Machine.failAttempt; dsimp only; split
  · exact h
  · have failed : LockKept
        { s with framer := touchLine { s.framer with failures := min (s.framer.failures + 1) failureLimit } } := h
    refine framerRest ?_
    split
    · exact failed.loseLine failed.endAttempt
    · exact failed.endAttempt

/-! ## Shed marks and the line -/

theorem markSeen (ownPulse inFrame : Bool) {s : State} (h : LockKept s) : LockKept (markSeen ownPulse inFrame s) := by
  have held (own : Bool) {u : State} (hu : LockKept u) : LockKept (if own then u else Machine.startHold false u) := by
    split
    · exact hu
    · exact hu.startHold false
  unfold Machine.markSeen; dsimp only; split
  · refine framerRest ?_
    split
    · exact endAttempt (held _ (clearLineFree (by exact h)))
    · exact held _ (clearLineFree (by exact h))
  · exact h

theorem stuckLine {s : State} (h : LockKept s) : LockKept (stuckLine s) := by
  have stuck : LockKept { s with framer := framerStuck s.framer, member := { s.member with inFlight := false } } := h
  unfold Machine.stuckLine; split
  · exact h
  · exact stuck.loseLine stuck.clearLineFree

theorem releaseStuck {s : State} (h : LockKept s) : LockKept (releaseStuck s) := by
  unfold Machine.releaseStuck; split <;> exact h

theorem lineFreed {s : State} (h : LockKept s) : LockKept (lineFreed s) := by
  unfold Machine.lineFreed; dsimp only; split
  · split
    · split
      · exact h
      · exact exitIsolated (by exact h)
    · exact h
  · exact h

/-! ## Timers of sharing and membership -/

theorem memberPeriod {s : State} (h : LockKept s) : LockKept (memberPeriod s) := by
  have told : LockKept (cadence s) := by
    unfold cadence; split
    · split
      · exact loadNotice _ (by exact h)
      · exact h
    · exact loadNotice _ (by exact h)
  unfold Machine.memberPeriod; dsimp only; split
  · split
    · exact enterJoinAsk (by exact h)
    · exact h
  · split
    · exact enterJoinConfirm (by exact h)
    · exact h
  · exact told
  all_goals exact h

theorem periodExpiry {s : State} (h : LockKept s) : LockKept (periodExpiry s) := by
  have aged : LockKept (ageTable s) := reportFault (by decide) _ (by exact h)
  unfold Machine.periodExpiry; split
  · exact memberPeriod (compute (by exact aged))
  · exact h

theorem raiseExpiry {s : State} (h : LockKept s) : LockKept (raiseExpiry s) := by
  have computed : LockKept (Machine.compute { s with share := { s.share with raiseReady := none } }) := compute (by exact h)
  unfold Machine.raiseExpiry; split
  · exact h
  · exact settle (by exact computed)

theorem limitExpiry {s : State} (h : LockKept s) : LockKept (limitExpiry s) := by
  unfold Machine.limitExpiry; split
  · exact compute (by exact h)
  · exact h

theorem dwellExpiry {s : State} (h : LockKept s) : LockKept (dwellExpiry s) := by
  unfold Machine.dwellExpiry; dsimp only; split
  · split
    · exact exitIsolated (by exact h)
    · exact h
  · exact h

/-! ## Mains -/

theorem sagTest (dominant : Nat) {s : State} (h : LockKept s) : LockKept (sagTest dominant s) := by
  have marked {u : State} (hu : LockKept u) : LockKept (requestMark dominant u) := by
    unfold requestMark; split <;> exact hu
  unfold Machine.sagTest; dsimp only; split
  · split
    · exact startHold true (marked (by exact h))
    · exact h
  · exact h

theorem judgeLearning {s : State} (h : LockKept s) : LockKept (judgeLearning s) := by
  have joined (f : Feeder) : LockKept (Machine.enterJoinListen { s with feeder := f }) := enterJoinListen (by exact h)
  unfold Machine.judgeLearning; dsimp only; split
  · split
    · exact joined _
    · exact joined _
  · exact reportFault (by decide) _ (by exact h)

theorem zeroCross (since dominant : Nat) {s : State} (h : LockKept s) : LockKept (zeroCross since dominant s) := by
  have learnt : LockKept (learnCross since s) := by
    unfold learnCross; dsimp only; split
    · split
      · exact judgeLearning (by exact h)
      · exact h
    · exact h
  have tested : LockKept (if s.feeder.halfOpen then Machine.sagTest dominant s else s) := by
    split
    · exact h.sagTest dominant
    · exact h
  unfold Machine.zeroCross; split
  · split
    · exact h
    · exact learnt
    · exact tested
    · unfold lostCross; split <;> exact h
  · exact h

theorem watchdogExpiry {s : State} (h : LockKept s) : LockKept (watchdogExpiry s) := by
  unfold Machine.watchdogExpiry; split
  · split
    · exact h
    · exact reportFault (by decide) _ (by exact h)
    · exact reportFault (by decide) _ (by exact h)
    · exact h
  · exact h

theorem resumeExpiry {s : State} (h : LockKept s) : LockKept (resumeExpiry s) := by
  unfold Machine.resumeExpiry; split
  · exact reportFault (by decide) _ (by exact h)
  · exact h

end LockKept

/-! ## Resets -/

/-- A reset requests the lock at 110.0 °C and starts the timer unless the sense is locked already (R149, R161). -/
theorem freshStart_lockKept (s : State) : LockKept (freshStart s) := by
  refine LockKept.settle ⟨⟨List.nodup_nil, .nil, rfl⟩, rfl, ?_⟩
  dsimp only
  cases s.lines.locked <;> simp [State.reset, FaultUnit.reset, FaultUnit.holds, LoadOut.reset]

theorem powerOn_lockKept (p0 p1 p2 rh : Int) (s : State) : LockKept (powerOn p0 p1 p2 rh s) :=
  (freshStart_lockKept s).firstReadings p0 p1 p2 rh

theorem releaseReset_lockKept (p0 p1 p2 rh : Int) (s : State) : LockKept (releaseReset p0 p1 p2 rh s) := by
  have kept : LockKept (keepLearned s (freshStart s)) := freshStart_lockKept s
  unfold releaseReset; split
  · exact kept.enterJoinListen.firstReadings p0 p1 p2 rh
  · exact powerOn_lockKept p0 p1 p2 rh s

/-! ## Every step -/

/-- A command turned away in reset leaves nothing to watch, and any other keeps what its effect keeps. -/
theorem lockWatched_of_live {f : State → State} {u t : State} (hf : Live u → LockKept (f u)) (e : live f u = .next t) :
    LockWatched t := by
  cases hr : u.inReset with
  | true =>
    rw [live_of_reset hr, Host.Outcome.next.injEq] at e
    exact fun hl => absurd (hr.symm.trans (e ▸ hl)) (by decide)
  | false =>
    rw [live_of_live hr, Host.Outcome.next.injEq] at e
    exact e ▸ (hf hr).watched

/-- Every command keeps the lock watched. -/
theorem exec_lockWatched {c : Instr} {s t : State} (hk : Live s → LockKept s) (hfresh : RequestFresh s)
    (e : exec c s = .next t) : LockWatched t := by
  cases c with
  | powerOnReset p0 p1 p2 rh => exact Host.Outcome.next.inj e ▸ (powerOn_lockKept p0 p1 p2 rh s).watched
  | resetPinAssert =>
    obtain rfl : assertReset s = t := Host.Outcome.next.inj e
    exact nofun
  | resetPinRelease p0 p1 p2 rh => exact Host.Outcome.next.inj e ▸ (releaseReset_lockKept p0 p1 p2 rh s).watched
  | strapWindowEnd addr cap bank =>
    refine lockWatched_of_live (fun hl => ?_) e
    unfold strapWindowEnd; split <;> exact hk hl
  | keyLineChange key pressed =>
    exact lockWatched_of_live (u := { s with panel := onKey key (fun k => { k with raw := pressed }) s.panel })
      (f := fun u => { u with panel := onKey key (rawLevel pressed) u.panel }) (fun hl => hk hl) e
  | startPress sel2 sel1 sel0 => exact lockWatched_of_live (fun hl => (hk hl).startPress sel2 sel1 sel0) e
  | cancelPress => exact lockWatched_of_live (fun hl => (hk hl).cancelPress) e
  | powerPress => exact lockWatched_of_live (fun hl => (hk hl).powerPress) e
  | keyRelease key =>
    refine lockWatched_of_live (fun hl => ?_) e
    unfold keyRelease; split <;> exact hk hl
  | longPress =>
    refine lockWatched_of_live (fun hl => ?_) e
    unfold longPress; dsimp only; split
    · split <;> exact hk hl
    · exact hk hl
  | historyDisplayStep =>
    refine lockWatched_of_live (fun hl => ?_) e
    unfold displayStep; split
    · exact hk hl
    · split <;> exact hk hl
  | doorOpen =>
    exact lockWatched_of_live (u := { s with lines := { s.lines with doorOpen := true } })
      (fun hl => LockKept.doorOpened (by exact hk hl)) e
  | doorClose =>
    exact lockWatched_of_live (u := { s with lines := { s.lines with doorOpen := false } })
      (fun hl => LockKept.settle (by exact hk hl)) e
  | waterLevelChange adequate =>
    exact lockWatched_of_live (u := { s with lines := { s.lines with waterLow := !adequate } })
      (fun hl => LockKept.waterReported (by exact hk hl) (congrArg Request.lock (hfresh hl)).symm) e
  | lockSenseChange locked =>
    exact lockWatched_of_live (u := { s with lines := { s.lines with locked } })
      (fun hl => (hk hl).lockReported locked) e
  | tachPulse => exact lockWatched_of_live (fun hl => (hk hl).tachPulse) e
  | tripLineChange active =>
    exact lockWatched_of_live (u := { s with lines := { s.lines with trip := active } })
      (f := fun u => evalOverTemp (settle u)) (fun hl => (LockKept.settle (by exact hk hl)).evalOverTemp) e
  | zeroCross since dominant => exact lockWatched_of_live (fun hl => (hk hl).zeroCross since dominant) e
  | zeroCrossWatchdogExpiry => exact lockWatched_of_live (fun hl => (hk hl).watchdogExpiry) e
  | resumeTimerExpiry => exact lockWatched_of_live (fun hl => (hk hl).resumeExpiry) e
  | probeRound p0 p1 p2 => exact lockWatched_of_live (fun hl => (hk hl).probeRound p0 p1 p2) e
  | humiditySample rh => exact lockWatched_of_live (fun hl => (hk hl).humidityReading rh) e
  | warmUpExpiry =>
    refine lockWatched_of_live (fun hl => ?_) e
    unfold warmUpExpiry; split <;> exact hk hl
  | trackingExpiry =>
    refine lockWatched_of_live (fun hl => ?_) e
    unfold trackingExpiry; split <;> exact hk hl
  | secondTimerExpiry => exact lockWatched_of_live (fun hl => (hk hl).secondExpiry (hfresh hl)) e
  | pauseTimerExpiry => exact lockWatched_of_live (fun hl => (hk hl).pauseExpiry) e
  | cancelCoolTimerExpiry => exact lockWatched_of_live (fun hl => (hk hl).cancelCoolExpiry) e
  | sharePeriodExpiry => exact lockWatched_of_live (fun hl => (hk hl).periodExpiry) e
  | raiseReadyExpiry => exact lockWatched_of_live (fun hl => (hk hl).raiseExpiry) e
  | isolationLimitExpiry => exact lockWatched_of_live (fun hl => (hk hl).limitExpiry) e
  | isolationDwellExpiry => exact lockWatched_of_live (fun hl => (hk hl).dwellExpiry) e
  | tachWatchdogExpiry => exact lockWatched_of_live (fun hl => (hk hl).tachExpiry) e
  | lockConfirmExpiry => exact lockWatched_of_live (fun hl => (hk hl).lockConfirmExpiry) e
  | buzzerStep => exact lockWatched_of_live (f := buzzerStep) (fun hl => hk hl) e
  | lampFlashToggle =>
    exact lockWatched_of_live (f := fun u => { u with panel := { u.panel with phaseLamp := u.panel.phaseLamp.toggled } })
      (fun hl => hk hl) e
  | idleHoldExpiry => exact lockWatched_of_live (fun hl => (hk hl).idleHoldExpiry) e
  | receiveDemand addr cls boost want claim draw => exact lockWatched_of_live (fun hl => (hk hl).deliver _ _) e
  | receivePresence addr => exact lockWatched_of_live (fun hl => (hk hl).deliver _ _) e
  | receiveJoinAsk addr nonce => exact lockWatched_of_live (fun hl => (hk hl).deliver _ _) e
  | receiveJoinConfirm addr nonce held => exact lockWatched_of_live (fun hl => (hk hl).deliver _ _) e
  | receiveLeave addr => exact lockWatched_of_live (fun hl => (hk hl).deliver _ _) e
  | frameDiscarded => exact lockWatched_of_live (fun hl => (hk hl).discardFrame) e
  | arbitrationLost bit => exact lockWatched_of_live (fun hl => (hk hl).loseArbitration bit) e
  | noticeCompletion =>
    unfold exec execNoticeCompletion at e
    refine lockWatched_of_live (fun hl => ?_) e
    split
    · exact hk hl
    · exact (hk hl).complete _
  | attemptFailed => exact lockWatched_of_live (fun hl => (hk hl).failAttempt) e
  | shedMarkSeen ownPulse inFrame => exact lockWatched_of_live (fun hl => (hk hl).markSeen ownPulse inFrame) e
  | lineStuck => exact lockWatched_of_live (fun hl => (hk hl).stuckLine) e
  | lineStuckRelease => exact lockWatched_of_live (fun hl => (hk hl).releaseStuck) e
  | lineFreed => exact lockWatched_of_live (fun hl => (hk hl).lineFreed) e
  | amplitudeSenseReading steps => exact lockWatched_of_live (f := amplitudeReading steps.val) (fun hl => hk hl) e

/-- Settles O59: the timer moves with the command wherever the outputs are formed, every change of the lock request ends in a look at
the lock, and all else leaves command, sense and LOCK_FAULT as they are. -/
theorem stepKeepsLockWatched : Obligations.StepKeepsLockWatched := by
  intro s t ho hfresh hwatch e
  have kept (hl : Live s) : LockKept s := ⟨ho, hwatch hl⟩
  unfold step at e
  split at e
  · next c rest _ => exact exec_lockWatched (s := { s with pending := rest }) kept hfresh e
  · obtain rfl : idle s = t := Host.Outcome.next.inj e
    rw [(reads_idle s).1]
    exact fun hl => hwatch hl

end Sys2Proof.Machine

namespace Sys2Proof.Machine

/-! PROOFS. Firing spread over a window (O39; R154, R155): the half-cycles fired before a position telescope to floor(j × n / W). -/

/-- Within a window a step of one position raises the quotient by one where the half-cycle fires, and by none where it is withheld. -/
theorem succ_mul_div_of_fires {n w : Nat} (hw : 0 < w) (hn : n ≤ w) (k : Nat) :
    (k + 1) * n / w = k * n / w + if fires n w k then 1 else 0 := by
  have atMost : (k + 1) * n / w ≤ k * n / w + 1 := by
    calc (k + 1) * n / w = (k * n + n) / w := by rw [Nat.succ_mul]
      _ ≤ (k * n + w) / w := Nat.div_le_div_right (Nat.add_le_add_left hn _)
      _ = k * n / w + 1 := Nat.add_div_right _ hw
  have atLeast : k * n / w ≤ (k + 1) * n / w := Nat.div_le_div_right (Nat.mul_le_mul_right n k.le_succ)
  unfold fires
  split
  · next fired => have := of_decide_eq_true fired; omega
  · next withheld => have : ¬k * n / w < (k + 1) * n / w := fun lt => withheld (decide_eq_true lt); omega

/-- The half-cycles fired before position `j` under one count (R154). -/
theorem fired_before {n w : Nat} (hw : 0 < w) (hn : n ≤ w) (j : Nat) :
    ((List.range j).filter (fires n w)).length = j * n / w := by
  induction j with
  | zero => simp
  | succ k ih =>
    rw [List.range_succ, List.filter_append, List.length_append, ih, succ_mul_div_of_fires hw hn, List.filter_singleton]
    cases fires n w k <;> rfl

/-- A window up to a position and from it on. -/
theorem range_eq_append_from {j w : Nat} (hj : j ≤ w) :
    List.range w = List.range j ++ (List.range w).filter fun k => decide (j ≤ k) := by
  obtain ⟨d, rfl⟩ := Nat.exists_eq_add_of_le hj
  have early : (List.range j).filter (fun k => decide (j ≤ k)) = [] :=
    List.filter_eq_nil_iff.2 fun k hk => by simpa using hk
  have late : ((List.range d).map (j + ·)).filter (fun k => decide (j ≤ k)) = (List.range d).map (j + ·) :=
    List.filter_eq_self.2 fun k hk => by
      obtain ⟨i, -, rfl⟩ := List.mem_map.1 hk
      simp
  rw [List.range_add, List.filter_append, early, late, List.nil_append]

/-- From a position on a window fires what is left of its count (R154). -/
theorem fired_from {n w j : Nat} (hw : 0 < w) (hn : n ≤ w) (hj : j ≤ w) :
    j * n / w + (((List.range w).filter fun k => decide (j ≤ k)).filter (fires n w)).length = n := by
  have parts := congrArg (fun l => (l.filter (fires n w)).length) (range_eq_append_from hj)
  rw [List.filter_append, List.length_append, fired_before hw hn, fired_before hw hn, Nat.mul_div_cancel_left n hw] at parts
  exact parts.symm

/-- Before a position a lowered count has lost no more than the whole window loses (R155). -/
theorem mul_div_le_of_lowered {n n2 w j : Nat} (hw : 0 < w) (hle : n2 ≤ n) (hj : j ≤ w) :
    j * n / w ≤ j * n2 / w + (n - n2) := by
  have : j * n ≤ j * n2 + w * (n - n2) := by
    calc j * n = j * n2 + j * (n - n2) := by rw [← Nat.mul_add, Nat.add_sub_cancel' hle]
      _ ≤ j * n2 + w * (n - n2) := Nat.add_le_add_left (Nat.mul_le_mul_right _ hj) _
  calc j * n / w ≤ (j * n2 + w * (n - n2)) / w := Nat.div_le_div_right this
    _ = j * n2 / w + (n - n2) := Nat.add_mul_div_left _ _ hw

/-- Settles O39: the fired half-cycles telescope, and a lowered window fires from its position on only what is left of the lower
count. -/
theorem firingSpreadsEvenly : Obligations.FiringSpreadsEvenly := by
  intro n n2 w j hw hn hle hj
  have before := fired_before hw hn j
  have rest := fired_from hw (hle.trans hn) hj
  have lowered := mul_div_le_of_lowered hw hle hj
  exact ⟨before, by omega⟩

end Sys2Proof.Machine

namespace Sys2Proof.Machine

/-! PROOFS. A class B fault as it holds and releases a phase (R26, R27, R32, R33): what LOCK_FAULT and FAN_STALL have in common in O22
and O23. -/

/-! ## Raised -/

/-- Behind a class A or B fault a class B fault waits (R165). -/
theorem raiseInto_active_of_blocking {k : FaultKind} (hk : k.cls = .b) {f : FaultUnit} (h : f.blocking = true) :
    (raiseInto k f).active = f.active := by
  unfold raiseInto; split
  · rfl
  · split
    · next ha => simp [FaultUnit.blocking, FaultUnit.activeClass, ha] at h
    · next x ha =>
      have waits : ¬k.rank < x.rank := by
        cases hx : x.cls <;> simp [FaultUnit.blocking, FaultUnit.activeClass, ha, hx, FaultKind.rank, hk, FaultClass.rank] at h ⊢
      rw [if_neg waits]

/-- A held phase asks for the lock and the fan as it did while it ran (R29, R30). -/
theorem formRequest_heldPhase {s : State} (h : s.cycle.st = .running) :
    (formRequest (heldPhase s)).lock = (formRequest s).lock ∧ (formRequest (heldPhase s)).fan = (formRequest s).fan := by
  unfold formRequest heldPhase lockRequest fanRequest
  rw [h]
  exact ⟨rfl, rfl⟩

/-- A class B fault newly raised, before the requests are handed over: it holds a RUNNING cycle unless a class A or B fault was
active, and leaves the lock and fan requests (R32, R165). -/
structure HoldRaised (k : FaultKind) (s w : State) : Prop where
  loads : w.loads = s.loads
  lines : w.lines = s.lines
  climate : w.climate = s.climate
  st : w.cycle.st = if s.cycle.st = .running ∧ s.faults.blocking = false then .held else s.cycle.st
  lock : (formRequest w).lock = s.request.lock
  fan : (formRequest w).fan = s.request.fan
  held : ∀ j, w.faults.holds j = (raiseInto k s.faults).holds j
  active : s.faults.blocking = false → w.faults.active = some k ∧ w.faults.code = k.code

section
variable {k : FaultKind} {s : State}

theorem holdRaised_of_blocking (hk : k.cls = .b) (hfresh : s.request = formRequest s) (hb : s.faults.blocking = true) :
    HoldRaised k s { s with faults := raiseInto k s.faults } ∧
      raiseFault k s = handOver { s with faults := raiseInto k s.faults } := by
  have fresh : ({ s with faults := raiseInto k s.faults } : State).request =
      formRequest { s with faults := raiseInto k s.faults } := hfresh
  refine ⟨⟨rfl, rfl, rfl, ?_, congrArg Request.lock hfresh.symm, congrArg Request.fan hfresh.symm, fun _ => rfl, ?_⟩, ?_⟩
  · rw [if_neg]
    rintro ⟨-, hcalm⟩
    rw [hb] at hcalm; cases hcalm
  · intro hcalm
    rw [hb] at hcalm; cases hcalm
  · unfold raiseFault
    dsimp only
    rw [if_pos (raiseInto_active_of_blocking hk hb), ← handOver_of_fresh fresh]

/-- Where no class A or B fault was active the raised one is, and the display ends (R165, R171). -/
theorem raiseInto_hold (hk : k.cls = .b) (ho : FaultsOrdered s.faults) (hb : s.faults.blocking = false) :
    (raiseInto k s.faults).active = some k ∧ (raiseInto k s.faults).activeCode = k.code ∧
      (raiseInto k s.faults).activeClass = some .b := by
  have active : (raiseInto k s.faults).active = some k := raiseInto_active_of_calm ho hb (by rw [hk]; decide)
  simp [FaultUnit.activeCode, FaultUnit.activeClass, active, hk]

theorem holdRaised_of_running (hk : k.cls = .b) (ho : FaultsOrdered s.faults) (hfresh : s.request = formRequest s)
    (hb : s.faults.blocking = false) (hst : s.cycle.st = .running) :
    HoldRaised k s (heldPhase (endDisplay { s with faults := raiseInto k s.faults })) := by
  obtain ⟨hlock, hfan⟩ := formRequest_heldPhase hst
  obtain ⟨hact, hcode, -⟩ := raiseInto_hold hk ho hb
  exact ⟨rfl, rfl, rfl, (if_pos ⟨hst, hb⟩).symm, hlock.trans (congrArg Request.lock hfresh.symm),
    hfan.trans (congrArg Request.fan hfresh.symm), fun _ => rfl, fun _ => ⟨hact, hcode⟩⟩

theorem holdRaised_of_rest (hk : k.cls = .b) (ho : FaultsOrdered s.faults) (hfresh : s.request = formRequest s)
    (hb : s.faults.blocking = false) (hst : s.cycle.st ≠ .running) :
    HoldRaised k s (endDisplay { s with faults := raiseInto k s.faults }) ∧
      raiseFault k s = handOver (endDisplay { s with faults := raiseInto k s.faults }) := by
  obtain ⟨hact, hcode, hcls⟩ := raiseInto_hold hk ho hb
  have hne : (raiseInto k s.faults).active ≠ s.faults.active := by
    intro e
    rw [FaultUnit.activeClass, e] at hcls
    simp [FaultUnit.blocking, FaultUnit.activeClass, hcls] at hb
  have hnota : (raiseInto k s.faults).activeClass ≠ some .a := by rw [hcls]; decide
  have raised : raiseFault k s = cycleOnClass (activate { s with faults := raiseInto k s.faults }) := by
    unfold raiseFault
    exact if_neg hne
  refine ⟨⟨rfl, rfl, rfl, (if_neg fun both => hst both.1).symm, congrArg Request.lock hfresh.symm,
    congrArg Request.fan hfresh.symm, fun _ => rfl, fun _ => ⟨hact, hcode⟩⟩, ?_⟩
  rw [raised, activate_of_not_classA hnota]
  exact cycleOnClass_of_rest (s := endDisplay { s with faults := raiseInto k s.faults }) hst hnota

/-- A raise of class B ends where the requests of such a state are handed over. -/
theorem holdRaised_raiseFault (hk : k.cls = .b) (ho : FaultsOrdered s.faults) (hfresh : s.request = formRequest s) :
    ∃ w, HoldRaised k s w ∧ raiseFault k s = handOver w := by
  cases hb : s.faults.blocking with
  | true => exact ⟨_, holdRaised_of_blocking hk hfresh hb⟩
  | false =>
    by_cases hst : s.cycle.st = .running
    · exact ⟨_, holdRaised_of_running hk ho hfresh hb hst, raiseFault_of_classB_running hk ho hb hst⟩
    · exact ⟨_, holdRaised_of_rest hk ho hfresh hb hst⟩

/-- A class B fault already held is raised no further, and its state is as it leaves one (R163). -/
theorem holdRaised_of_held (hk : k.cls = .b) (ho : FaultsOrdered s.faults) (hfresh : s.request = formRequest s)
    (hheld : s.faults.holds k = true) : HoldRaised k s s := by
  have notCalm : s.faults.blocking ≠ false := by
    intro hcalm
    rw [holds_of_calm ho hcalm (by rw [hk]; decide)] at hheld
    cases hheld
  refine ⟨rfl, rfl, rfl, (if_neg fun both => notCalm both.2).symm, congrArg Request.lock hfresh.symm,
    congrArg Request.fan hfresh.symm, fun j => ?_, fun hcalm => absurd hcalm notCalm⟩
  rw [Bool.eq_iff_iff, raiseInto_holds]
  exact ⟨.inr, fun hj => hj.elim (fun e => e ▸ hheld) id⟩

end

/-! ## Withdrawn -/

/-- The fault withdrawn and the display ended, before the held phase runs on. -/
def lifted (k : FaultKind) (s : State) : State := endDisplay { s with faults := withdrawFrom k s.faults }

section
variable {k : FaultKind} {s : State}

/-- Behind the last hold only faults of class C are left. -/
theorem lifted_calm (ho : FaultsOrdered s.faults) (ha : s.faults.active = some k) (hc : ∀ j ∈ s.faults.waiting, j.cls = .c) :
    (lifted k s).faults.blocking = false := by
  obtain ⟨hact, -, -⟩ := withdrawFrom_of_active ho ha
  show (withdrawFrom k s.faults).blocking = false
  unfold FaultUnit.blocking FaultUnit.activeClass
  rw [hact]
  cases hw : s.faults.waiting with
  | nil => rfl
  | cons j l => simp [hc j (by simp [hw])]

theorem lifted_ordered (ho : FaultsOrdered s.faults) : FaultsOrdered (lifted k s).faults :=
  faultsOrdered_of_lists (withdrawFrom_ordered ho) rfl rfl

theorem lifted_lock (ho : FaultsOrdered s.faults) (ha : s.faults.active = some k) (hc : ∀ j ∈ s.faults.waiting, j.cls = .c) :
    (lifted k s).faults.holds .lockFault = false :=
  holds_of_calm (lifted_ordered ho) (lifted_calm ho ha hc) (by decide)

/-- The last hold lifted with water enough and no dry point found: the phase runs on (R33). -/
theorem withdrawFault_runsOn (hk : k.cls = .b) (ho : FaultsOrdered s.faults) (ha : s.faults.active = some k)
    (hc : ∀ j ∈ s.faults.waiting, j.cls = .c) (hst : s.cycle.st = .held) (hdry : s.climate.dryPoint = false)
    (hwater : s.lines.waterLow = false) : withdrawFault k s = handOver (runOn (lifted k s)) := by
  have core : withdrawCore k s = handOver (runOn (lifted k s)) :=
    (withdrawCore_of_lastHold hk ho ha hc hst).trans (returnToRunning_of_sound (s := lifted k s) (.inr hdry) hwater)
  unfold withdrawFault
  rw [core]
  exact checkLock_of_not_held (by rw [handOver_faults]; exact lifted_lock ho ha hc)

/-- The last hold lifted from a steaming phase with the level low: WATER_EMPTY holds it instead (R26, R33). -/
theorem withdrawFault_lacksWater {r : Record} (hk : k.cls = .b) (ho : FaultsOrdered s.faults)
    (ha : s.faults.active = some k) (hc : ∀ j ∈ s.faults.waiting, j.cls = .c) (hst : s.cycle.st = .held)
    (hdry : s.climate.dryPoint = false) (hwater : s.lines.waterLow = true) (hr : s.cycle.record = some r)
    (hu : r.kind.usesSteam = true) : HeldEmpty (runOn (lifted k s)) (withdrawFault k s) := by
  have steams : (runOn (lifted k s)).cycle.steaming = true := by
    have hrec : (runOn (lifted k s)).cycle.record = some r := hr
    simp only [Cycle.steaming, hrec, Option.map_some, Option.getD_some, hu, Bool.and_true]
    rfl
  have undried : checkDryPoint (handOver (runOn (lifted k s))) = handOver (runOn (lifted k s)) := by
    have hpoint : (handOver (runOn (lifted k s))).climate.dryPoint = false := by rw [handOver_climate]; exact hdry
    unfold checkDryPoint
    rw [hpoint, if_neg (by simp)]
  have core : withdrawCore k s = checkWater (handOver (runOn (lifted k s))) :=
    (withdrawCore_of_lastHold hk ho ha hc hst).trans (congrArg checkWater undried)
  unfold withdrawFault
  rw [core]
  exact heldEmpty_checkWater steams hwater (lifted_ordered (k := k) ho) (lifted_calm ho ha hc)

/-- The last hold lifted from a DRY phase whose dry point was found in it: the phase after it is entered at once (R27, R33). -/
theorem withdrawFault_dryHoldEnds {r : Record} (hk : k.cls = .b) (ho : FaultsOrdered s.faults)
    (ha : s.faults.active = some k) (hc : ∀ j ∈ s.faults.waiting, j.cls = .c) (hst : s.cycle.st = .held)
    (hdry : s.climate.dryPoint = true) (hkind : s.cycle.kind = some .dry)
    (hr : readRom s.cycle.programme (s.cycle.index + 1) = some r) (hcool : r.kind = .cool) :
    DryHoldEnds r s (withdrawFault k s) := by
  generalize hrun : handOver (runOn (lifted k s)) = u
  have phase : KeepsPhase (runOn (lifted k s)) u := hrun ▸ handOver_keepsPhase _
  obtain ⟨hust, hprog, hidx, hrec, -⟩ := (keepsPhase_iff _ _).1 phase
  have hreads : readRom u.cycle.programme (u.cycle.index + 1) = some r := by rw [hprog, hidx]; exact hr
  have due : checkDryPoint u = endPhase u := by
    unfold checkDryPoint
    refine if_pos ⟨hust, ?_, ?_⟩
    · rw [Cycle.kind, hrec]; exact hkind
    · rw [← hrun, handOver_climate]; exact hdry
  have entered : NextEntered r u (endPhase u) := nextEntered_endPhase hreads
  have wet : checkWater (endPhase u) = endPhase u := by
    have hrecord : (endPhase u).cycle.record = some r := by rw [entered.cycle]
    have dry : (endPhase u).cycle.steaming = false := by simp [Cycle.steaming, hrecord, hcool, PhaseKind.usesSteam]
    unfold checkWater
    rw [dry]
    rfl
  have core : withdrawCore k s = endPhase u := by
    rw [withdrawCore_of_lastHold hk ho ha hc hst]
    show checkWater (checkDryPoint (handOver (runOn (lifted k s)))) = _
    rw [hrun, due, wet]
  have faults : (endPhase u).faults = (lifted k s).faults := by
    rw [entered.faults, ← hrun]; exact handOver_faults _
  have stay : withdrawFault k s = endPhase u := by
    unfold withdrawFault
    rw [core]
    exact checkLock_of_not_held (by rw [faults]; exact lifted_lock ho ha hc)
  obtain ⟨hsteam, hheater⟩ := readRom_cool hr hcool
  obtain ⟨hact, -, -⟩ := withdrawFrom_of_active ho ha
  have cycle := entered.cycle
  have request := entered.request
  rw [stay]
  refine ⟨by rw [cycle], by rw [cycle]; exact hprog, by rw [cycle]; exact congrArg (· + 1) hidx, by rw [cycle], by rw [cycle],
    by rw [cycle], by rw [cycle], ?_, ?_, by rw [request], ?_, ?_⟩
  · rw [request]; simp [Request.want, hsteam, hheater]
  · rw [request, hcool]; rfl
  · rw [entered.climate]; exact watchEntry_off (by simp [hcool]) _
  · rw [faults]; exact hact

/-- The two states agree in what the end of a hold depends on: phase, faults, climate and water level. -/
structure SameHold (s v : State) : Prop where
  phase : KeepsPhase s v
  faults : v.faults = s.faults
  climate : v.climate = s.climate
  water : v.lines.waterLow = s.lines.waterLow

/-- Loads, lock sense and formed outputs have no part in it. -/
theorem sameHold_settle (s : State) (l : LoadOut) (locked : Bool) :
    SameHold s (settle { s with loads := l, lines := { s.lines with locked } }) where
  phase := settle_keepsPhase { s with loads := l, lines := { s.lines with locked } }
  faults := settle_faults _
  climate := settle_climate _
  water := by rw [settle_lines]

/-- The last hold lifted, by what the phase has met meanwhile (R26, R27, R33). -/
theorem SameHold.lastHold {v : State} (h : SameHold s v) (hk : k.cls = .b) (ho : FaultsOrdered s.faults)
    (hst : s.cycle.st = .held) (ha : s.faults.active = some k) (hc : ∀ j ∈ s.faults.waiting, j.cls = .c) :
    (s.climate.dryPoint = false →
      (s.lines.waterLow = false → withdrawFault k v = handOver (runOn (lifted k v))) ∧
        (s.lines.waterLow = true → (∃ r, s.cycle.record = some r ∧ r.kind.usesSteam = true) →
          (withdrawFault k v).cycle.st = .held ∧ (withdrawFault k v).faults.active = some .waterEmpty ∧
            (withdrawFault k v).request.want = 0)) ∧
      (s.climate.dryPoint = true → s.cycle.kind = some .dry →
        ∀ r, readRom s.cycle.programme (s.cycle.index + 1) = some r → r.kind = .cool → DryHoldEnds r s (withdrawFault k v)) := by
  obtain ⟨phase, hfaults, hclimate, hwater⟩ := h
  obtain ⟨hvst, hprog, hidx, hrecord, -⟩ := (keepsPhase_iff _ _).1 phase
  rw [← hfaults] at ho ha hc
  rw [← hvst] at hst
  rw [← hclimate, ← hwater, ← hprog, ← hidx, Cycle.kind, ← hrecord]
  refine ⟨fun hdry => ⟨withdrawFault_runsOn hk ho ha hc hst hdry, fun hlow ⟨r, hr, hu⟩ => ?_⟩, fun hdry hkind r hr hcool => ?_⟩
  · have empty := withdrawFault_lacksWater hk ho ha hc hst hdry hlow hr hu
    have hstill : (withdrawFault k v).cycle.st = .held := by rw [empty.cycle]; rfl
    obtain ⟨hwant, -⟩ := empty.handed.off (by rw [hstill]; decide)
    exact ⟨hstill, empty.active, hwant⟩
  · have ended := withdrawFault_dryHoldEnds hk ho ha hc hst hdry hkind hr hcool
    unfold DryHoldEnds at ended ⊢
    rwa [← hprog, ← hidx, ← hfaults]

end
end Sys2Proof.Machine

namespace Sys2Proof.Machine

/-! PROOFS. The lock sense and the lock-confirm timer (O22; R26, R27, R33, R151, R159, R161). -/

section
variable {s : State}

/-- A sense apart from the command leaves LOCK_FAULT as it is (R161). -/
theorem checkLock_of_apart (h : s.lines.locked ≠ s.loads.lock) : checkLock s = s := by
  unfold checkLock
  exact if_neg fun due => h due.1

/-! ## The sense -/

/-- With no LOCK_FAULT held a report of the sense forms the outputs, and of the lock only its timer moves (R159, R161). -/
theorem lockReported_of_unheld {locked : Bool} (h : s.faults.holds .lockFault = false) :
    lockReported s.lines.locked { s with lines := { s.lines with locked } } = settle (sensed locked s) := by
  rw [lockReported_eq]
  exact checkLock_of_not_held (by rw [settle_faults]; exact h)

/-- A match withdraws a LOCK_FAULT that is held (R161). -/
theorem lockReported_of_match {locked : Bool} (ho : FaultsOrdered s.faults) (hcommand : s.loads.lock = s.request.lock)
    (hheld : s.faults.holds .lockFault = true) (hmatch : locked = s.loads.lock) :
    lockReported s.lines.locked { s with lines := { s.lines with locked } } =
      withdrawFault .lockFault (settle (sensed locked s)) := by
  have due : (settle (sensed locked s)).lines.locked = (settle (sensed locked s)).loads.lock ∧
      (settle (sensed locked s)).faults.holds .lockFault = true := by
    rw [settle_lines, settle_loads_lock, settle_faults]
    exact ⟨hmatch.trans hcommand, hheld⟩
  have ordered : FaultsOrdered (settle (sensed locked s)).faults := by rw [settle_faults]; exact ho
  rw [lockReported_eq, withdrawFault, checkLock_of_not_held (withdrawCore_lockFault_gone ordered)]
  unfold checkLock
  exact if_pos due

/-- The valve follows the sense at once (R159). -/
theorem settle_sensed_valve (locked : Bool) (s : State) :
    (settle (sensed locked s)).loads.valve =
      (s.request.valve && decide (8 ≤ (settle (sensed locked s)).loads.steamLevel) && locked && !s.lines.doorOpen) := by
  obtain ⟨-, hvalve, -⟩ := gatesFollow_settle (sensed locked s)
  rw [settle_request, settle_lines] at hvalve
  generalize (settle (sensed locked s)).loads.steamLevel = level at hvalve ⊢
  rw [Bool.eq_iff_iff, hvalve]
  simp [sensed, and_assoc]

theorem sensed_cabinetFrame (locked : Bool) (s : State) :
    CabinetFrame { s with lines := { s.lines with locked } } (settle (sensed locked s)) :=
  CabinetFrame.trans (t := sensed locked s) ⟨.refl _, rfl, rfl, rfl, .refl _, .refl _, rfl, rfl, rfl⟩
    (settle_cabinetFrame _)

/-! ## The timer's end -/

/-- The timer, its sense apart from the command, ends in a raise of LOCK_FAULT (R161). -/
theorem lockConfirmExpiry_of_unheld (hruns : s.loads.lockConfirm.isSome = true) (hheld : s.faults.holds .lockFault = false) :
    lockConfirmExpiry s = checkLock (raiseFault .lockFault (unconfirmed s)) := by
  unfold lockConfirmExpiry
  rw [if_pos hruns]
  show reportFault .lockFault true (unconfirmed s) = _
  unfold reportFault
  rw [if_neg (by show ¬true = s.faults.holds .lockFault; rw [hheld]; decide)]
  rfl

/-- A stopped timer stays stopped while the lock request stands. -/
theorem handOver_lockConfirm_of_same {w : State} (hcommand : w.loads.lock = (formRequest w).lock) :
    (handOver w).loads.lockConfirm = w.loads.lockConfirm := by
  have stands := handOver_induction (s := w)
    (P := fun u => u.loads.lock = u.request.lock ∧ u.loads.lockConfirm = w.loads.lockConfirm)
    (fun u ⟨hlock, hconfirm⟩ => ⟨by rw [settle_loads_lock, settle_request], (settle_loads_lockConfirm hlock).trans hconfirm⟩)
    (fun _ _ _ _ hu => hu) ⟨hcommand, rfl⟩
  exact stands.2

end

/-- Settles O22: a report of the sense forms the outputs on the timer as R161 moves it, and where it withdraws LOCK_FAULT from a held
phase that phase goes on as after any last hold; the timer's end raises LOCK_FAULT, whose hold leaves the lock request. -/
theorem lockSenseAndConfirm : Obligations.LockSenseAndConfirm := by
  intro locked s hl ho hcommand
  have hexec : exec (.lockSenseChange locked) s =
      .next (lockReported s.lines.locked { s with lines := { s.lines with locked } }) :=
    live_of_live (s := { s with lines := { s.lines with locked } }) hl (lockReported s.lines.locked)
  have hframe := sensed_cabinetFrame locked s
  have hexpiry : exec .lockConfirmExpiry s = .next (lockConfirmExpiry s) := live_of_live hl lockConfirmExpiry
  refine ⟨fun hheld => ?_, fun hheld hmatch => ?_, fun hruns hapart hheld hfresh => ?_, fun hstopped => ?_⟩
  · rw [lockReported_of_unheld hheld] at hexec
    have hlock : (settle (sensed locked s)).loads.lock = s.request.lock := settle_loads_lock _
    exact ⟨_, hexec, hlock.trans hcommand.symm, settle_loads_lockConfirm (s := sensed locked s) hcommand,
      settle_sensed_valve locked s, settle_keepsPhase (sensed locked s), settle_request _, settle_climate _, settle_faults _,
      settle_keepsNotice (sensed locked s), hframe⟩
  · rw [lockReported_of_match ho hcommand hheld hmatch] at hexec
    have same : SameHold s (settle (sensed locked s)) := sameHold_settle s _ locked
    have ordered : FaultsOrdered (settle (sensed locked s)).faults := same.faults ▸ ho
    have hgone : (withdrawFault .lockFault (settle (sensed locked s))).faults.holds .lockFault = false := by
      rw [withdrawFault, checkLock_of_not_held (withdrawCore_lockFault_gone ordered)]
      exact withdrawCore_lockFault_gone ordered
    refine ⟨_, hexec, hgone, fun hst ha hc hdry => ?_, fun hst ha hc => (same.lastHold rfl ho hst ha hc).2,
      hframe.trans (withdrawFault_cabinetFrame _ _)⟩
    obtain ⟨runsOn, lacksWater⟩ := (same.lastHold rfl ho hst ha hc).1 hdry
    refine ⟨fun hfull => ?_, lacksWater⟩
    rw [runsOn hfull]
    exact handOver_cycle_st _
  · obtain ⟨w, raised, hraise⟩ := holdRaised_raiseFault (k := .lockFault) (s := unconfirmed s) rfl ho (hfresh hl)
    have hlock : (formRequest w).lock = s.loads.lock := raised.lock.trans hcommand.symm
    have hstay : checkLock (handOver w) = handOver w := by
      refine checkLock_of_apart ?_
      rw [lock_of_settled (settledUpkeep.handOver trivial), handOver_request, handOver_lines, hlock, raised.lines]
      exact hapart
    rw [lockConfirmExpiry_of_unheld hruns hheld, hraise, hstay] at hexpiry
    refine ⟨_, hexpiry, ?_, ?_, ?_, ?_, ?_, ?_⟩
    · rw [handOver_faults, raised.held, raiseInto_holds]; exact .inl rfl
    · rw [handOver_lockConfirm_of_same (by rw [raised.loads, hlock]; rfl), raised.loads]; rfl
    · rw [handOver_faults]; exact raised.active
    · rw [handOver_cycle_st]; exact raised.st
    · rw [handOver_climate]; exact raised.climate
    · rw [← hstay, ← hraise]
      exact (raiseFault_cabinetFrame .lockFault (unconfirmed s)).trans (checkLock_cabinetFrame _)
  · refine hexpiry.trans (congrArg _ ?_)
    unfold lockConfirmExpiry
    rw [hstopped]
    rfl

end Sys2Proof.Machine

namespace Sys2Proof.Machine

/-! PROOFS. The tachometer and its watchdog (O23; R26, R27, R33, R151, R158). -/

/-- A pulse counted, before the outputs are formed (R158). -/
def pulsed (s : State) : State :=
  { s with loads := { s.loads with tachConfirmed := true, tachWatchdog := some tachWatchdogMs } }

/-- The watchdog expired, before the outputs are formed (R158). -/
def stalled (s : State) : State := { s with loads := { s.loads with tachConfirmed := false, tachWatchdog := none } }

/-- The fan runs and is to run on, with the tachometer so confirmed and its watchdog so. -/
structure FanOn (confirmed : Bool) (watchdog : Option Nat) (s : State) : Prop where
  confirmed : s.loads.tachConfirmed = confirmed
  watchdog : s.loads.tachWatchdog = watchdog
  fan : s.loads.fan ≠ 0
  command : fanCommand s ≠ 0

section
variable {s : State} {b : Bool} {d : Option Nat}

/-! ## The fan command -/

theorem loads_fan_of_settled (h : settle s = s) : s.loads.fan = fanCommand s :=
  (congrArg (fun u : State => u.loads.fan) h).symm.trans (settle_loads_fan s)

/-- Only a closed door lets the fan run (R156). -/
theorem doorClosed_of_command (h : fanCommand s ≠ 0) : s.lines.doorOpen = false := by
  cases hd : s.lines.doorOpen with
  | false => rfl
  | true => exact absurd (if_pos hd) h

/-- Behind a closed door a fan request and FAN_STALL each keep the fan on (R156, R158). -/
theorem fanCommand_of_closed (hd : s.lines.doorOpen = false)
    (h : 0 < s.request.fan ∨ s.faults.holds .fanStall = true) : fanCommand s ≠ 0 := by
  unfold fanCommand
  rw [hd, if_neg (by decide)]
  obtain hfan | hstall := h
  · rw [if_neg (by omega : ¬s.request.fan = 0)]
    split
    · split <;> decide
    · omega
  · rw [hstall]
    split
    · decide
    · split
      · decide
      · assumption

/-- A fan that runs on keeps its confirmation and watchdog as the outputs are formed (R158). -/
theorem FanOn.settle (h : FanOn b d s) : FanOn b d (settle s) := by
  obtain ⟨hconfirmed, hwatchdog, hfan, hcommand⟩ := h
  have formed : formFan s = { s with loads := driveFan (fanCommand s) s.loads } := by
    unfold formFan
    exact (if_neg hcommand).trans (if_neg hfan)
  refine ⟨?_, ?_, ?_, ?_⟩
  · rw [settle_loads_tachConfirmed, formed]; exact hconfirmed
  · rw [settle_loads_tachWatchdog, formed]; exact hwatchdog
  · rw [settle_loads_fan]; exact hcommand
  · rw [fanCommand_settle]; exact hcommand

theorem FanOn.handOver (h : FanOn b d { s with request := formRequest s }) : FanOn b d (handOver s) :=
  handOver_induction (P := FanOn b d) (fun _ => FanOn.settle)
    (fun _ _ _ _ ⟨hconfirmed, hwatchdog, hfan, hcommand⟩ => ⟨hconfirmed, hwatchdog, hfan, hcommand⟩) h

/-! ## The pulse -/

theorem tachPulse_of_fan (h : s.loads.fan ≠ 0) : tachPulse s = reportFault .fanStall false (settle (pulsed s)) := if_neg h

theorem fanOn_pulsed (h : s.loads.fan ≠ 0) (hsettled : settle s = s) : FanOn true (some 3000) (settle (pulsed s)) :=
  FanOn.settle ⟨rfl, rfl, h, loads_fan_of_settled hsettled ▸ h⟩

theorem pulsed_cabinetFrame (s : State) : CabinetFrame s (settle (pulsed s)) :=
  settle_cabinetFrame (pulsed s)

/-- With the fan confirmed the heater has its share unless another condition forces it off (R151). -/
theorem heaterLevel_of_fanOn (h : FanOn true d s) (hdivided : LoadsDivided s) :
    s.loads.heaterLevel =
      if s.lines.trip ∨ s.lines.doorOpen ∨ s.faults.blocking ∨ ¬(s.cycle.st = .running ∨ s.cycle.st = .cancelCool) then 0
      else s.loads.heaterAssigned := by
  obtain ⟨hconfirmed, -, hfan, -⟩ := h
  obtain ⟨-, -, hoff, -, -, -, -, hlevel⟩ := hdivided
  have blocking : s.faults.blocking = true ↔ s.faults.activeClass = some .a ∨ s.faults.activeClass = some .b := by
    simp [FaultUnit.blocking]
  rw [hlevel]
  refine if_congr (hoff.trans ?_) rfl rfl
  rw [hconfirmed, blocking]
  simp only [hfan, Bool.true_eq_false, false_or]
  exact or_congr_right (or_congr_right or_comm)

theorem heaterLevel_pulsed (h : s.loads.fan ≠ 0) (hsettled : settle s = s) :
    (settle (pulsed s)).loads.heaterLevel =
      if s.lines.trip ∨ s.lines.doorOpen ∨ s.faults.blocking ∨ ¬(s.cycle.st = .running ∨ s.cycle.st = .cancelCool) then 0
      else (settle (pulsed s)).loads.heaterAssigned := by
  obtain ⟨hst, -⟩ := (keepsPhase_iff _ _).1 (settle_keepsPhase (pulsed s))
  have level := heaterLevel_of_fanOn (fanOn_pulsed h hsettled) (loadsDivided_settle _)
  rw [hst, settle_lines, settle_faults] at level
  exact level

/-- The phase runs on behind FAN_STALL with the fan confirmed (R33, R158). -/
theorem fanOn_runOn (h : s.loads.fan ≠ 0) (hsettled : settle s = s) (hfresh : s.request = formRequest s)
    (hst : s.cycle.st = .held) (hfan : 0 < s.request.fan) :
    FanOn true (some 3000) (handOver (runOn (lifted .fanStall (settle (pulsed s))))) := by
  obtain ⟨hconfirmed, hwatchdog, hon, -⟩ := fanOn_pulsed h hsettled
  refine FanOn.handOver ⟨hconfirmed, hwatchdog, hon, fanCommand_of_closed ?_ (.inl ?_)⟩
  · show (settle (pulsed s)).lines.doorOpen = false
    rw [settle_lines]
    exact doorClosed_of_command (loads_fan_of_settled hsettled ▸ h)
  · show 0 < ((settle (pulsed s)).cycle.record.map Record.fan).getD 0
    obtain ⟨-, -, -, hrecord, -⟩ := (keepsPhase_iff _ _).1 (settle_keepsPhase (pulsed s))
    rw [hfresh] at hfan
    unfold formRequest fanRequest at hfan
    rw [hst] at hfan
    rw [hrecord]
    exact hfan

/-! ## The watchdog -/

theorem tachExpiry_of_running (h : s.loads.tachWatchdog.isSome = true) :
    tachExpiry s = reportFault .fanStall true (settle (stalled s)) := if_pos h

/-- A running watchdog belongs to a running fan (R158). -/
theorem loads_fan_of_watchdog (h : FanWatched s) (hruns : s.loads.tachWatchdog.isSome = true) : s.loads.fan ≠ 0 := by
  obtain ⟨hoff, -, -⟩ := h
  intro hfan
  obtain ⟨-, hnone⟩ := hoff hfan
  rw [hnone] at hruns
  cases hruns

/-- A fan not confirmed forces both loads off (R151). -/
theorem loadsOff_of_unconfirmed (hsettled : settle s = s) (h : s.loads.tachConfirmed = false) :
    s.loads.steamLevel = 0 ∧ s.loads.heaterLevel = 0 := by
  have divided := loadsDivided_settle s
  rw [hsettled] at divided
  obtain ⟨-, -, hheater, hsteam, -, -, steamLevel, heaterLevel⟩ := divided
  have heaterOff := hheater.2 (.inr (.inl h))
  exact ⟨steamLevel.trans (if_pos (hsteam.2 (.inl heaterOff))), heaterLevel.trans (if_pos heaterOff)⟩

/-- The expiry ends where the requests of a state with FAN_STALL raised are handed over. -/
theorem tachExpiry_handsOver (hl : Live s) (ho : FaultsOrdered s.faults) (hfresh : s.request = formRequest s)
    (hw : LockWatched s) (hruns : s.loads.tachWatchdog.isSome = true) :
    ∃ w, HoldRaised .fanStall (settle (stalled s)) w ∧ tachExpiry s = handOver w := by
  have ordered : FaultsOrdered (settle (stalled s)).faults := by rw [settle_faults]; exact ho
  have fresh : (settle (stalled s)).request = formRequest (settle (stalled s)) := requestUpkeep.settle (s := stalled s) hfresh
  rw [tachExpiry_of_running hruns]
  cases hheld : (settle (stalled s)).faults.holds .fanStall with
  | true =>
    refine ⟨_, holdRaised_of_held rfl ordered fresh hheld, ?_⟩
    rw [handOver_of_fresh fresh, settle_settle]
    exact if_pos hheld.symm
  | false =>
    obtain ⟨w, raised, hraise⟩ := holdRaised_raiseFault (k := .fanStall) rfl ordered fresh
    have report : reportFault .fanStall true (settle (stalled s)) = checkLock (handOver w) := by
      unfold reportFault
      rw [hheld, ← hraise]
      rfl
    refine ⟨w, raised, report.trans (checkLock_of_settled hl hw ?_ ?_ fun hlock => ?_)⟩
    · rw [lock_of_settled (settledUpkeep.handOver trivial), handOver_request, raised.lock, settle_request]; rfl
    · rw [handOver_lines, raised.lines, settle_lines]; rfl
    · rw [handOver_faults, raised.held, raiseInto_holds_of_ne (by decide), settle_faults] at hlock
      exact hlock

/-- FAN_STALL keeps an unconfirmed fan on, with its watchdog stopped (R158). -/
theorem fanOn_tachExpiry {w : State} (hsettled : settle s = s) (hfan : s.loads.fan ≠ 0)
    (raised : HoldRaised .fanStall (settle (stalled s)) w) : FanOn false none (handOver w) := by
  have hcommand : fanCommand s ≠ 0 := loads_fan_of_settled hsettled ▸ hfan
  obtain ⟨hconfirmed, hwatchdog, hon, -⟩ : FanOn false none (settle (stalled s)) := FanOn.settle ⟨rfl, rfl, hfan, hcommand⟩
  have hclosed : w.lines.doorOpen = false := by
    rw [raised.lines, settle_lines]
    exact doorClosed_of_command hcommand
  have hstall : w.faults.holds .fanStall = true := by rw [raised.held, raiseInto_holds]; exact .inl rfl
  rw [← raised.loads] at hconfirmed hwatchdog hon
  exact FanOn.handOver ⟨hconfirmed, hwatchdog, hon, fanCommand_of_closed hclosed (.inr hstall)⟩

theorem tachExpiry_cabinetFrame (s : State) : CabinetFrame s (tachExpiry s) := by
  unfold tachExpiry
  split
  · have stopped : CabinetFrame s (settle (stalled s)) := settle_cabinetFrame (stalled s)
    exact stopped.trans (reportFault_cabinetFrame _ _ _)
  · exact .refl s

end

/-- Settles O23: a pulse forms the outputs on a confirmed fan, and where it withdraws FAN_STALL from a held phase that phase goes on
as after any last hold, the fan still on; the watchdog's end raises FAN_STALL on an unconfirmed fan, which forces the loads off. -/
theorem fanTachAndWatchdog : Obligations.FanTachAndWatchdog := by
  intro s hl ho hsettled hfresh hfan hlock
  specialize hsettled hl
  specialize hfresh hl
  have hpulse : exec .tachPulse s = .next (tachPulse s) := live_of_live hl tachPulse
  have hexpiry : exec .tachWatchdogExpiry s = .next (tachExpiry s) := live_of_live hl tachExpiry
  refine ⟨fun hoff => ?_, fun hon hheld => ?_, fun hon hheld => ?_, fun hruns => ?_, fun hstopped => ?_⟩
  · exact hpulse.trans (congrArg _ (if_pos hoff))
  · have unreported : reportFault .fanStall false (settle (pulsed s)) = settle (pulsed s) :=
      reportFault_of_unheld (by rw [settle_faults]; exact hheld)
    rw [tachPulse_of_fan hon, unreported] at hpulse
    obtain ⟨hconfirmed, hwatchdog, -, -⟩ := fanOn_pulsed hon hsettled
    have hsame : (settle (pulsed s)).loads.fan = s.loads.fan :=
      (settle_loads_fan (pulsed s)).trans (loads_fan_of_settled hsettled).symm
    exact ⟨_, hpulse, hconfirmed, hwatchdog, hsame, heaterLevel_pulsed hon hsettled, settle_keepsPhase (pulsed s),
      settle_request _, settle_climate _, settle_faults _, settle_keepsNotice (pulsed s), pulsed_cabinetFrame s⟩
  · have same : SameHold s (settle (pulsed s)) := sameHold_settle s _ s.lines.locked
    have ordered : FaultsOrdered (settle (pulsed s)).faults := same.faults ▸ ho
    have withdrawn : reportFault .fanStall false (settle (pulsed s)) = withdrawFault .fanStall (settle (pulsed s)) :=
      reportFault_of_withdrawn (by rw [settle_faults]; exact hheld)
    have taken := reportTaken_reportFault (k := .fanStall) (by decide) (by decide) false ordered
    rw [withdrawn] at taken
    rw [tachPulse_of_fan hon, withdrawn] at hpulse
    refine ⟨_, hpulse, taken.reported, fun hst ha hc hdry hwant => ?_, fun hst ha hc hdry hkind _ =>
      (same.lastHold rfl ho hst ha hc).2 hdry hkind, (pulsed_cabinetFrame s).trans (withdrawFault_cabinetFrame _ _)⟩
    obtain ⟨runsOn, lacksWater⟩ := (same.lastHold rfl ho hst ha hc).1 hdry
    refine ⟨fun hfull => ?_, lacksWater⟩
    obtain ⟨hconfirmed, hwatchdog, -, -⟩ := fanOn_runOn hon hsettled hfresh hst hwant
    rw [runsOn hfull]
    exact ⟨handOver_cycle_st _, hconfirmed, hwatchdog⟩
  · obtain ⟨w, raised, hexpires⟩ := tachExpiry_handsOver hl ho hfresh hlock hruns
    have hframe := tachExpiry_cabinetFrame s
    rw [hexpires] at hexpiry hframe
    obtain ⟨hconfirmed, hwatchdog, hon, -⟩ := fanOn_tachExpiry hsettled (loads_fan_of_watchdog hfan hruns) raised
    obtain ⟨hsteam, hheater⟩ := loadsOff_of_unconfirmed (settledUpkeep.handOver trivial) hconfirmed
    obtain ⟨hst, -⟩ := (keepsPhase_iff _ _).1 (settle_keepsPhase (stalled s))
    refine ⟨_, hexpiry, ?_, hconfirmed, hwatchdog, hsteam, hheater, hon, ?_, ?_, ?_, hframe⟩
    · rw [handOver_faults, raised.held, raiseInto_holds]; exact .inl rfl
    · have active := raised.active
      rw [settle_faults] at active
      rw [handOver_faults]
      exact active
    · rw [handOver_cycle_st, raised.st, hst, settle_faults]; rfl
    · rw [handOver_climate, raised.climate]; exact settle_climate _
  · refine hexpiry.trans (congrArg _ ?_)
    unfold tachExpiry
    rw [hstopped]
    rfl

end Sys2Proof.Machine
